-- ==== Sys2Proof/Word.lean ====
section
/-!
DEFINITION. The plain value types the part is built from (Table 0-6) and the three fixed-size tables
(eight, four, two) its blocks come in (Tables 0-1 and 0-7).
-/

namespace Sys2Proof

/-- One byte of the control line (R176). -/
abbrev Byte := BitVec 8

/-- The sample word: 24-bit two's complement (Table 0-6). -/
abbrev Sample := BitVec 24

/-- A house index: a count of house samples that wraps modulo 2^48 (R7). -/
abbrev HouseIndex := BitVec 48

/-- The 23 most recent bits of a test sequence, the newest as bit 0 (R165). -/
abbrev SeqReg := BitVec 23

/-- A port, a programme, a member position or an output lane (Table 0-7). -/
abbrev Ix8 := Fin 8

/-- A slot of a lane (Table 0-7). -/
abbrev Ix4 := Fin 4

/-- A checker (Table 0-7). -/
abbrev Ix2 := Fin 2

/-- Eight like things, one for each port, programme, member position or lane. -/
structure Oct (α : Type) where
  (e0 e1 e2 e3 e4 e5 e6 e7 : α)
deriving DecidableEq, Repr

/-- Four like things, one for each slot of a lane. -/
structure Quad (α : Type) where
  (q0 q1 q2 q3 : α)
deriving DecidableEq, Repr

/-- Two like things, one for each checker. -/
structure Duo (α : Type) where
  (d0 d1 : α)
deriving DecidableEq, Repr

/-- The eight indices in ascending order. -/
def eight : List Ix8 := [0, 1, 2, 3, 4, 5, 6, 7]

/-- The four slot numbers in ascending order. -/
def four : List Ix4 := [0, 1, 2, 3]

/-- The two checker numbers in ascending order. -/
def two : List Ix2 := [0, 1]

/-- A table of eight equal things. -/
def Oct.fill {α : Type} (a : α) : Oct α := ⟨a, a, a, a, a, a, a, a⟩

/-- The thing at a place of a table of eight. -/
def Oct.get {α : Type} (o : Oct α) (i : Ix8) : α :=
  match i with
  | 0 => o.e0
  | 1 => o.e1
  | 2 => o.e2
  | 3 => o.e3
  | 4 => o.e4
  | 5 => o.e5
  | 6 => o.e6
  | 7 => o.e7

/-- A table of eight with the thing at one place replaced. -/
def Oct.set {α : Type} (o : Oct α) (i : Ix8) (a : α) : Oct α :=
  match i with
  | 0 => { o with e0 := a }
  | 1 => { o with e1 := a }
  | 2 => { o with e2 := a }
  | 3 => { o with e3 := a }
  | 4 => { o with e4 := a }
  | 5 => { o with e5 := a }
  | 6 => { o with e6 := a }
  | 7 => { o with e7 := a }

/-- A table of eight with the thing at one place changed by a function. -/
def Oct.modify {α : Type} (o : Oct α) (i : Ix8) (f : α → α) : Oct α := o.set i (f (o.get i))

/-- The table of eight whose place `i` holds `f i`. -/
def Oct.ofFn {α : Type} (f : Ix8 → α) : Oct α := ⟨f 0, f 1, f 2, f 3, f 4, f 5, f 6, f 7⟩

/-- Every thing of a table of eight changed by one function. -/
def Oct.map {α β : Type} (f : α → β) (o : Oct α) : Oct β :=
  ⟨f o.e0, f o.e1, f o.e2, f o.e3, f o.e4, f o.e5, f o.e6, f o.e7⟩

/-- The things of a table of eight in ascending order of place. -/
def Oct.toList {α : Type} (o : Oct α) : List α :=
  [o.e0, o.e1, o.e2, o.e3, o.e4, o.e5, o.e6, o.e7]

/-- A table of four equal things. -/
def Quad.fill {α : Type} (a : α) : Quad α := ⟨a, a, a, a⟩

/-- The thing at a place of a table of four. -/
def Quad.get {α : Type} (q : Quad α) (i : Ix4) : α :=
  match i with
  | 0 => q.q0
  | 1 => q.q1
  | 2 => q.q2
  | 3 => q.q3

/-- A table of four with the thing at one place replaced. -/
def Quad.set {α : Type} (q : Quad α) (i : Ix4) (a : α) : Quad α :=
  match i with
  | 0 => { q with q0 := a }
  | 1 => { q with q1 := a }
  | 2 => { q with q2 := a }
  | 3 => { q with q3 := a }

/-- The table of four whose place `i` holds `f i`. -/
def Quad.ofFn {α : Type} (f : Ix4 → α) : Quad α := ⟨f 0, f 1, f 2, f 3⟩

/-- Every thing of a table of four changed by one function. -/
def Quad.map {α β : Type} (f : α → β) (q : Quad α) : Quad β := ⟨f q.q0, f q.q1, f q.q2, f q.q3⟩

/-- The things of a table of four in ascending order of place. -/
def Quad.toList {α : Type} (q : Quad α) : List α := [q.q0, q.q1, q.q2, q.q3]

/-- A table of two equal things. -/
def Duo.fill {α : Type} (a : α) : Duo α := ⟨a, a⟩

/-- The thing at a place of a table of two. -/
def Duo.get {α : Type} (o : Duo α) (i : Ix2) : α :=
  match i with
  | 0 => o.d0
  | 1 => o.d1

/-- A table of two with the thing at one place replaced. -/
def Duo.set {α : Type} (o : Duo α) (i : Ix2) (a : α) : Duo α :=
  match i with
  | 0 => { o with d0 := a }
  | 1 => { o with d1 := a }

/-- The things of a table of two in ascending order of place. -/
def Duo.toList {α : Type} (o : Duo α) : List α := [o.d0, o.d1]

end Sys2Proof
end

