-- ==== Sys2Proof/Syntax.lean ====
section
/-!
DEFINITION. The commands the part takes: one constructor of `Instr` for each row of spec/opcode_table.json,
with the operands the row's rule gives it. The table gives no operand fields, so each operand is taken from
the rule the row names. A host request is also a value of `Request`, whose fields are the bytes of its body
as Tables 11-6, 11-7a and 11-11 lay them out, not yet checked.
-/

namespace Sys2Proof

/-- What paces a house sample (R6), and the time since the previous house sample in thousandths of a
nominal house period: a period of the internal oscillator, or a rising edge at REF. -/
inductive Pace where
  | oscillator (elapsed : Nat)
  | refEdge (elapsed : Nat)
deriving DecidableEq, Repr

/-- One slot of a lane frame: a sample and its validity flag (Table 1-2). -/
structure Slot where
  sample : Sample
  valid : Bool
deriving DecidableEq, Repr

/-- A slot that carries 0 with its validity flag clear (R142). -/
def Slot.silent : Slot := ⟨0, false⟩

/-- One frame that completes on an input lane (R9, R11): whether a marker pattern stood at the expected
position, whether one was found elsewhere since the frame before, the four slots, and the steps of the phase
counter made within the current house sample up to the frame's arrival (R23). It does not say when a pattern was found
(logs 9 and 51). -/
structure LaneInput where
  atExpected : Bool
  elsewhere : Bool
  slots : Quad Slot
  phase : BitVec 8
deriving DecidableEq, Repr

/-- The four conditions the alarm unit qualifies itself with timers (R148). -/
inductive Qualified where
  | unlock
  | silence
  | loudHigh
  | loudLow
deriving DecidableEq, Repr

/-- One member of a DEFINE request: role, primary source and backup source as bytes (Table 11-6). -/
structure MemberField where
  role : Byte
  primary : Byte
  backup : Byte
deriving DecidableEq, Repr

/-- The settings block of a SETUP request, field by field (Table 11-7a). -/
structure SettingsBlock where
  delayTarget : BitVec 32
  loudnessMode : Byte
  loudnessTarget : BitVec 16
  maxBoost : BitVec 16
  maxCut : BitVec 16
  slew : BitVec 16
  trim : BitVec 16
  resetOnChangeover : Byte
  changeoverMode : Byte
  gapLevel : BitVec 16
  holdLimit : BitVec 16
  returnTime : BitVec 16
  silenceLevel : BitVec 16
  silenceSetTime : BitVec 16
  silenceClearTime : BitVec 16
  loudnessWindow : BitVec 16
  loudnessTime : BitVec 16
  overLevel : BitVec 16
deriving DecidableEq, Repr

/-- The request types of Table 11-5. -/
inductive ReqType where
  | ident | start | restart | status | port | portq | define | setup | run | stop | delete | progq
  | switch | lreset | route | routeq | poolq | amask | aquery | aclear | counts | meter | mstop
  | tgen | tcheck | tcheckq
deriving DecidableEq, Repr

/-- One host request with the bytes of its fields (Tables 11-6, 11-7a and 11-11). -/
inductive Request where
  | ident
  | start (poolCode refMode : Byte)
  | restart
  | status
  | port (p enable source lane : Byte)
  | portq (p : Byte)
  | define (programme mode : Byte) (members : List MemberField)
  | setup (programme : Byte) (flags : BitVec 24) (block : SettingsBlock)
  | run (programme : Byte)
  | stop (programme : Byte)
  | delete (programme : Byte)
  | progq (programme : Byte)
  | switch (programme target : Byte)
  | lreset (programme : Byte)
  | route (q s kind n m : Byte)
  | routeq
  | poolq
  | amask (kind notify summary : Byte)
  | aquery (kind number : Byte)
  | aclear (kind number : Byte)
  | counts
  | meter (programmes mode count : Byte)
  | mstop (programmes : Byte)
  | tgen (programme on : Byte) (level : BitVec 16)
  | tcheck (checker enable q s : Byte)
  | tcheckq (checker : Byte)
deriving DecidableEq, Repr

/-- The commands: one constructor for each row of spec/opcode_table.json. -/
inductive Instr where
  | powerOnReset
  | lineReset
  | houseSample (pace : Pace)
  | subBlockEnd
  | secondBoundary
  | presenceWindowEnd
  | frameArrival (p : Ix8) (f : LaneInput)
  | laneDarkTimeout (p : Ix8)
  | intervalEnd (p : Ix8)
  | lockCountExpiry (p : Ix8)
  | underrunWaitEnd (p : Ix8)
  | converterFadeInEnd (p : Ix8)
  | holdoverFadeOutEnd (p : Ix8)
  | holdoverRefillEnd (p : Ix8)
  | holdoverTimerExpiry (p : Ix8)
  | crossfadeStart (n : Ix8)
  | crossfadeCompletion (n : Ix8)
  | returnTimerExpiry (n : Ix8)
  | grant
  | slewAction (n m : Ix8)
  | fadeOutEnd (n : Ix8)
  | freezeEnd (n m : Ix8)
  | gapEnd (n : Ix8)
  | fadeInEnd (n : Ix8)
  | stopFadeEnd (n : Ix8)
  | appliedGainRampEnd (n m : Ix8)
  | trimRampEnd (n : Ix8)
  | checkerSync (c : Ix2)
  | checkerLoss (c : Ix2)
  | setTimerExpiry (k : Qualified) (i : Ix8)
  | clearTimerExpiry (k : Qualified) (i : Ix8)
  | frameReceived (body : List Byte) (crc : BitVec 16)
  | interByteTimeout
  | transmitLineFree
  | restartPerformed
  | unknownType (type tag : Byte) (fields : List Byte)
  | ident (tag : Byte)
  | start (tag poolCode refMode : Byte)
  | restart (tag : Byte)
  | status (tag : Byte)
  | port (tag p enable source lane : Byte)
  | portq (tag p : Byte)
  | define (tag programme mode : Byte) (members : List MemberField)
  | setup (tag programme : Byte) (flags : BitVec 24) (block : SettingsBlock)
  | run (tag programme : Byte)
  | stop (tag programme : Byte)
  | delete (tag programme : Byte)
  | progq (tag programme : Byte)
  | switch (tag programme target : Byte)
  | lreset (tag programme : Byte)
  | route (tag q s kind n m : Byte)
  | routeq (tag : Byte)
  | poolq (tag : Byte)
  | amask (tag kind notify summary : Byte)
  | aquery (tag kind number : Byte)
  | aclear (tag kind number : Byte)
  | counts (tag : Byte)
  | meter (tag programmes mode count : Byte)
  | mstop (tag programmes : Byte)
  | tgen (tag programme on : Byte) (level : BitVec 16)
  | tcheck (tag checker enable q s : Byte)
  | tcheckq (tag checker : Byte)
  | receivedByte (byte : Byte) (stopLow : Bool)
deriving DecidableEq, Repr

end Sys2Proof
end

