-- ==== Sys2Proof/Decode.lean ====
section
/-!
DEFINITION. The reading of a table word. The rows of spec/opcode_table.json carry no bits and no fields, so no
word spells a command; what a command carries is given by its operands. The bytes of control frames are read in
Sys2Proof/Machine/Operands.lean.
-/

namespace Sys2Proof

/-- The command that a word of `nbits` bits spells by the table: none, since no row gives bits. -/
def decodeTableWord (_nbits _w : Nat) : Option Instr := none

end Sys2Proof
end

