-- ==== Sys2Proof/Machine/Numeric.lean ====
section
/-!
DEFINITION. The exact arithmetic that the rules call for: roundings (R2), levels (R14), loudness figures
(R117, R118), the gated loudness of a histogram (R122), amplitudes (R64, R165) and gain factors (R136).
Every logarithm is decided by comparing powers of whole numbers, so no value is approximated.
-/

namespace Sys2Proof.Machine

/-- clamp(v, a, b) of R2. -/
def clampInt (v a b : Int) : Int := if v < a then a else if b < v then b else v

/-- round(a / b) for `b` above 0, halves toward +∞ (R2). -/
def roundDiv (a b : Int) : Int := (2 * a + b) / (2 * b)

/-- round(q), halves toward +∞ (R2). -/
def roundRat (q : Rat) : Int := (q + 1 / 2).floor

/-- The greatest whole number from `lo` to `lo + 2^bits - 1` at which a test holds that holds at `lo` and, once
failed, fails from there on. -/
def greatest (test : Int → Bool) : (bits : Nat) → (lo : Int) → Int
  | 0, lo => lo
  | bits + 1, lo =>
    if test (lo + 2 ^ bits) then greatest test bits (lo + 2 ^ bits) else greatest test bits lo

/-- Whether 10^t · a is at most b, for a whole exponent of either sign. -/
def tenTimesLe (t : Int) (a b : Nat) : Bool :=
  decide (10 ^ t.toNat * a ≤ b * 10 ^ (-t).toNat)

/-- The level of a peak in tenths of a dBFS: 20·log10(peak / 8,388,608) rounded to 0.1, clamped to -99.9 to
0.0, a peak of 0 giving -99.9 (R14). A value t tenths is reached when 10^(2t - 1) is at most the 400th power
of the ratio. -/
def levelOf (peak : Nat) : Int :=
  clampInt (greatest (fun t => tenTimesLe (2 * t - 1) (8388608 ^ 400) (peak ^ 400)) 10 (-999)) (-999) 0

/-- The loudness of a mean energy in tenths: 10·log10(e) rounded to 0.1, clamped to -99.9 to +9.9, an energy
of 0 giving -99.9 (R117, R118). -/
def loudnessOf (e : Rat) : Int :=
  clampInt (greatest (fun t => tenTimesLe (2 * t - 1) (e.den ^ 200) (e.num.toNat ^ 200)) 11 (-999))
    (-999) 99

/-- round(8,388,608 · 10^(L / 20)) for a level L of `level` tenths of a dBFS (R64, R165). -/
def amplitudeOf (level : Int) : Nat :=
  (greatest (fun a => tenTimesLe (-level) ((2 * a - 1).toNat ^ 200) (16777216 ^ 200)) 24 0).toNat

/-- round(2^20 · 10^(total / 2,000)) for a total gain in hundredths of a dB (R136). -/
def gainFactor (total : Int) : Int :=
  greatest (fun a => tenTimesLe (-total) ((2 * a - 1).toNat ^ 2000) (2097152 ^ 2000)) 24 0

/-- The whole part of 2^p · 10^(1/200): the root that the steps of a histogram's half bins are powers of. -/
def rootOfTen (p : Nat) : Nat :=
  (greatest (fun a => decide (a.toNat ^ 200 ≤ 10 * 2 ^ (200 * p))) (p + 1) 0).toNat

/-- 2^(199·p) times a bound of the e-th power of 10^(1/200), from a bound `r` of 2^p times that root. -/
def halfBinPower (p r e : Nat) : Nat := 10 ^ (e / 200) * r ^ (e % 200) * 2 ^ (p * (199 - e % 200))

/-- 2^(199·p) · 10 · Σ n_k · 10^(k / 100) over a list of bins and counts, bounded by `r` (R122). -/
def binSum (p r : Nat) (bins : List (Nat × Nat)) : Nat :=
  (bins.map fun b => b.2 * halfBinPower p r (2 * b.1 + 200)).sum

/-- Whether the mean energy of the counted bins reaches t tenths after rounding, decided at the first of the
given precisions at which a lower and an upper bound of the two sides do not overlap. The last precision of
`loudnessRungs` always decides (log 31). -/
def meanReaches (bins : List (Nat × Nat)) (n : Nat) (t : Int) : List Nat → Bool
  | [] => false
  | p :: rungs =>
    let r := rootOfTen p
    let e := (2 * t + 1599).toNat
    if n * halfBinPower p (r + 1) e ≤ binSum p r bins then true
    else if binSum p (r + 1) bins < n * halfBinPower p r e then false
    else meanReaches bins n t rungs

/-- The precisions, in bits, at which a mean of a histogram is compared (log 31). -/
def loudnessRungs : List Nat := [64, 1024, 32768]

/-- 10·log10(Σ n_k · 10^(M_k / 10) / N) over the given bins, rounded to 0.1, in tenths (R122). -/
def binMean (bins : List (Nat × Nat)) : Int :=
  let n := (bins.map (·.2)).sum
  clampInt (greatest (fun t => meanReaches bins n t loudnessRungs) 10 (-700)) (-700) 99

/-- The integrated loudness of a histogram in tenths, or absent (R122). -/
def integratedOf (bins : List (Nat × Nat)) : Option Int :=
  let counted := bins.filter fun b => 0 < b.2
  if counted = [] then none
  else
    let gate := binMean counted - 100
    let j := (gate + 700).toNat
    some (binMean (counted.filter fun b => j ≤ b.1))

/-- The magnitude of a sample; that of -8,388,608 is 8,388,608 (R13). -/
def magnitude (x : Sample) : Nat := x.toInt.natAbs

/-- A whole number as a sample, saturated (R29, R136). -/
def saturate (v : Int) : Sample := BitVec.ofInt 24 (clampInt v (-8388608) 8388607)

/-- A sample scaled by n / d, rounded with halves toward +∞ (R30, R53, R66). -/
def scale (x : Sample) (n d : Int) : Sample := saturate (roundDiv (x.toInt * n) d)

/-- A counter of `w` bits with `n` added, saturating (R1). -/
def addSat {w : Nat} (c : BitVec w) (n : Nat) : BitVec w := BitVec.ofNat w (min (c.toNat + n) (2 ^ w - 1))

end Sys2Proof.Machine
end

