-- ==== Sys2Proof/Config.lean ====
section
/-!
DEFINITION. What the part fixes without the spec giving its value, each a free value: a constant with no body.
Table 2-4 gives the response of each coefficient set of the interpolator and R29 how the coefficients are used, and no
rule gives the coefficients themselves (assumption log entry 11). R15 takes a PORT whatever its enable byte, and
Table 11-11 gives a meaning to the bytes 0 and 1 only (assumption log entry 17).
-/

namespace Sys2Proof

/-- The two coefficient sets of the interpolator (Table 2-4). -/
inductive CoeffSet where
  | wide
  | narrow
deriving DecidableEq, Repr

/-- FREE VALUE (log entry 11). The coefficient that a set holds for a phase 0 to 255 and for one of the 16
history frames, the oldest frame being number 0 (R29). -/
opaque Config.coefficient (set : CoeffSet) (phase tap : Nat) : Rat

/-- FREE VALUE (log entry 17). Whether a PORT whose enable byte is neither 0 nor 1 asks for the port enabled (R15). -/
opaque Config.portEnable (enable : Byte) : Bool

end Sys2Proof
end

