-- ==== Sys2Proof/Machine/State.lean ====
section
/-!
DEFINITION. Everything the spec gives the part to remember, as plain data, and its value after a power-on
reset. `Device` is the part itself; `State` adds the queue of commands that wait. Fields that the spec does
not name and the model needs carry the words MODEL'S OWN and the number of their assumption log entry.
-/

namespace Sys2Proof.Machine

/-! ## Timebase (Chapter 1) -/

/-- The reference mode a START request chooses (R4). -/
inductive RefMode where
  | word
  | internal
deriving DecidableEq, Repr

/-- The timebase states of Table 1-1. -/
inductive TimeState where
  | internal
  | external
  | holding
deriving DecidableEq, Repr

/-- How far the sub-block end of the boundary that H stands on has come. MODEL'S OWN (log 4). -/
inductive Boundary where
  /-- no house sample has stepped H onto a boundary, or the house sample of that boundary is worked -/
  | none
  /-- H has stepped onto a multiple of 4,800 whose sub-block end is still to be taken -/
  | due
  /-- that sub-block end is taken, and the house sample of the boundary is still to be worked -/
  | taken
deriving DecidableEq, Repr

/-- The timebase (R4 to R8). -/
structure Timebase where
  /-- the reference mode; `none` before START -/
  mode : Option RefMode
  state : TimeState
  /-- house index H: the count of house samples made, and the index of the next to be worked (R7, R8) -/
  h : HouseIndex
  /-- second count -/
  seconds : BitVec 32
  /-- rising edges at REF counted in the present window (R5) -/
  edges : Nat
  /-- in EXTERNAL, the last house sample was made from the oscillator (R6); implied by R6 -/
  oscillatorPaced : Bool
  /-- MODEL'S OWN (log 4): the boundary that H stands on -/
  boundary : Boundary
deriving DecidableEq, Repr

/-! ## Input lanes and converters (Chapters 1 and 2) -/

/-- The lane source of a port (R12). -/
inductive LaneSource where
  | pins
  | loop (q : Ix8)
deriving DecidableEq, Repr

/-- The lane states of Table 1-3. -/
inductive LaneState where
  | dark
  | framing
  | framed
deriving DecidableEq, Repr

/-- A lane receiver with its port's enable and lane source (Section 1.4, R11, R12). -/
structure Lane where
  enabled : Bool
  source : LaneSource
  state : LaneState
  /-- count of consecutive good markers -/
  good : Nat
  /-- count of consecutive bad markers -/
  bad : Nat
  /-- the receiver has an expectation (R9) -/
  expects : Bool
  /-- H at the last marker pattern found (Section 1.4), taken at the arrival that reports it (log 51) -/
  lastMarker : HouseIndex
  /-- invalid-slot count (R11) -/
  invalid : BitVec 16
deriving DecidableEq, Repr

/-- The converter states of Table 2-2. -/
inductive ConvState where
  | off
  | seek
  | measure
  | settle
  | locked
  | holdover
deriving DecidableEq, Repr

/-- The output fade of a converter with its step (R30). A fade-in also tells whether it is the one that
closes an underrun wait, which R33 and R38 read. -/
inductive Fade where
  | none
  | fadeIn (step : Nat) (closing : Bool)
  | fadeOut (step : Nat)
deriving DecidableEq, Repr

/-- An estimator interval in progress (R23): the phase-counter reading at its start and the frames that have
arrived since. -/
structure Interval where
  start : Nat
  count : Nat
deriving DecidableEq, Repr

/-- MODEL'S OWN (log 28). An estimator interval that has ended and whose interval end is still to be worked:
T_int and the observed fill F_obs at the ending frame (R23, R26). -/
structure EndedInterval where
  tInt : Nat
  fObs : Nat
deriving DecidableEq, Repr

/-- One input frame as the elastic FIFO and the interpolation history keep it (Table 2-1). -/
abbrev InputFrame := Quad Sample

/-- The state of one converter (Table 2-1). -/
structure Converter where
  state : ConvState
  /-- elastic FIFO, oldest at the head -/
  fifo : List InputFrame
  interval : Option Interval
  /-- MODEL'S OWN (log 28) -/
  ended : Option EndedInterval
  /-- MODEL'S OWN (log 28): phase-counter reading of the last offered frame -/
  reading : Nat
  sEst : Int
  sApp : Int
  /-- accumulator fraction, 0 to 2^24 − 1 -/
  fraction : Nat
  /-- interpolation history, oldest first -/
  history : List InputFrame
  coeffs : CoeffSet
  fade : Fade
  /-- in a holdover fade-out, the FIFO has run out (R36); implied by R36 -/
  starved : Bool
  underrunWait : Bool
  lockCount : Nat
  holdTimer : Nat
  /-- latency Lc in house samples -/
  lc : Nat
  /-- converting-throughout flag (R38) -/
  throughout : Bool
  /-- slip mark (R38) -/
  slipMark : Bool
  /-- the converted samples formed at the last house sample (R29) -/
  output : Quad Sample
deriving DecidableEq, Repr

/-- A port: lane receiver, converter, slot level detectors, and the converted samples of the last 16 house
samples on their way to source selection, oldest first (R13, R14, R29). -/
structure Port where
  lane : Lane
  conv : Converter
  /-- running peaks -/
  peaks : Quad Nat
  /-- slot levels in tenths of a dBFS -/
  levels : Quad Int
  path : List (Quad Sample)
deriving DecidableEq, Repr

/-! ## Programmes (Chapters 3, 4, 6, 7, 8 and 10) -/

/-- The states of a programme record (Table 3-3). -/
inductive ProgState where
  | free
  | standby
  | active
  | stopping
deriving DecidableEq, Repr

/-- The roles of a member (Table 3-2). -/
inductive Role where
  | front
  | surround
  | low
deriving DecidableEq, Repr

/-- A source p.s (Table 0-7). -/
structure Source where
  port : Ix8
  slot : Ix4
deriving DecidableEq, Repr

/-- A member record (Table 3-2). -/
structure Member where
  role : Role
  primary : Source
  backup : Option Source
deriving DecidableEq, Repr

/-- The loudness modes (Table 3-4). -/
inductive LoudMode where
  | off
  | measure
  | correct
deriving DecidableEq, Repr

/-- The changeover modes (Table 3-4). -/
inductive ChangeMode where
  | manual
  | auto
  | autoReturn
deriving DecidableEq, Repr

/-- The settings of a programme record, each in the unit of Table 3-4. -/
structure Settings where
  delayTarget : Int
  loudnessMode : LoudMode
  loudnessTarget : Int
  maxBoost : Int
  maxCut : Int
  slew : Int
  trim : Int
  resetOnChangeover : Bool
  changeoverMode : ChangeMode
  gapLevel : Int
  holdLimit : Int
  returnTime : Int
  silenceLevel : Int
  silenceSetTime : Int
  silenceClearTime : Int
  loudnessWindow : Int
  loudnessTime : Int
  overLevel : Int
deriving DecidableEq, Repr

/-- A programme record (Table 3-1). -/
structure Record where
  state : ProgState
  members : List Member
  settings : Settings
deriving DecidableEq, Repr

/-- The two sides a programme may stand on (R58). -/
inductive Selection where
  | primary
  | backup
deriving DecidableEq, Repr

/-- Who asked for a change (R58). -/
inductive Origin where
  | host
  | auto
deriving DecidableEq, Repr

/-- The states of a changeover context (Table 4-1). -/
inductive CtxState where
  | idle
  | pending
  | fading
deriving DecidableEq, Repr

/-- The changeover context of a programme (Table 4-1). -/
structure Context where
  selection : Selection
  selectedBy : Origin
  state : CtxState
  /-- pending target with its origin -/
  target : Option (Selection × Origin)
  next : Option Selection
  holdTimer : Nat
  fadeStep : Nat
  quiet : Nat
  gapThreshold : Nat
  returnTimer : Nat
  primaryHealthy : Bool
  backupHealthy : Bool
  fadeFlag : Bool
  /-- MODEL'S OWN (log 24): a sub-block end found the return timer at its limit -/
  returnDue : Bool
  /-- MODEL'S OWN (log 48): a test of R65 has passed, at the entry into PENDING or at a house sample since -/
  startDue : Bool
deriving DecidableEq, Repr

/-- The change states of a member line (Table 6-2). -/
inductive ChangeState where
  | steady
  | slewUp
  | slewDown
  | wait
deriving DecidableEq, Repr

/-- A member's delay line (R91, Table 6-2). Its stored samples lie in the delay memory, in the blocks of
`inUse`, from word `headPos` of the first block on. -/
structure Line where
  /-- in-use queue of block numbers, head first -/
  inUse : List Nat
  /-- spare list of block numbers, head first -/
  spare : List Nat
  /-- word of the first in-use block that holds the head sample; implied by R92 -/
  headPos : Nat
  /-- occupancy D -/
  d : Nat
  headIndex : HouseIndex
  change : ChangeState
  remaining : Nat
  slewCounter : Nat
  freeze : Nat
  clamped : Bool
  dReq : Nat
  underDelay : Bool
  /-- the new length D_new of the present change (R95); Table 0-1 calls it the pending target -/
  dNew : Nat
deriving DecidableEq, Repr

/-- The fade contexts of a programme's delay lines (Table 6-2). -/
inductive FadeCtx where
  | none
  | fadeOut
  | gap
  | fadeIn
deriving DecidableEq, Repr

/-- The modes of a trigger and of a recalculation (Section 6.4). -/
inductive RecalcMode where
  | exact
  | deadband
deriving DecidableEq, Repr

/-- A pending recalculation (R103). -/
structure PendingRecalc where
  mode : RecalcMode
  host : Bool
deriving DecidableEq, Repr

/-- The delay engine's state for one programme (Table 6-2), its lines by member position. -/
structure Delay where
  fade : FadeCtx
  fadeStep : Nat
  gapLength : Nat
  tLines : Int
  pending : Option PendingRecalc
  lines : Oct Line
deriving DecidableEq, Repr

/-- The state of one stage of a weighting filter (R113): its last two inputs and last two outputs, the newer
first. -/
structure FilterStage where
  (v1 v2 w1 w2 : Rat)
deriving DecidableEq, Repr

/-- The meter's state for one member (Table 7-1). -/
structure MeterMember where
  stage1 : FilterStage
  stage2 : FilterStage
  energy : Rat
  peak : Nat
  /-- peak level in tenths of a dBFS -/
  level : Int
deriving DecidableEq, Repr

/-- One entry of a meter's energy list (R115). -/
structure EnergyEntry where
  energy : Rat
  valid : Bool
deriving DecidableEq, Repr

/-- The meter of a programme (Table 7-1). The 800 bin counts are held as the list of the bins whose count is
not 0, by rising bin number. -/
structure Meter where
  mode : LoudMode
  /-- the reset-on-changeover flag the meter has adopted (R120) -/
  resetFlag : Bool
  members : Oct MeterMember
  activeThroughout : Bool
  runningThroughout : Bool
  energies : List EnergyEntry
  momentary : Option Int
  shortTerm : Option Int
  integrated : Option Int
  bins : List (Nat × Nat)
  belowGate : Nat
deriving DecidableEq, Repr

/-- One entry of a gain schedule (R131). -/
structure GainEntry where
  tag : HouseIndex
  gain : Int
deriving DecidableEq, Repr

/-- The gain computer of a programme (Table 8-1). -/
structure Gain where
  g : Int
  previous : Int
  schedule : List GainEntry
deriving DecidableEq, Repr

/-- A ramp of 480 steps (R134, R135). -/
structure Ramp where
  start : Int
  target : Int
  step : Nat
deriving DecidableEq, Repr

/-- The output stage's state for one member: applied gain with its ramp, schedule pointer and the output
sample of the last house sample (R132, R134, R138). -/
structure StageMember where
  applied : Int
  ramp : Option Ramp
  pointer : Nat
  out : Sample
deriving DecidableEq, Repr

/-- The output stage's state for one programme (R53, R134, R135, R137). -/
structure Stage where
  members : Oct StageMember
  trim : Int
  trimRamp : Option Ramp
  /-- house samples of the stop fade taken (R53) -/
  stopStep : Nat
  clips : BitVec 16
deriving DecidableEq, Repr

/-- The test generator of a programme (Table 10-1). -/
structure Generator where
  on : Bool
  level : Int
  amplitude : Nat
  register : SeqReg
  /-- epoch table, oldest first -/
  epochs : List (HouseIndex × SeqReg)
  flag : Bool
deriving DecidableEq, Repr

/-- A programme with the state each block keeps for it (Table 0-1). -/
structure Programme where
  record : Record
  ctx : Context
  delay : Delay
  meter : Meter
  gain : Gain
  stage : Stage
  gen : Generator
deriving DecidableEq, Repr

/-! ## Delay memory and its pool (Chapter 5) -/

/-- The external delay memory: the sample words that differ from what an unlisted word reads as, by rising
word address (R74; log 18). -/
structure DelayMemory where
  cells : List (Nat × Sample)
deriving DecidableEq, Repr

/-- One entry of the pool's request queue, with the limited mark of its request (R78, R79). -/
structure PoolEntry where
  prog : Ix8
  count : Nat
  limited : Bool
deriving DecidableEq, Repr

/-- A grant notice on its way to the delay engine (R84): the blocks each member received and the limited
mark. It waits for the GRANT command (log 23). -/
structure GrantNotice where
  prog : Ix8
  given : List Nat
  limited : Bool
deriving DecidableEq, Repr

/-- The pool manager (R74 to R84). A block's owner is the line whose lists hold it (log 36). -/
structure Pool where
  /-- pool size P in blocks -/
  size : Nat
  /-- free list, head first -/
  free : List Nat
  /-- request queue, oldest first -/
  queue : List PoolEntry
  /-- need figures of each programme -/
  needs : Oct (Option (List Nat))
  /-- MODEL'S OWN (log 23): grant notices the delay engine has not yet taken, oldest first -/
  notices : List GrantNotice
deriving DecidableEq, Repr

/-! ## Output lanes (Chapter 8) -/

/-- One entry of the output slot map (Table 8-3). -/
inductive MapEntry where
  | silence
  | member (n m : Ix8)
  | test (n : Ix8)
deriving DecidableEq, Repr

/-- The 32 slots of the eight output lanes in one house sample (R142). -/
abbrev LaneFrames := Oct (Quad Slot)

/-! ## Alarms (Chapter 9) -/

/-- The alarm kinds, in the order of their kind codes (Table 9-1). -/
inductive Kind where
  | unlock
  | rateRange
  | slip
  | silence
  | loudHigh
  | loudLow
  | delayShort
  | overEvent
  | changeover
  | checkLoss
  | refLoss
deriving DecidableEq, Repr

/-- The 75 alarm instances (R145). -/
inductive Alarm where
  | unlock (p : Ix8)
  | rateRange (p : Ix8)
  | slip (p : Ix8)
  | silence (n : Ix8)
  | loudHigh (n : Ix8)
  | loudLow (n : Ix8)
  | delayShort (n : Ix8)
  | overEvent (n : Ix8)
  | changeover (n : Ix8)
  | checkLoss (c : Ix2)
  | refLoss
deriving DecidableEq, Repr

/-- MODEL'S OWN (log 24). Which of a condition's timers the last sub-block end left at its limit with the
criterion met. -/
inductive Expiry where
  | none
  | set
  | clear
deriving DecidableEq, Repr

/-- An alarm record (Table 9-2). -/
structure AlarmRecord where
  active : Bool
  latch : Bool
  count : BitVec 16
  setTimer : Nat
  clearTimer : Nat
  /-- time of last change -/
  time : BitVec 32
  /-- notice-pending flag -/
  noticed : Bool
  /-- MODEL'S OWN (log 24) -/
  expiry : Expiry
deriving DecidableEq, Repr

/-- A notice of the notice queue (R153). -/
structure Notice where
  alarm : Alarm
  active : Bool
  count : BitVec 16
  time : BitVec 32
  /-- changes-since-queued, 1 to 255 -/
  changes : Nat
deriving DecidableEq, Repr

/-- One thing for each alarm kind. -/
structure PerKind (α : Type) where
  (unlock rateRange slip silence loudHigh loudLow delayShort overEvent changeover checkLoss refLoss : α)
deriving DecidableEq, Repr

/-- The notify and summary enables of a kind (R155). -/
structure Mask where
  notify : Bool
  summary : Bool
deriving DecidableEq, Repr

/-- The 75 alarm records, kind by kind. -/
structure AlarmRecords where
  unlock : Oct AlarmRecord
  rateRange : Oct AlarmRecord
  slip : Oct AlarmRecord
  silence : Oct AlarmRecord
  loudHigh : Oct AlarmRecord
  loudLow : Oct AlarmRecord
  delayShort : Oct AlarmRecord
  overEvent : Oct AlarmRecord
  changeover : Oct AlarmRecord
  checkLoss : Duo AlarmRecord
  refLoss : AlarmRecord
deriving DecidableEq, Repr

/-- The alarm unit (R145 to R163). -/
structure AlarmUnit where
  records : AlarmRecords
  masks : PerKind Mask
  /-- notice queue, oldest first -/
  queue : List Notice
  /-- ALM pin asserted (driven low) -/
  pin : Bool
deriving DecidableEq, Repr

/-! ## Checkers (Chapter 10) -/

/-- The checker states (Table 10-3). -/
inductive CheckState where
  | idle
  | hunt
  | sync
deriving DecidableEq, Repr

/-- A checker (Table 10-3). The error window holds the last comparisons, oldest first; `true` is an error. -/
structure Checker where
  state : CheckState
  watched : Option (Ix8 × Ix4)
  loadCount : Nat
  register : SeqReg
  correctRun : Nat
  window : List Bool
  errors : BitVec 16
  delay : Option HouseIndex
deriving DecidableEq, Repr

/-! ## Control link (Chapter 11) -/

/-- The part states (R188). -/
inductive PartState where
  | config
  | run
deriving DecidableEq, Repr

/-- The receive assembler (R178) with what it has kept of the frame. -/
inductive Assembler where
  | awaitStart
  | awaitLength
  | inBody (length : Nat) (body : List Byte)
  | awaitCheck (body : List Byte) (high : Option Byte)
deriving DecidableEq, Repr

/-- The reason codes of Table 11-4. -/
inductive Reason where
  | unknownType
  | badLength
  | badValue
  | notStarted
  | wrongState
  | sourceInUse
  | noSuchProg
  | listFull
  | noBackup
  | busy
deriving DecidableEq, Repr

/-- The status of a reply with the reason of a refusal (R182). -/
inductive Status where
  | ok
  | clamped
  | refused (r : Reason)
deriving DecidableEq, Repr

/-- A formed reply (R182, R183): its header and, segment by segment, the bytes after the header. `executed`
tells a reply of an executed request from a BUSY reply; `isRestart` marks the reply of a RESTART. -/
structure Reply where
  type : Byte
  tag : Byte
  status : Status
  segments : List (List Byte)
  executed : Bool
  isRestart : Bool
deriving DecidableEq, Repr

/-- What the transmit line carries: the bytes of the frames being sent, and whether they are the reply of a
RESTART (R184, R190). -/
structure Transmission where
  frames : List (List Byte)
  isRestart : Bool
deriving DecidableEq, Repr

/-- A programme's METER subscription (R185). -/
inductive Subscription where
  | none
  | continuous
  | count (remaining : Nat)
deriving DecidableEq, Repr

/-- A METER report (R187). -/
structure Report where
  prog : Ix8
  h : HouseIndex
  momentary : Option Int
  shortTerm : Option Int
  integrated : Option Int
  g : Int
  selection : Selection
  selectedBy : Origin
  ctx : CtxState
  delayShort : Bool
  changing : Bool
  underDelay : Bool
  overrun : Bool
  last : Bool
  peaks : List Int
deriving DecidableEq, Repr

/-- How far a RESTART has come (R190): none, taken with its reply not yet sent, or its reply sent. -/
inductive RestartPhase where
  | none
  | awaiting
  | due
deriving DecidableEq, Repr

/-- The control link (R176 to R192). -/
structure Link where
  part : PartState
  assembler : Assembler
  /-- link error count -/
  errors : BitVec 16
  /-- request queue: bodies of complete frames, oldest first -/
  queue : List (List Byte)
  /-- reply list, oldest first -/
  replies : List Reply
  /-- the transmit line; `none` while it is idle -/
  line : Option Transmission
  restart : RestartPhase
  subscriptions : Oct Subscription
  slots : Oct (Option Report)
deriving DecidableEq, Repr

/-! ## The part, the state, the reasons to stop -/

/-- The part: every block of Table 0-1 and the delay memory it drives. -/
structure Device where
  time : Timebase
  ports : Oct Port
  progs : Oct Programme
  pool : Pool
  mem : DelayMemory
  /-- output slot map (R139) -/
  map : Oct (Quad MapEntry)
  /-- slot values formed in the last eight house samples, oldest first (R142) -/
  formed : List LaneFrames
  /-- the frames emitted at the last house sample; `none` before the first after a reset (R142, R12) -/
  emitted : Option LaneFrames
  alarms : AlarmUnit
  checkers : Duo Checker
  link : Link
deriving DecidableEq, Repr

/-- The state of the model: the commands that wait, first in first out, and the part. -/
structure State where
  pending : List Instr
  dev : Device
deriving DecidableEq, Repr

/-- The faults of the model. There is none: no rule of the spec stops the part. -/
inductive Fault where
deriving DecidableEq, Repr

/-- The refusals of the model. -/
inductive Refusal where
  /-- Raised by `exec` for a command that has no meaning yet; no arm of this model raises it. Safe: it stops
  where the part goes on. -/
  | notModelled (mnemonic : String)
deriving DecidableEq, Repr

/-! ## Values after reset -/

/-- The lane receiver after reset (Table 1-6; log 30 for the last marker's house index). -/
def Lane.reset : Lane :=
  { enabled := false, source := .pins, state := .dark, good := 0, bad := 0, expects := false,
    lastMarker := 0, invalid := 0 }

/-- The converter after reset (Table 2-6). -/
def Converter.reset : Converter :=
  { state := .off, fifo := [], interval := none, ended := none, reading := 0,
    sEst := 16777216, sApp := 16777216, fraction := 0, history := List.replicate 16 (Quad.fill 0),
    coeffs := .wide, fade := .none, starved := false, underrunWait := false, lockCount := 0,
    holdTimer := 0, lc := 40, throughout := false, slipMark := false, output := Quad.fill 0 }

/-- A port after reset (Table 1-6, R29). -/
def Port.reset : Port :=
  { lane := .reset, conv := .reset, peaks := Quad.fill 0, levels := Quad.fill (-999),
    path := List.replicate 16 (Quad.fill 0) }

/-- The default settings of a programme record (Table 3-4). -/
def Settings.default : Settings :=
  { delayTarget := 0, loudnessMode := .measure, loudnessTarget := -230, maxBoost := 60, maxCut := 100,
    slew := 10, trim := 0, resetOnChangeover := false, changeoverMode := .manual, gapLevel := -500,
    holdLimit := 20, returnTime := 30, silenceLevel := -600, silenceSetTime := 10,
    silenceClearTime := 2, loudnessWindow := 30, loudnessTime := 10, overLevel := -10 }

/-- A FREE record (R42). -/
def Record.reset : Record := { state := .free, members := [], settings := .default }

/-- A changeover context after reset (Table 4-1). -/
def Context.reset : Context :=
  { selection := .primary, selectedBy := .host, state := .idle, target := none, next := none,
    holdTimer := 0, fadeStep := 0, quiet := 0, gapThreshold := 26527, returnTimer := 0,
    primaryHealthy := false, backupHealthy := false, fadeFlag := false, returnDue := false,
    startDue := false }

/-- An empty line (R107; log 30 for the head index). -/
def Line.reset : Line :=
  { inUse := [], spare := [], headPos := 0, d := 0, headIndex := 0, change := .steady, remaining := 0,
    slewCounter := 0, freeze := 0, clamped := false, dReq := 0, underDelay := false, dNew := 0 }

/-- The delay engine's state for a programme without lines (R107, R109). -/
def Delay.reset : Delay :=
  { fade := .none, fadeStep := 0, gapLength := 0, tLines := 0, pending := none, lines := Oct.fill .reset }

/-- A filter stage of silence (R113). -/
def FilterStage.zero : FilterStage := ⟨0, 0, 0, 0⟩

/-- The meter's state for a member after reset (R110). -/
def MeterMember.reset : MeterMember :=
  { stage1 := .zero, stage2 := .zero, energy := 0, peak := 0, level := -999 }

/-- A meter after reset (R110; log 30 for the adopted reset-on-changeover flag). -/
def Meter.reset : Meter :=
  { mode := .off, resetFlag := false, members := Oct.fill .reset, activeThroughout := false,
    runningThroughout := false, energies := [], momentary := none, shortTerm := none,
    integrated := none, bins := [], belowGate := 0 }

/-- A gain computer after reset (Table 8-1). -/
def Gain.reset : Gain := { g := 0, previous := 0, schedule := [] }

/-- The output stage's state for a member after reset (R134, R138). -/
def StageMember.reset : StageMember := { applied := 0, ramp := none, pointer := 0, out := 0 }

/-- The output stage's state for a programme after reset (R137, R143). -/
def Stage.reset : Stage :=
  { members := Oct.fill .reset, trim := 0, trimRamp := none, stopStep := 0, clips := 0 }

/-- A test generator after reset (Table 10-1). -/
def Generator.reset : Generator :=
  { on := false, level := -200, amplitude := 838861, register := BitVec.allOnes 23, epochs := [],
    flag := false }

/-- A programme after reset. -/
def Programme.reset : Programme :=
  { record := .reset, ctx := .reset, delay := .reset, meter := .reset, gain := .reset, stage := .reset,
    gen := .reset }

/-- The pool in CONFIG (R89). -/
def Pool.reset : Pool := { size := 0, free := [], queue := [], needs := Oct.fill none, notices := [] }

/-- An alarm record after reset (Table 9-2). -/
def AlarmRecord.reset : AlarmRecord :=
  { active := false, latch := false, count := 0, setTimer := 0, clearTimer := 0, time := 0,
    noticed := false, expiry := .none }

/-- The alarm records after reset (R163). -/
def AlarmRecords.reset : AlarmRecords :=
  { unlock := Oct.fill .reset, rateRange := Oct.fill .reset, slip := Oct.fill .reset,
    silence := Oct.fill .reset, loudHigh := Oct.fill .reset, loudLow := Oct.fill .reset,
    delayShort := Oct.fill .reset, overEvent := Oct.fill .reset, changeover := Oct.fill .reset,
    checkLoss := Duo.fill .reset, refLoss := .reset }

/-- Every kind with both enables set (R155). -/
def Mask.allSet : PerKind Mask :=
  let m : Mask := ⟨true, true⟩
  ⟨m, m, m, m, m, m, m, m, m, m, m⟩

/-- The alarm unit after reset (R163). -/
def AlarmUnit.reset : AlarmUnit := { records := .reset, masks := Mask.allSet, queue := [], pin := false }

/-- A checker after reset (Table 10-3). -/
def Checker.reset : Checker :=
  { state := .idle, watched := none, loadCount := 0, register := 0, correctRun := 0, window := [],
    errors := 0, delay := none }

/-- The control link after a power-on or line reset (Table 11-7). -/
def Link.reset : Link :=
  { part := .config, assembler := .awaitStart, errors := 0, queue := [], replies := [], line := none,
    restart := .none, subscriptions := Oct.fill .none, slots := Oct.fill none }

/-- The timebase after a power-on or line reset (Table 1-6). -/
def Timebase.reset : Timebase :=
  { mode := none, state := .internal, h := 0, seconds := 0, edges := 0, oscillatorPaced := false,
    boundary := .none }

/-- The part after a power-on reset (R19, R192). -/
def Device.reset : Device :=
  { time := .reset, ports := Oct.fill .reset, progs := Oct.fill .reset, pool := .reset, mem := ⟨[]⟩,
    map := Oct.fill (Quad.fill .silence), formed := List.replicate 8 (Oct.fill (Quad.fill .silent)),
    emitted := none, alarms := .reset, checkers := Duo.fill .reset, link := .reset }

/-- The machine right after a power-on reset, with no command waiting. -/
def State.reset : State := { pending := [], dev := .reset }

end Sys2Proof.Machine
end

