-- ==== Sys2Proof/Machine/Ops.lean ====
section
/-!
DEFINITION. The named operations over the part's tables: how one place of a port, a programme, a line or a
checker is read and changed, and the small questions that several chapters ask of them. Every command reaches
its state through these.
-/

namespace Sys2Proof.Machine

/-! ## Numbers from bytes -/

/-- A number as one of the eight places, when it is 0 to 7 (Table 0-7). -/
def ix8? (n : Nat) : Option Ix8 := if h : n < 8 then some ⟨n, h⟩ else none

/-- A number as one of the four slots, when it is 0 to 3 (Table 0-7). -/
def ix4? (n : Nat) : Option Ix4 := if h : n < 4 then some ⟨n, h⟩ else none

/-- A number as one of the two checkers, when it is 0 or 1 (Table 0-7). -/
def ix2? (n : Nat) : Option Ix2 := if h : n < 2 then some ⟨n, h⟩ else none

/-! ## The tables of the part -/

/-- A port of the part. -/
def Device.port (d : Device) (p : Ix8) : Port := d.ports.get p

/-- The part with one port changed. -/
def Device.modPort (d : Device) (p : Ix8) (f : Port → Port) : Device :=
  { d with ports := d.ports.modify p f }

/-- The part with one port's converter changed. -/
def Device.modConv (d : Device) (p : Ix8) (f : Converter → Converter) : Device :=
  d.modPort p fun x => { x with conv := f x.conv }

/-- The part with one port's lane receiver changed. -/
def Device.modLane (d : Device) (p : Ix8) (f : Lane → Lane) : Device :=
  d.modPort p fun x => { x with lane := f x.lane }

/-- A programme of the part. -/
def Device.prog (d : Device) (n : Ix8) : Programme := d.progs.get n

/-- The part with one programme changed. -/
def Device.modProg (d : Device) (n : Ix8) (f : Programme → Programme) : Device :=
  { d with progs := d.progs.modify n f }

/-- The part with one programme's record changed. -/
def Device.modRecord (d : Device) (n : Ix8) (f : Record → Record) : Device :=
  d.modProg n fun x => { x with record := f x.record }

/-- The part with one programme's changeover context changed. -/
def Device.modCtx (d : Device) (n : Ix8) (f : Context → Context) : Device :=
  d.modProg n fun x => { x with ctx := f x.ctx }

/-- The part with one programme's delay engine state changed. -/
def Device.modDelay (d : Device) (n : Ix8) (f : Delay → Delay) : Device :=
  d.modProg n fun x => { x with delay := f x.delay }

/-- A member line of the part. -/
def Device.line (d : Device) (n m : Ix8) : Line := (d.prog n).delay.lines.get m

/-- The part with one member line changed. -/
def Device.modLine (d : Device) (n m : Ix8) (f : Line → Line) : Device :=
  d.modDelay n fun x => { x with lines := x.lines.modify m f }

/-- The part with one programme's meter changed. -/
def Device.modMeter (d : Device) (n : Ix8) (f : Meter → Meter) : Device :=
  d.modProg n fun x => { x with meter := f x.meter }

/-- The part with one programme's gain computer changed. -/
def Device.modGain (d : Device) (n : Ix8) (f : Gain → Gain) : Device :=
  d.modProg n fun x => { x with gain := f x.gain }

/-- The part with one programme's output stage changed. -/
def Device.modStage (d : Device) (n : Ix8) (f : Stage → Stage) : Device :=
  d.modProg n fun x => { x with stage := f x.stage }

/-- The part with one programme's test generator changed. -/
def Device.modGen (d : Device) (n : Ix8) (f : Generator → Generator) : Device :=
  d.modProg n fun x => { x with gen := f x.gen }

/-- The part with one checker changed. -/
def Device.modChecker (d : Device) (c : Ix2) (f : Checker → Checker) : Device :=
  { d with checkers := d.checkers.set c (f (d.checkers.get c)) }

/-- The part with its pool changed. -/
def Device.modPool (d : Device) (f : Pool → Pool) : Device := { d with pool := f d.pool }

/-- The part with its control link changed. -/
def Device.modLink (d : Device) (f : Link → Link) : Device := { d with link := f d.link }

/-! ## Small questions -/

/-- A programme stands in a state. -/
def Device.inState (d : Device) (n : Ix8) (s : ProgState) : Bool := (d.prog n).record.state == s

/-- A programme is ACTIVE. -/
def Device.active (d : Device) (n : Ix8) : Bool := d.inState n .active

/-- A programme is ACTIVE or STOPPING, so that its lines and its output stage work. -/
def Device.sounding (d : Device) (n : Ix8) : Bool := d.inState n .active || d.inState n .stopping

/-- The members of a record with their positions, in list order. -/
def Record.listed (r : Record) : List (Ix8 × Member) := eight.filterMap fun m => r.members[m.val]?.map (m, ·)

/-- The positions of the members of a record, in list order. -/
def Record.positions (r : Record) : List Ix8 := r.listed.map (·.1)

/-- The source a side gives a member: its backup source for BACKUP where it has one, else its primary
(R59). -/
def Member.sourceOf (x : Member) (side : Selection) : Source :=
  match side, x.backup with
  | .backup, some b => b
  | _, _ => x.primary

/-- The current source of a member of a programme (R59). -/
def Programme.currentSource (x : Programme) (m : Member) : Source := m.sourceOf x.ctx.selection

/-- A member is watched when it has a backup (R64). -/
def Member.watched (x : Member) : Bool := x.backup.isSome

/-- At least one member of a record has a backup. -/
def Record.hasBackup (r : Record) : Bool := r.members.any Member.watched

/-- The converted sample of a source as it reaches source selection at this house sample: the oldest sample of
the path (R29). -/
def Device.arriving (d : Device) (s : Source) : Sample :=
  match (d.port s.port).path with
  | [] => 0
  | oldest :: _ => oldest.get s.slot

/-- The fold of an operation over the eight places. -/
def forEight {α : Type} (a : α) (f : α → Ix8 → α) : α := eight.foldl f a

end Sys2Proof.Machine
end

