-- ==== Sys2Proof/Machine/Memory.lean ====
section
/-!
DEFINITION. The delay memory (R74) as a list of the sample words that are not 0, by rising word address.
A word that nothing has written reads 0 (log 18).
-/

namespace Sys2Proof.Machine

/-- What a word that is not listed reads as (log 18). -/
def unlistedWord : Sample := 0

/-- The word at an address of a list of cells. -/
def readCells : List (Nat × Sample) → Nat → Sample
  | [], _ => unlistedWord
  | c :: rest, a => if c.1 = a then c.2 else readCells rest a

/-- A list of cells with one word written, in canonical form when the list was. -/
def writeCells : List (Nat × Sample) → Nat → Sample → List (Nat × Sample)
  | [], a, x => if x = unlistedWord then [] else [(a, x)]
  | c :: rest, a, x =>
    if a < c.1 then (if x = unlistedWord then c :: rest else (a, x) :: c :: rest)
    else if c.1 = a then (if x = unlistedWord then rest else (a, x) :: rest)
    else c :: writeCells rest a x

/-- A list of cells is in canonical form: addresses strictly rising, no cell equal to what an unlisted word
reads as. -/
def cellsWf : List (Nat × Sample) → Bool
  | [] => true
  | c :: rest => decide (c.2 ≠ unlistedWord) && rest.all (fun e => decide (c.1 < e.1)) && cellsWf rest

/-- The memory is in canonical form. -/
def DelayMemory.wf (m : DelayMemory) : Bool := cellsWf m.cells

/-- The word at an address of the delay memory. -/
def DelayMemory.read (m : DelayMemory) (a : Nat) : Sample := readCells m.cells a

/-- The delay memory with one word written. -/
def DelayMemory.write (m : DelayMemory) (a : Nat) (x : Sample) : DelayMemory := ⟨writeCells m.cells a x⟩

/-- The address of a word of a block (R74). -/
def blockWord (block offset : Nat) : Nat := block * 1024 + offset

end Sys2Proof.Machine
end

