-- ==== Sys2Proof/Machine/Flags.lean ====
section
/-!
DEFINITION. The alarm unit (Chapter 9): records, changes and events, the notice queue, masks and the ALM pin.
Every change of a record or a mask goes through `AlarmUnit.put` or `AlarmUnit.setMask`, which judge the pin.
-/

namespace Sys2Proof.Machine

/-! ## Kinds and instances -/

/-- The kind code of a kind (Table 9-1). -/
def Kind.code : Kind → Nat
  | .unlock => 0
  | .rateRange => 1
  | .slip => 2
  | .silence => 3
  | .loudHigh => 4
  | .loudLow => 5
  | .delayShort => 6
  | .overEvent => 7
  | .changeover => 8
  | .checkLoss => 9
  | .refLoss => 10

/-- The eleven kinds in kind-code order. -/
def allKinds : List Kind :=
  [.unlock, .rateRange, .slip, .silence, .loudHigh, .loudLow, .delayShort, .overEvent, .changeover,
    .checkLoss, .refLoss]

/-- A kind is an event (Table 9-1). -/
def Kind.isEvent : Kind → Bool
  | .slip | .overEvent | .changeover => true
  | .unlock | .rateRange | .silence | .loudHigh | .loudLow | .delayShort | .checkLoss | .refLoss => false

/-- The instances of a kind in ascending order (Table 9-1). -/
def Kind.instances : Kind → List Alarm
  | .unlock => eight.map .unlock
  | .rateRange => eight.map .rateRange
  | .slip => eight.map .slip
  | .silence => eight.map .silence
  | .loudHigh => eight.map .loudHigh
  | .loudLow => eight.map .loudLow
  | .delayShort => eight.map .delayShort
  | .overEvent => eight.map .overEvent
  | .changeover => eight.map .changeover
  | .checkLoss => two.map .checkLoss
  | .refLoss => [.refLoss]

/-- The 75 instances in record-index order (R145). -/
def allAlarms : List Alarm := allKinds.flatMap Kind.instances

/-- The kind of an instance. -/
def Alarm.kind : Alarm → Kind
  | .unlock _ => .unlock
  | .rateRange _ => .rateRange
  | .slip _ => .slip
  | .silence _ => .silence
  | .loudHigh _ => .loudHigh
  | .loudLow _ => .loudLow
  | .delayShort _ => .delayShort
  | .overEvent _ => .overEvent
  | .changeover _ => .changeover
  | .checkLoss _ => .checkLoss
  | .refLoss => .refLoss

/-- The instance number of an instance within its kind (R145). -/
def Alarm.number : Alarm → Nat
  | .unlock p | .rateRange p | .slip p => p.val
  | .silence n | .loudHigh n | .loudLow n | .delayShort n | .overEvent n | .changeover n => n.val
  | .checkLoss c => c.val
  | .refLoss => 0

/-- The instance of a qualified condition (R148). -/
def qualifiedAlarm (k : Qualified) (i : Ix8) : Alarm :=
  match k with
  | .unlock => .unlock i
  | .silence => .silence i
  | .loudHigh => .loudHigh i
  | .loudLow => .loudLow i

/-! ## Records and masks -/

/-- The record of an instance. -/
def AlarmRecords.get (r : AlarmRecords) : Alarm → AlarmRecord
  | .unlock p => r.unlock.get p
  | .rateRange p => r.rateRange.get p
  | .slip p => r.slip.get p
  | .silence n => r.silence.get n
  | .loudHigh n => r.loudHigh.get n
  | .loudLow n => r.loudLow.get n
  | .delayShort n => r.delayShort.get n
  | .overEvent n => r.overEvent.get n
  | .changeover n => r.changeover.get n
  | .checkLoss c => r.checkLoss.get c
  | .refLoss => r.refLoss

/-- The records with one instance's record replaced. -/
def AlarmRecords.set (r : AlarmRecords) (a : Alarm) (x : AlarmRecord) : AlarmRecords :=
  match a with
  | .unlock p => { r with unlock := r.unlock.set p x }
  | .rateRange p => { r with rateRange := r.rateRange.set p x }
  | .slip p => { r with slip := r.slip.set p x }
  | .silence n => { r with silence := r.silence.set n x }
  | .loudHigh n => { r with loudHigh := r.loudHigh.set n x }
  | .loudLow n => { r with loudLow := r.loudLow.set n x }
  | .delayShort n => { r with delayShort := r.delayShort.set n x }
  | .overEvent n => { r with overEvent := r.overEvent.set n x }
  | .changeover n => { r with changeover := r.changeover.set n x }
  | .checkLoss c => { r with checkLoss := r.checkLoss.set c x }
  | .refLoss => { r with refLoss := x }

/-- The thing of a kind. -/
def PerKind.get {α : Type} (t : PerKind α) : Kind → α
  | .unlock => t.unlock
  | .rateRange => t.rateRange
  | .slip => t.slip
  | .silence => t.silence
  | .loudHigh => t.loudHigh
  | .loudLow => t.loudLow
  | .delayShort => t.delayShort
  | .overEvent => t.overEvent
  | .changeover => t.changeover
  | .checkLoss => t.checkLoss
  | .refLoss => t.refLoss

/-- The table with the thing of one kind replaced. -/
def PerKind.set {α : Type} (t : PerKind α) (k : Kind) (x : α) : PerKind α :=
  match k with
  | .unlock => { t with unlock := x }
  | .rateRange => { t with rateRange := x }
  | .slip => { t with slip := x }
  | .silence => { t with silence := x }
  | .loudHigh => { t with loudHigh := x }
  | .loudLow => { t with loudLow := x }
  | .delayShort => { t with delayShort := x }
  | .overEvent => { t with overEvent := x }
  | .changeover => { t with changeover := x }
  | .checkLoss => { t with checkLoss := x }
  | .refLoss => { t with refLoss := x }

/-! ## The pin (R156) -/

/-- At least one instance of a kind whose summary enable is set has its seen-latch set (R156). -/
def pinLevel (records : AlarmRecords) (masks : PerKind Mask) : Bool :=
  allAlarms.any fun a => (masks.get a.kind).summary && (records.get a).latch

/-- The alarm unit with the pin judged afresh (R156). -/
def AlarmUnit.judge (u : AlarmUnit) : AlarmUnit := { u with pin := pinLevel u.records u.masks }

/-- The record of an instance. -/
def AlarmUnit.get (u : AlarmUnit) (a : Alarm) : AlarmRecord := u.records.get a

/-- The alarm unit with one record replaced and the pin judged afresh. -/
def AlarmUnit.put (u : AlarmUnit) (a : Alarm) (x : AlarmRecord) : AlarmUnit :=
  AlarmUnit.judge { u with records := u.records.set a x }

/-- The alarm unit with one kind's enables replaced and the pin judged afresh. -/
def AlarmUnit.setMask (u : AlarmUnit) (k : Kind) (m : Mask) : AlarmUnit :=
  AlarmUnit.judge { u with masks := u.masks.set k m }

/-! ## Notices (R153) -/

/-- The notice of a record as it stands, with a changes figure. -/
def AlarmRecord.notice (r : AlarmRecord) (a : Alarm) (changes : Nat) : Notice :=
  { alarm := a, active := r.active, count := r.count, time := r.time, changes := changes }

/-- A change or an occurrence of an instance queues a notice or updates the pending one, when its kind has
notify enabled (R153). -/
def AlarmUnit.notify (u : AlarmUnit) (a : Alarm) : AlarmUnit :=
  let r := u.get a
  if (u.masks.get a.kind).notify then
    if r.noticed then
      { u with queue := u.queue.map fun q =>
          if q.alarm = a then r.notice a (min (q.changes + 1) 255) else q }
    else { u.put a { r with noticed := true } with queue := u.queue ++ [r.notice a 1] }
  else u

/-- The pending notice of an instance is removed and its flag cleared; those behind keep their order
(R155, R162). -/
def AlarmUnit.dropNotice (u : AlarmUnit) (a : Alarm) : AlarmUnit :=
  { u.put a { u.get a with noticed := false } with queue := u.queue.filter fun q => q.alarm ≠ a }

/-! ## Changes and events (R146, R147) -/

/-- An inactive condition becomes active at second count `now` (R146). -/
def AlarmUnit.activate (u : AlarmUnit) (now : BitVec 32) (a : Alarm) : AlarmUnit :=
  let r := u.get a
  if r.active then u
  else
    (u.put a { r with active := true, latch := true, count := addSat r.count 1, time := now,
                      setTimer := 0, clearTimer := 0, expiry := .none }).notify a

/-- An active condition becomes inactive at second count `now` (R146). -/
def AlarmUnit.deactivate (u : AlarmUnit) (now : BitVec 32) (a : Alarm) : AlarmUnit :=
  let r := u.get a
  if r.active then
    (u.put a { r with active := false, time := now, setTimer := 0, clearTimer := 0,
                      expiry := .none }).notify a
  else u

/-- An event occurs at second count `now` (R147). -/
def AlarmUnit.occur (u : AlarmUnit) (now : BitVec 32) (a : Alarm) : AlarmUnit :=
  let r := u.get a
  (u.put a { r with latch := true, count := addSat r.count 1, time := now }).notify a

/-- A condition is forced inactive, its timers at 0 whether it was active or not (R161). -/
def AlarmUnit.force (u : AlarmUnit) (now : BitVec 32) (a : Alarm) : AlarmUnit :=
  let v := u.deactivate now a
  v.put a { v.get a with setTimer := 0, clearTimer := 0, expiry := .none }

/-- A record goes to its values after reset without a change of state, and its notice is removed (R162). -/
def AlarmUnit.wipe (u : AlarmUnit) (a : Alarm) : AlarmUnit := (u.dropNotice a).put a .reset

/-! ## Qualification (R148) -/

/-- One judgement of a qualified condition at a sub-block end (R148). The change itself comes with the timer
expiry event; the expiry mark says that it is due (log 24). -/
def AlarmRecord.qualify (r : AlarmRecord) (setMet clearMet : Bool) (setLimit clearLimit : Nat) :
    AlarmRecord :=
  if r.active then
    let t := if clearMet then (if clearLimit ≤ r.clearTimer then r.clearTimer else r.clearTimer + 1) else 0
    { r with clearTimer := t, expiry := if clearMet && decide (clearLimit ≤ t) then .clear else .none }
  else
    let t := if setMet then (if setLimit ≤ r.setTimer then r.setTimer else r.setTimer + 1) else 0
    { r with setTimer := t, expiry := if setMet && decide (setLimit ≤ t) then .set else .none }

/-- The alarm unit with one condition judged. -/
def AlarmUnit.qualify (u : AlarmUnit) (a : Alarm) (setMet clearMet : Bool) (setLimit clearLimit : Nat) :
    AlarmUnit :=
  u.put a ((u.get a).qualify setMet clearMet setLimit clearLimit)

/-! ## Host requests (R155 to R160) -/

/-- The latch of a selected instance is cleared unless it is an active condition (R159). -/
def AlarmUnit.clearLatch (u : AlarmUnit) (a : Alarm) : AlarmUnit :=
  let r := u.get a
  if r.active then u else u.put a { r with latch := false }

/-- One kind takes its two enables; disabling notify removes the pending notices of the kind (R155). -/
def AlarmUnit.mask (u : AlarmUnit) (k : Kind) (m : Mask) : AlarmUnit :=
  let v := u.setMask k m
  if m.notify then v else k.instances.foldl AlarmUnit.dropNotice v

/-- The occurrence count of an instance goes to 0 (R160). -/
def AlarmUnit.zeroCount (u : AlarmUnit) (a : Alarm) : AlarmUnit := u.put a { u.get a with count := 0 }

/-- A selection by kind code and instance number, or none where it names nothing (R157). -/
def selectAlarms (kind number : Byte) : Option (List Alarm) :=
  if kind = 0xFF then (if number = 0xFF then some allAlarms else none)
  else
    match allKinds[kind.toNat]? with
    | none => none
    | some k =>
      if number = 0xFF then some k.instances
      else k.instances[number.toNat]?.map fun a => [a]

/-! ## The alarm unit in the part -/

/-- The part with its alarm unit changed. -/
def Device.modAlarms (d : Device) (f : AlarmUnit → AlarmUnit) : Device := { d with alarms := f d.alarms }

/-- A condition becomes active now (R146). -/
def Device.activate (d : Device) (a : Alarm) : Device := d.modAlarms (·.activate d.time.seconds a)

/-- A condition becomes inactive now (R146). -/
def Device.deactivate (d : Device) (a : Alarm) : Device := d.modAlarms (·.deactivate d.time.seconds a)

/-- A block reports a condition active or inactive (R152). -/
def Device.report (d : Device) (a : Alarm) (active : Bool) : Device :=
  if active then d.activate a else d.deactivate a

/-- An event occurs now (R147). -/
def Device.occur (d : Device) (a : Alarm) : Device := d.modAlarms (·.occur d.time.seconds a)

/-- A condition is forced inactive now (R161). -/
def Device.force (d : Device) (a : Alarm) : Device := d.modAlarms (·.force d.time.seconds a)

end Sys2Proof.Machine
end

