-- ==== Sys2Proof/Machine/Pool.lean ====
section
/-!
DEFINITION. The pool manager (Chapter 5): requests, the request queue, the grant test, grants and returns.
-/

namespace Sys2Proof.Machine

/-- The number of blocks a pool size code names (Table 5-1), or none for any other code. -/
def poolSizeOf (code : Byte) : Option Nat :=
  if code = 0 then some 1024 else if code = 1 then some 2048 else if code = 2 then some 4096 else none

/-- The pool formed with `size` free blocks (R74, R89). -/
def Pool.formed (size : Nat) : Pool :=
  { size := size, free := List.range size, queue := [], needs := Oct.fill none, notices := [] }

/-- The block need k(D) of a line of length D (R77). -/
def blockNeed (length : Nat) : Nat := if length = 0 then 0 else (length + 1023) / 1024 + 1

/-- The blocks a line holds, in use and spare together (R76). -/
def Line.held (l : Line) : Nat := l.inUse.length + l.spare.length

/-- The blocks the lines of a programme hold (R76). -/
def Device.heldBy (d : Device) (n : Ix8) : Nat := ((d.prog n).delay.lines.toList.map Line.held).sum

/-- The part's programme has an entry in the request queue. -/
def Device.hasEntry (d : Device) (n : Ix8) : Bool := d.pool.queue.any fun e => e.prog == n

/-! ## Grants (R82 to R84) -/

/-- What the sharing of a grant leaves: the lines, the number of blocks each member received, and the blocks no
member needed. -/
structure Shared where
  lines : Oct Line
  given : List Nat
  left : List Nat

/-- The members of a programme take their shares of a grant in member-list order (R83): each its need less the
blocks it holds, or what remains. -/
def shareOut : List (Ix8 × Nat) → List Nat → Oct Line → Shared
  | [], blocks, lines => { lines := lines, given := [], left := blocks }
  | (m, need) :: rest, blocks, lines =>
    let l := lines.get m
    let got := blocks.take (need - l.held)
    let r := shareOut rest (blocks.drop (need - l.held)) (lines.set m { l with spare := l.spare ++ got })
    { r with given := got.length :: r.given }

/-- The need figures of a programme with the member positions. -/
def Device.needList (d : Device) (n : Ix8) : List (Ix8 × Nat) :=
  eight.zip ((d.pool.needs.get n).getD [])

/-- The head entry of the queue is granted its whole count (R82, R83). A grant to `own` is told in the answer to
its request; any other leaves a grant notice (R84, log 23). Blocks that no member needs stay at the head of the free
list (log 39). -/
def Device.grantHead (d : Device) (own : Option Ix8) (e : PoolEntry) : Device :=
  let blocks := d.pool.free.take e.count
  let shared := shareOut (d.needList e.prog) blocks (d.prog e.prog).delay.lines
  let d1 := d.modDelay e.prog fun x => { x with lines := shared.lines }
  d1.modPool fun q =>
    { q with
      free := shared.left ++ q.free.drop e.count
      queue := q.queue.tail
      needs := q.needs.set e.prog none
      notices := if own = some e.prog then q.notices
        else q.notices ++ [{ prog := e.prog, given := shared.given, limited := e.limited }] }

/-- The grant test, for at most `fuel` grants (R82). -/
def Device.grantLoop (own : Option Ix8) : Nat → Device → Device
  | 0, d => d
  | fuel + 1, d =>
    match d.pool.queue with
    | [] => d
    | e :: _ => if e.count ≤ d.pool.free.length then Device.grantLoop own fuel (d.grantHead own e) else d

/-- The grant test (R82): grants go on until the queue is empty or its head is too large. -/
def Device.grantTest (d : Device) (own : Option Ix8) : Device := Device.grantLoop own d.pool.queue.length d

/-! ## Requests, withdrawals and returns (R78 to R81, R85, R86) -/

/-- The answer of the pool manager to a request (R78). -/
structure PoolAnswer where
  granted : Bool
  limited : Bool
deriving DecidableEq, Repr

/-- A programme's entry and need figures leave the pool, and the grant test follows (R80, R81). -/
def Device.withdraw (d : Device) (n : Ix8) : Device :=
  (d.modPool fun q =>
    { q with queue := q.queue.filter fun e => e.prog ≠ n, needs := q.needs.set n none }).grantTest none

/-- The queue with a programme's entry placed, updated in place or, at a count of 0, withdrawn (R79, R80). -/
def placeEntry (queue : List PoolEntry) (e : PoolEntry) : List PoolEntry :=
  if e.count = 0 then queue.filter fun x => x.prog ≠ e.prog
  else if queue.any (fun x => x.prog == e.prog) then queue.map fun x => if x.prog = e.prog then e else x
  else queue ++ [e]

/-- A programme's shortfall for the given needs (R78). -/
def Device.shortfall (d : Device) (n : Ix8) (needs : List Nat) : Nat :=
  ((eight.zip needs).map fun x => x.2 - (d.line n x.1).held).sum

/-- A request of the delay engine with the needs of a programme's members (R78 to R81). -/
def Device.requestBlocks (d : Device) (n : Ix8) (needs : List Nat) : Device × PoolAnswer :=
  if d.active n then
    let short := d.shortfall n needs
    let count := min short (d.pool.size - d.heldBy n)
    let limited := decide (count < short)
    let d1 := d.modPool fun q =>
      { q with needs := q.needs.set n (some needs),
               queue := placeEntry q.queue { prog := n, count := count, limited := limited } }
    let d2 := d1.grantTest (some n)
    (d2, { granted := !d2.hasEntry n, limited := limited })
  else (d.withdraw n, { granted := true, limited := false })

/-- One hand-back: the blocks join the tail of the free list in order, and one grant test follows (R85). A
hand-back of no block is none. -/
def Device.handBack (d : Device) (blocks : List Nat) : Device :=
  if blocks = [] then d
  else (d.modPool fun q => { q with free := q.free ++ blocks }).grantTest none

/-- The blocks of all lines of a programme in the order of R54: by member, in use from head to tail, then the
spares. -/
def Device.allBlocks (d : Device) (n : Ix8) : List Nat :=
  (d.prog n).delay.lines.toList.flatMap fun l => l.inUse ++ l.spare

end Sys2Proof.Machine
end

