-- ==== Sys2Proof/Machine/Lines.lean ====
section
/-!
DEFINITION. The delay engine (Chapter 6): required lengths, the member lines over the delay memory, triggers
and recalculations, slews, programme fades and the pending recalculation.
-/

namespace Sys2Proof.Machine

/-! ## Required length (R90) -/

/-- D_req for a delay target and a latency (R90). -/
def requiredLength (target : Int) (lc : Nat) : Nat := (clampInt (target - lc - 24) 0 480000).toNat

/-- A line with its required length and UNDERDELAY computed (R90). -/
def Line.require (l : Line) (target : Int) (lc : Nat) : Line :=
  { l with dReq := requiredLength target lc, underDelay := decide (target < lc + 24) }

/-- The latency that the converter of a member's current source holds (R34, R90). -/
def Device.latencyOf (d : Device) (n : Ix8) (x : Member) : Nat :=
  (d.port ((d.prog n).currentSource x).port).conv.lc

/-- D_req and UNDERDELAY are computed for those listed members of a programme that a test names (R90). -/
def Device.requireWhere (d : Device) (n : Ix8) (test : Member → Bool) : Device :=
  (d.prog n).record.listed.foldl
    (fun e x =>
      if test x.2 then e.modLine n x.1 fun l => l.require (d.prog n).record.settings.delayTarget (d.latencyOf n x.2)
      else e) d

/-- D_req and UNDERDELAY are computed for every member of a programme (R90). -/
def Device.requireAll (d : Device) (n : Ix8) : Device := d.requireWhere n fun _ => true

/-! ## The line and its blocks (R91, R92) -/

/-- The length that a change in progress leads a line to; 0 for a member that is STEADY (R95, R98, R99). -/
def Line.goal (l : Line) : Nat := if l.change = .steady then 0 else l.dNew

/-- The keep length after a removal (R92): the larger of D and D_req, and no less than the length that a change in
progress leads to, whose blocks a line holds before it grows (log 21). -/
def Line.keep (l : Line) : Nat := max (max l.d l.dReq) l.goal

/-- The blocks that a removal emptied are judged in the order in which they were emptied: each is handed back
while the line holds more than the need of its keep length, and else joins the spare list (R92). Answers the
line and the blocks handed back. -/
def Line.judgeEmptied (l : Line) : List Nat → Line × List Nat
  | [] => (l, [])
  | b :: rest =>
    if blockNeed l.keep < l.held + (b :: rest).length then
      let r := Line.judgeEmptied l rest
      (r.1, b :: r.2)
    else Line.judgeEmptied { l with spare := l.spare ++ [b] } rest

/-- A line with `c` samples removed from its head, and the blocks this emptied, in order (R92). -/
def Line.removeHead (l : Line) (c : Nat) : Line × List Nat :=
  let left := l.d - c
  let emptied := if left = 0 then l.inUse.length else (l.headPos + c) / 1024
  ({ l with
      inUse := l.inUse.drop emptied
      headPos := if left = 0 then 0 else (l.headPos + c) % 1024
      d := left },
    l.inUse.take emptied)

/-- A line after a normal delivery, and the blocks to hand back (R91, R92). -/
def Line.deliverOne (l : Line) : Line × List Nat :=
  let r := l.removeHead 1
  r.1.judgeEmptied r.2

/-- The spares an empty line holds beyond the need of its keep length, from the head of the spare list (R92): that of
D_req, or of the length that a change in progress leads to (log 21). -/
def Line.excess (l : Line) : Nat := if l.d = 0 then min l.spare.length (l.held - blockNeed l.keep) else 0

/-- A line after a discard or a drop of `c` samples, and the blocks to hand back: the emptied blocks and, when
the line is then empty, its excess spares (R92). -/
def Line.discard (l : Line) (c : Nat) : Line × List Nat :=
  let r := l.removeHead c
  let j := r.1.judgeEmptied r.2
  ({ j.1 with spare := j.1.spare.drop j.1.excess, headIndex := l.headIndex + BitVec.ofNat 48 c },
    j.2 ++ j.1.spare.take j.1.excess)

/-- The block and the word in it that an appended sample goes to, with the line that has taken a spare for it
where the tail block is full or the in-use queue is empty (R92); none where no spare is left (log 20). -/
def Line.tailPlace (l : Line) : Option (Line × Nat) :=
  let t := l.headPos + l.d
  match l.inUse[t / 1024]? with
  | some b => some (l, blockWord b (t % 1024))
  | none =>
    match l.spare with
    | [] => none
    | b :: rest => some ({ l with inUse := l.inUse ++ [b], spare := rest }, blockWord b (t % 1024))

/-- The address of the head sample of a line. -/
def Line.headAddress (l : Line) : Nat := blockWord (l.inUse.headD 0) l.headPos

/-- A line and the memory with a sample appended at the tail (R91). -/
def Line.append (l : Line) (mem : DelayMemory) (x : Sample) : Line × DelayMemory :=
  match l.tailPlace with
  | none => (l, mem)
  | some (k, a) => ({ k with d := k.d + 1 }, mem.write a x)

/-- What a line does in one house sample (R91, R98, R100). -/
inductive LineWork where
  | normal
  | repeatHead
  | frozen
deriving DecidableEq, Repr

/-- The result of one house sample of a line. -/
structure LineStep where
  line : Line
  mem : DelayMemory
  delivered : Option Sample
  back : List Nat
deriving DecidableEq, Repr

/-- One house sample of a line at house index `h` with input `x` (R91). A line of occupancy 0 that keeps nothing
is a bypass. -/
def Line.step (l : Line) (mem : DelayMemory) (h : HouseIndex) (x : Sample) (w : LineWork) : LineStep :=
  let indexed := { l with headIndex := h - BitVec.ofNat 48 l.d }
  if l.d = 0 ∧ w = .normal then { line := indexed, mem := mem, delivered := some x, back := [] }
  else
    let a := indexed.append mem x
    match w with
    | .frozen => { line := a.1, mem := a.2, delivered := none, back := [] }
    | .repeatHead => { line := a.1, mem := a.2, delivered := some (a.2.read a.1.headAddress), back := [] }
    | .normal =>
      let r := a.1.deliverOne
      { line := r.1, mem := a.2, delivered := some (a.2.read a.1.headAddress), back := r.2 }

/-! ## Change state (R93) -/

/-- A change is in progress for a programme (R93). -/
def Device.changing (d : Device) (n : Ix8) : Bool :=
  (d.prog n).delay.fade != .none ||
    (d.prog n).record.positions.any fun m => (d.line n m).change != .steady

/-- At least one listed member carries the clamped mark. -/
def Device.anyClamped (d : Device) (n : Ix8) : Bool :=
  (d.prog n).record.positions.any fun m => (d.line n m).clamped

/-- Every listed line of a programme changed by one function. -/
def Device.mapLines (d : Device) (n : Ix8) (f : Line → Line) : Device :=
  (d.prog n).record.positions.foldl (fun e m => e.modLine n m f) d

/-! ## Settling the blocks (R96) -/

/-- The target length of a member under a mode (R95). -/
def Line.targetOf (l : Line) (mode : RecalcMode) : Nat :=
  match mode with
  | .exact => l.dReq
  | .deadband => if 2 ≤ max l.dReq l.d - min l.dReq l.d then l.dReq else l.d

/-- The needs of the target lengths of a programme's members, in member-list order (R96). -/
def Device.needsUnder (d : Device) (n : Ix8) (target : Line → Nat) : List Nat :=
  (d.prog n).record.positions.map fun m => blockNeed (target (d.line n m))

/-- The length a line can run at with the blocks it holds (R77, R96). -/
def Line.clampLength (l : Line) : Nat := 1024 * (l.held - 1)

/-- A line takes its new length: the target, or its clamp where `short` says that needs may be unmet and the
line holds fewer blocks than the target needs (R96). -/
def Line.settle (l : Line) (target : Nat) (short : Bool) : Line :=
  if short && decide (l.held < blockNeed target) then { l with dNew := l.clampLength, clamped := true }
  else { l with dNew := target, clamped := false }

/-- The blocks of a programme are settled for the target lengths: a request where one is called for, then the
new length of every member (R96). -/
def Device.settleBlocks (d : Device) (n : Ix8) (target : Line → Nat) : Device :=
  let short := (d.prog n).record.positions.any fun m =>
    decide ((d.line n m).held < blockNeed (target (d.line n m)))
  if short || d.hasEntry n then
    let r := d.requestBlocks n (d.needsUnder n target)
    r.1.mapLines n fun l => l.settle (target l) (!r.2.granted || r.2.limited)
  else d.mapLines n fun l => l.settle (target l) false

/-- The excess of every empty line of a programme is handed back, one hand-back for each member (R92), in member-list
order: the model's choice (log 46). -/
def Device.returnExcess (d : Device) (n : Ix8) : Device :=
  (d.prog n).record.positions.foldl
    (fun e m =>
      let l := e.line n m
      (e.modLine n m fun k => { k with spare := k.spare.drop k.excess }).handBack (l.spare.take l.excess)) d

/-! ## Starting a change (R97 to R100) -/

/-- A line at the start of a slew change (R98). -/
def Line.startSlew (l : Line) : Line :=
  if l.d < l.dNew then { l with change := .slewUp, remaining := l.dNew - l.d, slewCounter := 0 }
  else if l.dNew < l.d then { l with change := .slewDown, remaining := l.d - l.dNew, slewCounter := 0 }
  else { l with change := .steady, remaining := 0, slewCounter := 0 }

/-- A programme fade begins in FADE_OUT (R99). -/
def Device.startFade (d : Device) (n : Ix8) : Device :=
  (d.mapLines n fun l => { l with change := .wait }).modDelay n fun x =>
    { x with fade := .fadeOut, fadeStep := 0 }

/-- One member at the entry into GAP: a shrinking line discards, a growing line takes its freeze count
(R100). -/
def Device.gapMember (d : Device) (n m : Ix8) : Device :=
  let l := d.line n m
  if l.dNew < l.d then
    let r := l.discard (l.d - l.dNew)
    (d.modLine n m fun _ => { r.1 with freeze := 0 }).handBack r.2
  else d.modLine n m fun k => { k with freeze := k.dNew - k.d }

/-- The programme fade enters FADE_IN (R100, R101). -/
def Device.enterFadeIn (d : Device) (n : Ix8) : Device :=
  d.modDelay n fun x => { x with fade := .fadeIn, fadeStep := 0 }

/-- The largest freeze count of a programme's members. -/
def Device.largestFreeze (d : Device) (n : Ix8) : Nat :=
  ((d.prog n).record.positions.map fun m => (d.line n m).freeze).foldl max 0

/-- The programme fade enters GAP, and FADE_IN at once where no member grows (R100). -/
def Device.enterGap (d : Device) (n : Ix8) : Device :=
  let e := (d.prog n).record.positions.foldl (fun e m => e.gapMember n m) d
  let g := e.largestFreeze n
  let f := (e.mapLines n fun l => { l with change := .wait }).modDelay n fun x =>
    { x with fade := .gap, fadeStep := 0, gapLength := g }
  if g = 0 then f.enterFadeIn n else f

/-! ## Recalculation (R95, R102) -/

/-- DELAY_SHORT is reported inactive, provided no member is clamped and no entry stands (R105). -/
def Device.judgeShort (d : Device) (n : Ix8) : Device :=
  if d.anyClamped n || d.hasEntry n then d else d.deactivate (.delayShort n)

/-- DELAY_SHORT is reported active where a member is clamped (R105). -/
def Device.reportShort (d : Device) (n : Ix8) : Device :=
  if d.anyClamped n then d.activate (.delayShort n) else d

/-- The choice between no change, slews and a programme fade, once the new lengths stand (R95, R97). -/
def Device.startChange (d : Device) (n : Ix8) (host : Bool) : Device :=
  let x := d.prog n
  let target := x.record.settings.delayTarget
  let differs := x.record.positions.any fun m => (d.line n m).dNew != (d.line n m).d
  let far := x.record.positions.any fun m =>
    decide (48 < max (d.line n m).dNew (d.line n m).d - min (d.line n m).dNew (d.line n m).d)
  let moved := host && decide (48 < (target - x.delay.tLines).natAbs)
  let e := d.modDelay n fun y => { y with tLines := target }
  if differs then
    if far || moved then e.startFade n else e.mapLines n Line.startSlew
  else e.judgeShort n

/-- A recalculation (R95). Where it both hands back the excess of empty lines (R92) and sends a request, R87 lets
either come first; the returns come first, each with its grant test at the old entry: the model's choice (log 46). -/
def Device.recalculate (d : Device) (n : Ix8) (mode : RecalcMode) (host : Bool) : Device :=
  let e := (d.requireAll n).returnExcess n
  let f := (e.settleBlocks n fun l => l.targetOf mode).reportShort n
  f.startChange n host

/-- The initial fill at RUN (R102). -/
def Device.initialFill (d : Device) (n : Ix8) : Device :=
  let e := (d.requireAll n).modDelay n fun x => { x with tLines := (d.prog n).record.settings.delayTarget }
  let f := (e.settleBlocks n fun l => l.dReq).reportShort n
  f.enterGap n

/-! ## Triggers (R94, R103, R104) -/

/-- A pending recalculation that takes a further trigger (R103). -/
def foldPending (p : Option PendingRecalc) (mode : RecalcMode) (host : Bool) : PendingRecalc :=
  match p with
  | none => { mode := mode, host := host }
  | some q => { mode := if mode = .exact then .exact else q.mode, host := q.host || host }

/-- A trigger is folded into the pending recalculation; the excess of empty lines is handed back (R92), and a
programme with an entry sends the needs of the lengths under the pending mode (R103, R104). R87 lets the returns and
the request be taken in either order; the returns come first, each with its grant test at the old entry: the model's
choice (log 46). -/
def Device.fold (d : Device) (n : Ix8) (mode : RecalcMode) (host : Bool) : Device :=
  let p := foldPending (d.prog n).delay.pending mode host
  let e := ((d.requireAll n).modDelay n fun x => { x with pending := some p }).returnExcess n
  if e.hasEntry n then
    let r := e.requestBlocks n (e.needsUnder n fun l => l.targetOf p.mode)
    if r.2.granted then
      r.1.modDelay n fun x => { x with pending := some (foldPending x.pending .exact false) }
    else r.1
  else e

/-- A trigger of an ACTIVE programme: a recalculation at once, or a fold during a change (R94). -/
def Device.trigger (d : Device) (n : Ix8) (mode : RecalcMode) (host : Bool) : Device :=
  if d.active n then (if d.changing n then d.fold n mode host else d.recalculate n mode host) else d

/-- The trigger of a SETUP with a delay target present (Table 6-3). -/
def Device.targetTrigger (d : Device) (n : Ix8) : Device :=
  if d.active n then
    if d.changing n then d.fold n .exact true
    else if (d.prog n).record.settings.delayTarget = (d.prog n).delay.tLines then d
    else d.recalculate n .exact true
  else d

/-- A latency update from a port as one programme takes it (Table 6-3, R90). -/
def Device.latencyProgramme (d : Device) (p n : Ix8) : Device :=
  let x := d.prog n
  let on := fun (m : Member) => (x.currentSource m).port == p
  if d.active n && x.record.members.any on then
    if d.changing n then (d.requireWhere n on).fold n .deadband false
    else
      let e := d.requireWhere n on
      if x.record.positions.any fun m =>
          decide (2 ≤ max (e.line n m).dReq (e.line n m).d - min (e.line n m).dReq (e.line n m).d) then
        e.recalculate n .deadband false
      else e.returnExcess n
  else d

/-- The oldest grant notice is taken by the delay engine (R84, R94); a notice for a programme that is not ACTIVE
is ignored. -/
def Device.takeNotice (d : Device) : Device :=
  match d.pool.notices with
  | [] => d
  | g :: rest => (d.modPool fun q => { q with notices := rest }).trigger g.prog .exact false

/-- The grant notices are taken, oldest first, for at most `fuel` notices (R84, log 23). -/
def Device.takeNotices : Nat → Device → Device
  | 0, d => d
  | fuel + 1, d => if d.pool.notices = [] then d else Device.takeNotices fuel d.takeNotice

/-- The part with the grant notices taken that an operation of the engine has brought (R84, log 23). -/
def Device.told (d : Device) : Device := Device.takeNotices 64 d

/-- A latency update from a port (R34, R94), taken by the programmes in ascending order, the model's choice (log 46),
each with the grant notices it brings (R84). -/
def Device.latencyUpdate (d : Device) (p : Ix8) : Device :=
  forEight d fun e n => (e.latencyProgramme p n).told

/-! ## The end of a change (R101, R103, R107) -/

/-- A change has ended: the pending recalculation is taken, or DELAY_SHORT is judged; in STOPPING nothing more
comes (R103, R107). -/
def Device.changeEnded (d : Device) (n : Ix8) : Device :=
  if d.active n then
    match (d.prog n).delay.pending with
    | some p => (d.modDelay n fun x => { x with pending := none }).recalculate n p.mode p.host
    | none => d.judgeShort n
  else d

/-- FADE_OUT has taken its 240 house samples (R99, R100). A request taken before this event, or before one of the
three that follow, finds the change as it was (log 45). -/
def Device.fadeOutEnd (d : Device) (n : Ix8) : Device :=
  if (d.prog n).delay.fade = .fadeOut ∧ (d.prog n).delay.fadeStep = 240 then d.enterGap n else d

/-- A member has been frozen for its freeze count (R100, log 25). -/
def Device.freezeEnd (d : Device) (n m : Ix8) : Device :=
  if (d.prog n).delay.fade = .gap ∧ 0 < (d.line n m).freeze ∧ (d.line n m).freeze ≤ (d.prog n).delay.fadeStep then
    d.modLine n m fun l => { l with freeze := 0 }
  else d

/-- GAP has reached its length (R100). -/
def Device.gapEnd (d : Device) (n : Ix8) : Device :=
  if (d.prog n).delay.fade = .gap ∧ (d.prog n).delay.gapLength ≤ (d.prog n).delay.fadeStep then d.enterFadeIn n
  else d

/-- FADE_IN has reached step 240, which ends the change (R101). The fade step, the gap length and the freeze counts
go to 0 with it: the model's choice (log 25). -/
def Device.fadeInEnd (d : Device) (n : Ix8) : Device :=
  if (d.prog n).delay.fade = .fadeIn ∧ (d.prog n).delay.fadeStep = 240 then
    ((d.mapLines n fun l => { l with change := .steady, freeze := 0 }).modDelay n fun x =>
      { x with fade := .none, fadeStep := 0, gapLength := 0 }).changeEnded n
  else d

/-- A member's slew action is due (R98). -/
def Line.slewDue (l : Line) : Bool :=
  (l.change == .slewUp || l.change == .slewDown) && decide (256 ≤ l.slewCounter)

/-- A line after its slew action: the drop of a SLEW_DOWN, the counters, and STEADY at 0 remaining; with the
blocks the drop hands back (R98). The added sample of a SLEW_UP was kept in the house sample (log 29). -/
def Line.slewAction (l : Line) : Line × List Nat :=
  let r := if l.change = .slewDown then l.discard 1 else (l, [])
  ({ r.1 with
      slewCounter := 0
      remaining := l.remaining - 1
      change := if l.remaining ≤ 1 then .steady else l.change }, r.2)

/-- A member's slew action, and the end of the slew change with its last member (R98). A grant that the hand-back of
the drop brings is told while the change is still in progress, before its end (R84, R104, log 23). -/
def Device.slewAction (d : Device) (n m : Ix8) : Device :=
  if (d.line n m).slewDue then
    let r := (d.line n m).slewAction
    let a := ((d.modLine n m fun l => { r.1 with change := l.change }).handBack r.2).told
    let e := a.modLine n m fun l => { l with change := r.1.change }
    if e.changing n then e else e.changeEnded n
  else d

/-! ## Stop and teardown (R54, R86, R107) -/

/-- The delay engine's part of STOP (R107). -/
def Device.stopDelay (d : Device) (n : Ix8) : Device := d.modDelay n fun x => { x with pending := none }

/-- The delay engine's part of the end of the stop fade: every block goes back in one hand-back, and the lines
take their values after reset (R54, R86, R107). -/
def Device.clearDelay (d : Device) (n : Ix8) : Device :=
  (d.modDelay n fun _ => Delay.reset).handBack (d.allBlocks n)

/-! ## The house sample of a line (R91, R98 to R101, R106) -/

/-- What a member's line does in this house sample, the fade step and the slew counter having risen. -/
def Delay.workOf (x : Delay) (m : Ix8) : LineWork :=
  let l := x.lines.get m
  match x.fade with
  | .gap => if x.fadeStep ≤ l.freeze ∧ 0 < l.freeze then .frozen else .normal
  | .fadeOut | .fadeIn => .normal
  | .none => if l.change = .slewUp ∧ l.slewCounter = 256 then .repeatHead else .normal

/-- The steps of the delay engine's state for a programme at the start of a house sample: the fade step of a
programme fade, and the slew counters of the slewing members (R98 to R101). -/
def Delay.advance (x : Delay) : Delay :=
  { x with
    fadeStep := if x.fade = .none then x.fadeStep else x.fadeStep + 1
    lines := x.lines.map fun l =>
      if l.change = .slewUp ∨ l.change = .slewDown then { l with slewCounter := l.slewCounter + 1 } else l }

/-- The programme's fade factor for this house sample in 240ths (R99 to R101). -/
def Delay.factor (x : Delay) : Int :=
  match x.fade with
  | .none => 240
  | .fadeOut => 240 - x.fadeStep
  | .gap => 0
  | .fadeIn => x.fadeStep

/-- One member's line takes its input sample and delivers (R91); what its head empties goes back (R92). Answers
what the output stage receives (R106). -/
def Device.lineSample (d : Device) (n m : Ix8) (x : Sample) : Device × Option Sample :=
  let r := (d.line n m).step d.mem d.time.h x ((d.prog n).delay.workOf m)
  ((({ d with mem := r.mem } : Device).modLine n m fun _ => r.line).handBack r.back, r.delivered)

end Sys2Proof.Machine
end

