-- ==== Sys2Proof/Machine/Meter.lean ====
section
/-!
DEFINITION. The meters (Chapter 7): the weighting filter over exact rationals (log 32), energies, validity, M, S,
the histogram and I, peaks and the OVER event.
-/

namespace Sys2Proof.Machine

/-! ## The tap (R111, R113, R123) -/

/-- A second-order stage: b0, b1, b2, a1, a2 of R113. -/
structure StageCoefficients where
  (b0 b1 b2 a1 a2 : Rat)

/-- Stage 1 of Table 7-2. -/
def lowCut : StageCoefficients :=
  { b0 := 995383 / 1000000, b1 := -1990765 / 1000000, b2 := 995383 / 1000000, a1 := -1990744 / 1000000,
    a2 := 990787 / 1000000 }

/-- Stage 2 of Table 7-2. -/
def highShelf : StageCoefficients :=
  { b0 := 1441847 / 1000000, b1 := -2404118 / 1000000, b2 := 1031317 / 1000000, a1 := -1595321 / 1000000,
    a2 := 664393 / 1000000 }

/-- One step of a stage: its output, and its state shifted by one (R113). -/
def FilterStage.step (f : FilterStage) (k : StageCoefficients) (v : Rat) : FilterStage × Rat :=
  let w := k.b0 * v + k.b1 * f.v1 + k.b2 * f.v2 - k.a1 * f.w1 - k.a2 * f.w2
  ({ v1 := v, v2 := f.v1, w1 := w, w2 := f.w1 }, w)

/-- A member's filter and energy sum after one tapped sample (R111, R113). -/
def MeterMember.filter (m : MeterMember) (x : Sample) : MeterMember :=
  let a := m.stage1.step lowCut ((x.toInt : Rat) / 8388608)
  let b := m.stage2.step highShelf a.2
  { m with stage1 := a.1, stage2 := b.1, energy := m.energy + b.2 * b.2 }

/-- A member's tapped sample in a running mode (R111, R123). -/
def MeterMember.tap (m : MeterMember) (mode : LoudMode) (x : Sample) : MeterMember :=
  let p := { m with peak := max m.peak (magnitude x) }
  match mode with
  | .off => p
  | .measure | .correct => p.filter x

/-- The meter takes the tapped sample of a member (R111). -/
def Meter.tap (t : Meter) (m : Ix8) (x : Sample) : Meter :=
  { t with members := t.members.modify m fun k => k.tap t.mode x }

/-- A member's filter state set to 0 (R114). -/
def MeterMember.clearFilter (m : MeterMember) : MeterMember := { m with stage1 := .zero, stage2 := .zero }

/-! ## The histogram (R119, R120, R122) -/

/-- One added to a 32-bit count, saturating (R1, R119). -/
def addCount (c : Nat) : Nat := min (c + 1) 4294967295

/-- One added to the count of a bin in the list of the bins whose count is not 0 (R119). -/
def addBin : List (Nat × Nat) → Nat → List (Nat × Nat)
  | [], k => [(k, 1)]
  | b :: rest, k =>
    if k < b.1 then (k, 1) :: b :: rest
    else if k = b.1 then (k, addCount b.2) :: rest
    else b :: addBin rest k

/-- The histogram is cleared and I is absent (R120). -/
def Meter.clearHistogram (t : Meter) : Meter := { t with bins := [], belowGate := 0, integrated := none }

/-- M is counted in the histogram (R119). -/
def Meter.countMomentary (t : Meter) : Meter :=
  match t.momentary with
  | none => t
  | some m =>
    if -700 ≤ m then { t with bins := addBin t.bins (m + 700).toNat }
    else { t with belowGate := addCount t.belowGate }

/-! ## The energy list (R115 to R118) -/

/-- The loudness weight of a role (Table 3-2). -/
def Role.weight : Role → Rat
  | .front => 1
  | .surround => 141 / 100
  | .low => 0

/-- The energy list with an entry at its tail, at most 30 entries (R115). -/
def addEnergy (l : List EnergyEntry) (e : EnergyEntry) : List EnergyEntry := (l ++ [e]).drop (l.length + 1 - 30)

/-- The programme energy of the closed sub-block (R115). -/
def Meter.programmeEnergy (t : Meter) (members : List (Ix8 × Member)) : Rat :=
  (members.map fun x => x.2.role.weight * ((t.members.get x.1).energy / 4800)).sum

/-- The loudness of the mean of some entries' energies. -/
def meanLoudness (l : List EnergyEntry) : Int := loudnessOf ((l.map EnergyEntry.energy).sum / (l.length : Rat))

/-- M from the last four entries (R117). -/
def momentaryOf (l : List EnergyEntry) : Option Int :=
  let last := l.drop (l.length - 4)
  if last.length = 4 ∧ last.all EnergyEntry.valid then some (meanLoudness last) else none

/-- S from the valid entries among the last 30 (R118). -/
def shortTermOf (l : List EnergyEntry) : Option Int :=
  let counted := (l.drop (l.length - 30)).filter EnergyEntry.valid
  if 10 ≤ counted.length then some (meanLoudness counted) else none

/-! ## The sub-block end (R112, R123 to R125) -/

/-- The peaks are closed (R123). -/
def MeterMember.closePeak (m : MeterMember) : MeterMember := { m with level := levelOf m.peak, peak := 0 }

/-- The energy entry of a sub-block closed in OFF, and what OFF clears (R112). -/
def Meter.closeOff (t : Meter) : Meter :=
  { t with
    energies := addEnergy t.energies { energy := 0, valid := false }
    momentary := none, shortTerm := none, integrated := none
    members := t.members.map fun m => { m.clearFilter with energy := 0 } }

/-- The energy entry, M, its count and S of a sub-block closed in MEASURE or CORRECT (R115 to R119). -/
def Meter.closeRunning (t : Meter) (members : List (Ix8 × Member)) (valid : Bool) : Meter :=
  let l := addEnergy t.energies { energy := t.programmeEnergy members, valid := valid }
  let a := Meter.countMomentary { t with energies := l, momentary := momentaryOf l }
  { a with shortTerm := shortTermOf l, members := a.members.map fun m => { m with energy := 0 } }

/-- The meter of an ACTIVE programme closes its work at a sub-block end: the mode and the flag it adopts, the
peaks, the energy entry, M, the histogram, S, and I at a second boundary (R112, R125). `fit` says that none of
the causes that other blocks know made the sub-block invalid (R116), the short sub-block of the wrap of H among them,
which R115 names and R116 does not (log 49). -/
def Meter.close (t : Meter) (r : Record) (fit second : Bool) : Meter :=
  let mode := r.settings.loudnessMode
  let valid := fit && t.activeThroughout && t.runningThroughout
  let a := { t with
    mode := mode, resetFlag := r.settings.resetOnChangeover,
    members := t.members.map MeterMember.closePeak }
  let b := match mode with
    | .off => a.closeOff
    | .measure | .correct =>
      let c := a.closeRunning r.listed valid
      if second then { c with integrated := integratedOf c.bins } else c
  { b with activeThroughout := true, runningThroughout := mode != .off }

/-- At least one member's peak level is at or above the over level (R124). -/
def Meter.over (t : Meter) (r : Record) : Bool :=
  r.positions.any fun m => decide (r.settings.overLevel ≤ (t.members.get m).level)

/-! ## RUN, STOP, DELETE and changeovers (R110, R114, R126) -/

/-- The meter set up by RUN (R51, R110). The running-throughout flag is clear until the next sub-block end: the
model's choice, which no figure shows, since the sub-block of RUN is invalid in any case (R116, log 40). -/
def Meter.run (r : Record) : Meter :=
  { Meter.reset with mode := r.settings.loudnessMode, resetFlag := r.settings.resetOnChangeover }

/-- The meter at the entry into STOPPING (R126). -/
def Meter.stop (t : Meter) : Meter := { t with activeThroughout := false }

/-- The meter at the completion of a crossfade (item 3 of R67, R114, R120). -/
def Meter.changed (t : Meter) (r : Record) : Meter :=
  let ms := r.listed.foldl (fun o x => if x.2.watched then o.modify x.1 MeterMember.clearFilter else o) t.members
  let a := { t with members := ms }
  if t.resetFlag then a.clearHistogram else a

end Sys2Proof.Machine
end

