-- ==== Sys2Proof/Machine/Changeover.lean ====
section
/-!
DEFINITION. The changeover controller (Chapter 4): SWITCH, gap detection, the crossfade, side health, automatic
requests and the return timer.
-/

namespace Sys2Proof.Machine

/-- The other side. -/
def Selection.other : Selection → Selection
  | .primary => .backup
  | .backup => .primary

/-- The gap test or the hold test passes, by the hold limit of the settings (R65). -/
def Context.testPasses (c : Context) (s : Settings) : Bool :=
  c.quiet == 960 || decide (s.holdLimit * 4800 ≤ c.holdTimer)

/-- Entry into PENDING for a target with its origin; the tests of R65 start with the entry (R61). -/
def Context.pend (c : Context) (s : Settings) (target : Selection) (origin : Origin) : Context :=
  let a := { c with state := .pending, target := some (target, origin), holdTimer := 0 }
  { a with startDue := a.testPasses s }

/-! ## SWITCH (R61 to R63) -/

/-- A SWITCH taken (R61 to R63). -/
def Context.switch (c : Context) (s : Settings) (target : Selection) : Context :=
  match c.state with
  | .idle => if target = c.selection then c else c.pend s target .host
  | .pending =>
    if target = c.selection then { c with target := none, holdTimer := 0, startDue := false, state := .idle }
    else { c with target := some (target, .host) }
  | .fading => { c with next := some target }

/-! ## Waiting and fading (R64 to R67) -/

/-- A sample is quiet under a gap threshold (R64). -/
def quietSample (threshold : Nat) (x : Sample) : Bool := decide (magnitude x < threshold)

/-- Every watched member's current source is quiet in this house sample (R64). -/
def Device.allQuiet (d : Device) (n : Ix8) : Bool :=
  let x := d.prog n
  x.record.members.all fun m => !m.watched || quietSample x.ctx.gapThreshold (d.arriving (x.currentSource m))

/-- The counts of a context in one house sample of an ACTIVE programme, and in PENDING the tests of that house sample
by the settings then in force (R64 to R66, R71). -/
def Context.count (c : Context) (s : Settings) (quiet : Bool) : Context :=
  let a := { c with quiet := if quiet then min (c.quiet + 1) 960 else 0 }
  match c.state with
  | .idle => a
  | .pending =>
    let b := { a with holdTimer := min (c.holdTimer + 1) 480000 }
    { b with startDue := c.startDue || b.testPasses s }
  | .fading => { a with fadeStep := min (c.fadeStep + 1) 480, fadeFlag := true }

/-- A context's house sample (R64): a programme that is not ACTIVE counts nothing. -/
def Device.countSample (d : Device) (n : Ix8) : Device :=
  if d.active n then d.modCtx n fun c => c.count (d.prog n).record.settings (d.allQuiet n) else d

/-- The gap test or the hold test of a PENDING context has passed, at its entry or at a house sample since. A hold
limit stored after that does not count until the next house sample (R65, R71, log 48). -/
def Programme.crossfadeDue (x : Programme) : Bool :=
  x.record.state == .active && x.ctx.state == .pending && x.ctx.startDue

/-- CROSSFADE_START: the context enters FADING (R65). A request taken between the house sample at which a test comes
to pass and this event finds PENDING: the model's choice (log 45). -/
def Device.crossfadeStart (d : Device) (n : Ix8) : Device :=
  if (d.prog n).crossfadeDue then
    d.modCtx n fun c => { c with state := .fading, startDue := false, fadeStep := 0, fadeFlag := true }
  else d

/-- The mix of a crossfade at step i (R66). -/
def mix (step : Nat) (old new : Sample) : Sample :=
  saturate (roundDiv ((480 - step) * old.toInt + step * new.toInt) 480)

/-- The signal of a member after source selection and crossfade (R59, R66). -/
def Device.selected (d : Device) (n : Ix8) (m : Member) : Sample :=
  let x := d.prog n
  let old := d.arriving (x.currentSource m)
  match x.ctx.state, x.ctx.target with
  | .fading, some t => if m.watched then mix x.ctx.fadeStep old (d.arriving (m.sourceOf t.1)) else old
  | _, _ => old

/-- The context after the completion of its crossfade (R67, item 4 included). -/
def Context.complete (c : Context) (o : Settings) (target : Selection × Origin) : Context :=
  let a : Context :=
    { c with
      selection := target.1, selectedBy := target.2, fadeStep := 0, holdTimer := 0, returnTimer := 0,
      returnDue := false, startDue := false, target := none, next := none, state := .idle }
  match c.next with
  | some s => if s = target.1 then a else a.pend o s .host
  | none => a

/-- CROSSFADE_COMPLETION (R67). A request taken between the 480th house sample and this event comes before it: a STOP
cancels the crossfade with the selection as it was, and a SWITCH is stored as the next target, the model's choice
(log 45). -/
def Device.crossfadeCompletion (d : Device) (n : Ix8) : Device :=
  let x := d.prog n
  match x.ctx.target with
  | none => d
  | some t =>
    if x.record.state = .active ∧ x.ctx.state = .fading ∧ 480 ≤ x.ctx.fadeStep then
      let e := (d.modCtx n fun c => c.complete x.record.settings t).occur (.changeover n)
      (e.trigger n .deadband false).modMeter n fun k => k.changed x.record
    else d

/-! ## Side health (R68) -/

/-- The sources of a side (R68). -/
def Record.side (r : Record) (side : Selection) : List Source :=
  match side with
  | .primary => r.members.map Member.primary
  | .backup => r.members.filterMap Member.backup

/-- The level of a source's slot for the sub-block just closed (R14). -/
def Device.levelAt (d : Device) (s : Source) : Int := (d.port s.port).levels.get s.slot

/-- A side is healthy, judged from the slot levels and converter states at a sub-block end (R68). -/
def Device.healthy (d : Device) (n : Ix8) (side : Selection) : Bool :=
  let r := (d.prog n).record
  let l := r.side side
  l.all (fun s => (d.port s.port).conv.state == .locked) &&
    l.any fun s => decide (r.settings.silenceLevel ≤ d.levelAt s)

/-! ## Automatic requests (R69, R70) -/

/-- A condition that calls for a change to BACKUP is active (R69). -/
def Device.primaryFailed (d : Device) (n : Ix8) : Bool :=
  (d.alarms.get (.silence n)).active ||
    ((d.prog n).record.side .primary).any fun s => (d.alarms.get (.unlock s.port)).active

/-- The automatic test for BACKUP, with the side health held (R69). -/
def Device.autoTest (d : Device) (n : Ix8) : Device :=
  let x := d.prog n
  if x.record.state = .active ∧ x.record.settings.changeoverMode ≠ .manual ∧ x.ctx.selection = .primary ∧
      x.ctx.state = .idle ∧ d.primaryFailed n = true ∧ x.ctx.backupHealthy = true then
    d.modCtx n fun c => c.pend x.record.settings .backup .auto
  else d

/-- The programmes that an activation is reported to make the automatic test (R69, R149, R150). -/
def Device.activationTests (d : Device) (k : Qualified) (i : Ix8) : Device :=
  match k with
  | .unlock =>
    forEight d fun e n => if ((e.prog n).record.side .primary).any (fun s => s.port == i) then e.autoTest n else e
  | .silence => d.autoTest i
  | .loudHigh | .loudLow => d

/-- The return timer's sub-block end, the health just judged (R70). A timer at its limit leaves its request to
RETURN_TIMER_EXPIRY (log 24). -/
def Context.countReturn (c : Context) (s : Settings) : Context :=
  if s.changeoverMode = .autoReturn ∧ c.selection = .backup ∧ c.selectedBy = .auto ∧ c.state = .idle ∧
      c.primaryHealthy = true then
    let t := c.returnTimer + 1
    { c with returnTimer := t, returnDue := decide (s.returnTime * 10 ≤ t) }
  else { c with returnTimer := 0, returnDue := false }

/-- The reports formed at the sub-block end that H stands on show the context states as they now are: a request that
an expiry of that end makes is read with the end's other figures (R187, log 24). -/
def Device.reviseReports (d : Device) : Device :=
  d.modLink fun l =>
    { l with slots := Oct.ofFn fun n =>
        (l.slots.get n).map fun r =>
          if d.time.boundary = .taken ∧ r.h = d.time.h then { r with ctx := (d.prog n).ctx.state } else r }

/-- RETURN_TIMER_EXPIRY: the automatic request for PRIMARY (R70), which the reports of that sub-block end show (R187).
A mark whose context is no longer idle falls away. -/
def Device.returnExpiry (d : Device) (n : Ix8) : Device :=
  let x := d.prog n
  if x.ctx.returnDue then
    if x.record.state = .active ∧ x.ctx.state = .idle then
      (d.modCtx n fun c => { c.pend x.record.settings .primary .auto with returnTimer := 0, returnDue := false }).reviseReports
    else d.modCtx n fun c => { c with returnDue := false }
  else d

/-- The controller's sub-block end for an ACTIVE programme: health, the automatic test and the return timer
(R68 to R70). -/
def Device.judgeSides (d : Device) (n : Ix8) : Device :=
  let p := d.healthy n .primary
  let b := d.healthy n .backup
  let e := (d.modCtx n fun c => { c with primaryHealthy := p, backupHealthy := b }).autoTest n
  e.modCtx n fun c => c.countReturn (d.prog n).record.settings

/-- The fade flag starts afresh at a sub-block end (R66). -/
def Context.freshFlag (c : Context) : Context := { c with fadeFlag := c.state == .fading }

/-! ## RUN and STOP (R58, R72) -/

/-- The context at RUN (R51, R58). -/
def Context.run (c : Context) : Context :=
  { Context.reset with gapThreshold := c.gapThreshold, fadeFlag := c.fadeFlag }

/-- The context at the entry into STOPPING (R68, R72). -/
def Context.stop (c : Context) : Context :=
  { c with
    state := .idle, target := none, next := none, fadeStep := 0, holdTimer := 0, quiet := 0,
    returnTimer := 0, returnDue := false, startDue := false, primaryHealthy := false, backupHealthy := false }

end Sys2Proof.Machine
end

