-- ==== Sys2Proof/Machine/Converter.lean ====
section
/-!
DEFINITION. The converters (Chapter 2): frames offered to the elastic FIFO, interval ends, slips, latency,
holdover, and the work of a house sample.
-/

namespace Sys2Proof.Machine

/-- 2^24, one input frame per house sample (Table 2-1). -/
def unity : Int := 16777216

/-- 16 history frames of 0 (R24, R29). -/
def silentHistory : List InputFrame := List.replicate 16 (Quad.fill 0)

/-- The coefficient set that S_est calls for (R29). -/
def coeffSetOf (sEst : Int) : CoeffSet := if sEst ≤ unity then .wide else .narrow

/-- S_new for an interval of `tInt` units (R23). -/
def rateOf (tInt : Nat) : Int := roundDiv (2 ^ 44) tInt

/-- A measurement is in range (R23, Table 2-3). -/
def inRange (tInt : Nat) : Bool := decide (503317 ≤ tInt) && decide (tInt ≤ 1797558)

/-- Lc for a fill and an estimate (R34). -/
def latencyFor (fill : Nat) (sEst : Int) : Nat := (roundDiv ((fill + 8) * unity) sEst).toNat

/-- S_app for an estimate and an observed fill (R26). -/
def servo (sEst : Int) (fill : Nat) : Int :=
  clampInt (sEst + 256 * (fill - 32)) (sEst - 8192) (sEst + 8192)

/-- The jump test (R25). -/
def jumps (sNew sEst : Int) : Bool := decide (sEst / 1024 < (sNew - sEst).natAbs)

/-- The converter is in SETTLE or LOCKED. -/
def Converter.converting (c : Converter) : Bool := c.state == .settle || c.state == .locked

/-- The clearing that every entry into OFF, SEEK and the like shares: interval abandoned, FIFO emptied, history and
fade cleared, underrun wait clear, lock count 0 (R35, R40). The sub-block in which it is taken is no longer converting
throughout (R38, R127). A measurement that has ended and waits for INTERVAL_END is dropped with the interval: the
model's choice (logs 28 and 45). -/
def Converter.cleared (c : Converter) : Converter :=
  { c with
    fifo := [], interval := none, ended := none, history := silentHistory, fade := .none, starved := false,
    underrunWait := false, lockCount := 0, throughout := false }

/-- Entry into SEEK (R35, R37). -/
def Converter.toSeek (c : Converter) : Converter := { c.cleared with state := .seek }

/-- The converter of a disabled port (R16, R40). -/
def Converter.toOff (c : Converter) : Converter := { c.cleared with state := .off, holdTimer := 0 }

/-- The converter of a port that is enabled or takes another lane source (R17, R40). -/
def Converter.restarted (c : Converter) : Converter := { c.cleared with state := .seek, holdTimer := 0 }

/-- The step a holdover fade-out starts from (R30). -/
def Fade.outStart : Fade → Nat
  | .fadeIn s _ => s
  | .none | .fadeOut _ => 64

/-- Entry into HOLDOVER (R35); the sub-block is no longer converting throughout (R38). -/
def Converter.toHoldover (c : Converter) : Converter :=
  { c with
    state := .holdover, holdTimer := 0, interval := none, ended := none,
    fade := .fadeOut c.fade.outStart, starved := false, throughout := false }

/-- The converter at an exit of its lane from FRAMED (R35, R37). -/
def Converter.laneLost (c : Converter) : Converter :=
  match c.state with
  | .measure | .settle => c.toSeek
  | .locked => c.toHoldover
  | .holdover => if c.holdTimer = 48000 then c.toSeek else { c with fifo := [] }
  | .off | .seek => c

/-- The converter at an entry of its lane into FRAMED, before the frame that made it (R22). -/
def Converter.laneFramed (c : Converter) : Converter :=
  match c.state with
  | .seek => { c with state := .measure, lockCount := 0, fade := .none, underrunWait := false,
                      interval := none, ended := none }
  | .off | .measure | .settle | .locked | .holdover => c

/-! ## Frames offered (R21, R23, R31) -/

/-- The FIFO with a frame at its tail, the oldest frame discarded beyond 32 (R21). -/
def appendLimited (fifo : List InputFrame) (f : InputFrame) : List InputFrame :=
  (fifo ++ [f]).drop (fifo.length + 1 - 32)

/-- The FIFO after an offered frame in SETTLE or LOCKED: appended, or with the 32 oldest frames discarded
first on an overrun (R21, R31). -/
def appendTracking (fifo : List InputFrame) (f : InputFrame) : List InputFrame :=
  if 64 ≤ fifo.length then fifo.drop 32 ++ [f] else fifo ++ [f]

/-- The estimator interval as a frame arrives at a phase-counter reading: started where none runs, ended at the
4,096th frame after its start, which starts the next (R23). The end is worked by INTERVAL_END (log 28). -/
def Converter.countFrame (c : Converter) (reading : Nat) : Converter :=
  match c.interval with
  | none => { c with interval := some { start := reading, count := 0 } }
  | some i =>
    if i.count + 1 < 4096 then { c with interval := some { i with count := i.count + 1 } }
    else
      { c with
        interval := some { start := reading, count := 0 }
        ended := some { tInt := (reading + 2 ^ 56 - i.start) % 2 ^ 56, fObs := c.fifo.length } }

/-- A frame offered to the converter, apart from the slip an overrun is (R21, R22, R23, R36, R37). -/
def Converter.offer (c : Converter) (f : InputFrame) (reading : Nat) : Converter :=
  let r := { c with reading := reading }
  match c.state with
  | .off => c
  | .seek => { r with fifo := appendLimited c.fifo f }
  | .measure => Converter.countFrame { r with fifo := appendLimited c.fifo f } reading
  | .settle | .locked => Converter.countFrame { r with fifo := appendTracking c.fifo f } reading
  | .holdover => if c.fade = .none then { r with fifo := c.fifo ++ [f] } else r

/-- An offered frame overruns (R31). -/
def Converter.overruns (c : Converter) : Bool := c.converting && decide (64 ≤ c.fifo.length)

/-- The effects of a slip on the converter (R33). -/
def Converter.slipped (c : Converter) : Converter :=
  { c with state := .settle, lockCount := 0, slipMark := true }

/-- A slip: the converter's part and the SLIP event (R33). -/
def Device.slip (d : Device) (p : Ix8) : Device := (d.modConv p Converter.slipped).occur (.slip p)

/-- Lc is computed from a fill and sent to the delay engine (R34). -/
def Device.sendLatency (d : Device) (p : Ix8) (fill : Nat) : Device :=
  (d.modConv p fun c => { c with lc := latencyFor fill c.sEst }).latencyUpdate p

/-- A frame is offered to a port's converter (R21, R31). At an overrun the SLIP event comes before the latency update
and the DELAY_SHORT report that it may bring (R33, R164): the model's choice (log 46). -/
def Device.offer (d : Device) (p : Ix8) (f : InputFrame) (reading : Nat) : Device :=
  let full := (d.port p).conv.overruns
  let e := d.modConv p fun c => c.offer f reading
  if full then
    ((e.modConv p fun c => { c with sApp := c.sEst + 256 }).slip p).sendLatency p 33
  else e

/-! ## Interval ends (R23 to R27) -/

/-- The converter at an in-range interval end in MEASURE, before the latency is computed (R24). -/
def Converter.enterSettle (c : Converter) (sNew : Int) : Converter :=
  { c with
    state := .settle, sEst := sNew, sApp := sNew, fraction := 0, history := silentHistory,
    fade := .fadeIn 0 false, lockCount := 0, coeffs := coeffSetOf sNew }

/-- The converter at an out-of-range interval end in SETTLE or LOCKED (R25); the sub-block is no longer converting
throughout (R38). -/
def Converter.backToMeasure (c : Converter) : Converter :=
  { c with
    state := .measure, history := silentHistory, underrunWait := false, fade := .none,
    fifo := c.fifo.drop (c.fifo.length - 32), lockCount := 0, throughout := false }

/-- The converter at a jump interval end (R25, R26). -/
def Converter.jumpTo (c : Converter) (sNew : Int) (fill : Nat) : Converter :=
  { c with state := .settle, sEst := sNew, sApp := servo sNew fill, lockCount := 0, coeffs := coeffSetOf sNew }

/-- The lock test (R27). The entry into LOCKED at a count of 4 is the LOCK_COUNT_EXPIRY event. -/
def Converter.lockTest (c : Converter) (fill : Nat) : Converter :=
  let off := ((fill : Int) - 32).natAbs
  match c.state with
  | .settle => { c with lockCount := if off ≤ 4 then min (c.lockCount + 1) 4 else 0 }
  | .locked => if 12 < off then { c with state := .settle, lockCount := 0 } else c
  | .off | .seek | .measure | .holdover => c

/-- The converter at a smoothed interval end (R26, R27). -/
def Converter.track (c : Converter) (sNew : Int) (fill : Nat) : Converter :=
  let s := c.sEst + roundDiv (sNew - c.sEst) 8
  Converter.lockTest { c with sEst := s, sApp := servo s fill, coeffs := coeffSetOf s } fill

/-- An estimator interval of a port has ended (R23 to R27). A request taken between the frame and this event comes
before it: the model's choice (logs 28 and 45), as is that the first measurement of R24 is reported before its latency
update (log 46). -/
def Device.intervalEnd (d : Device) (p : Ix8) : Device :=
  let c := (d.port p).conv
  match c.ended with
  | none => d
  | some e =>
    let d1 := d.modConv p fun c => { c with ended := none }
    let sNew := rateOf e.tInt
    match c.state with
    | .measure =>
      if inRange e.tInt then
        ((d1.deactivate (.rateRange p)).modConv p fun c => c.enterSettle sNew).sendLatency p 32
      else d1.activate (.rateRange p)
    | .settle | .locked =>
      if inRange e.tInt then
        ((d1.deactivate (.rateRange p)).modConv p fun c =>
          if jumps sNew c.sEst then c.jumpTo sNew e.fObs else c.track sNew e.fObs).sendLatency p e.fObs
      else (d1.activate (.rateRange p)).modConv p Converter.backToMeasure
    | .off | .seek | .holdover => d1

/-- The lock count of a converter in SETTLE has reached 4 (R27). A request or a sub-block end taken before this event
finds SETTLE (log 45). -/
def Converter.lockExpiry (c : Converter) : Converter :=
  if c.state = .settle ∧ 4 ≤ c.lockCount then { c with state := .locked } else c

/-! ## Waits, fades and holdover (R30, R32, R36, R37) -/

/-- The FIFO has refilled to 32 during an underrun wait (R32). A request taken between the frame and this event comes
before it, and a PORT then drops it (R34, log 45). -/
def Device.underrunWaitEnd (d : Device) (p : Ix8) : Device :=
  let c := (d.port p).conv
  if c.underrunWait ∧ 32 ≤ c.fifo.length then
    (d.modConv p fun c =>
      { c with underrunWait := false, sApp := c.sEst, fade := .fadeIn 0 true }).sendLatency p 32
  else d

/-- A fade-in has reached step 64 (R30). A sub-block end taken before this event finds it in progress (log 45). -/
def Converter.fadeInEnd (c : Converter) : Converter :=
  match c.fade with
  | .fadeIn s _ => if 64 ≤ s then { c with fade := .none } else c
  | .none | .fadeOut _ => c

/-- A holdover fade-out has reached step 0 (R36). A request taken between the house sample and this event finds the
FIFO as it was (log 45). -/
def Converter.holdoverFadeOutEnd (c : Converter) : Converter :=
  if c.state = .holdover ∧ c.fade = .fadeOut 0 then
    { c with fraction := 0, history := silentHistory, fifo := [], fade := .none, starved := false }
  else c

/-- The FIFO of a converter in HOLDOVER has refilled to 32 (R37). A request taken between the frame and this event
comes before it, and a PORT then drops it (R34, log 45). -/
def Device.holdoverRefillEnd (d : Device) (p : Ix8) : Device :=
  let c := (d.port p).conv
  if c.state = .holdover ∧ c.fade = .none ∧ 32 ≤ c.fifo.length ∧ (d.port p).lane.state = .framed then
    (d.modConv p fun c =>
      { c with
        state := .settle, sApp := c.sEst, fraction := 0, fade := .fadeIn 0 false,
        coeffs := coeffSetOf c.sEst, lockCount := 0,
        interval := some { start := c.reading, count := 0 }, ended := none }).sendLatency p 32
  else d

/-- The holdover timer has reached 48,000 while the lane is not FRAMED (R37). -/
def Port.holdoverTimerExpiry (x : Port) : Port :=
  if x.conv.state = .holdover ∧ 48000 ≤ x.conv.holdTimer ∧ x.lane.state ≠ .framed then
    { x with conv := x.conv.toSeek }
  else x

/-! ## The house sample (R28 to R30, R32, R36, R38) -/

/-- The interpolator's sum for one slot (R29). -/
def Converter.slotSum (c : Converter) (s : Ix4) : Rat :=
  (c.history.zipIdx.map fun h =>
    Config.coefficient c.coeffs (c.fraction / 65536) h.2 * ((h.1.get s).toInt : Rat)).sum

/-- The interpolator's result for one slot, before the fade (R29). -/
def Converter.interpolate (c : Converter) (s : Ix4) : Sample := saturate (roundRat (c.slotSum s))

/-- The whole part and the remainder of the accumulator's sum (R28). -/
def Converter.advance (c : Converter) : Nat × Nat :=
  let sum := (c.fraction + c.sApp).toNat
  (sum / 16777216, sum % 16777216)

/-- The FIFO would hold fewer than 8 frames after the next move (R28). -/
def Converter.short (c : Converter) : Bool := decide (c.fifo.length < c.advance.1 + 8)

/-- The converter with the frames of this house sample moved (R28). -/
def Converter.move (c : Converter) : Converter :=
  let a := c.advance
  { c with
    fifo := c.fifo.drop a.1, history := (c.history ++ c.fifo.take a.1).drop a.1, fraction := a.2 }

/-- The converter with its output formed from the history and a fade step in 64ths (R29, R30). -/
def Converter.form (c : Converter) (step : Nat) : Converter :=
  { c with output := Quad.ofFn fun s => scale (c.interpolate s) step 64 }

/-- The converter with an output of 0. -/
def Converter.mute (c : Converter) : Converter := { c with output := Quad.fill 0 }

/-- The output of a converter that moves frames, with the fade stepped (R30). -/
def Converter.sound (c : Converter) : Converter :=
  match c.fade with
  | .none => c.form 64
  | .fadeIn s closing => { c.form (s + 1) with fade := .fadeIn (s + 1) closing }
  | .fadeOut s => { c.form (s - 1) with fade := .fadeOut (s - 1) }

/-- The converter in a house sample, apart from the slip an underrun is (R28, R29, R32, R36). A starved
holdover fade-out goes on stepping (log 12). -/
def Converter.sample (c : Converter) : Converter :=
  match c.state with
  | .settle | .locked =>
    if c.underrunWait then c.mute
    else if c.short then { c.mute with underrunWait := true, fade := .none }
    else c.move.sound
  | .holdover =>
    let t := { c with holdTimer := min (c.holdTimer + 1) 48000, throughout := false }
    match c.fade with
    | .fadeOut (s + 1) =>
      if c.starved || c.short then { t.mute with starved := true, fade := .fadeOut s } else t.move.sound
    | .none | .fadeIn _ _ | .fadeOut 0 => t.mute
  | .off | .seek | .measure => { c.mute with throughout := false }

/-- A converter underruns in this house sample (R32). -/
def Converter.underruns (c : Converter) : Bool := c.converting && !c.underrunWait && c.short

/-- The slot level detectors take the converted samples (R13). -/
def Port.detect (x : Port) : Port :=
  { x with peaks := Quad.ofFn fun s => max (x.peaks.get s) (magnitude (x.conv.output.get s)) }

/-- A port's converter and detectors work one house sample (R13, R28 to R32). -/
def Device.convertSample (d : Device) (p : Ix8) : Device :=
  let under := (d.port p).conv.underruns
  let e := d.modPort p fun x => Port.detect { x with conv := x.conv.sample }
  if under then e.slip p else e

/-- The converted samples enter the path to source selection, and the oldest leave it (R29). -/
def Port.shift (x : Port) : Port := { x with path := x.path.tail ++ [x.conv.output] }

/-! ## The sub-block end (R13, R14, R38) -/

/-- The slot levels of the closed sub-block are formed and the running peaks start afresh (R14). -/
def Port.closeLevels (x : Port) : Port := { x with levels := x.peaks.map levelOf, peaks := Quad.fill 0 }

/-- An underrun wait or the fade-in that ends it is in progress (R33): at step 64 still, until CONVERTER_FADE_IN_END
or the next house sample (R38, log 45). -/
def Converter.recovering (c : Converter) : Bool :=
  c.underrunWait || match c.fade with
    | .fadeIn _ closing => closing
    | .none | .fadeOut _ => false

/-- The two flags start afresh for the sub-block that begins (R38). -/
def Converter.freshFlags (c : Converter) : Converter :=
  { c with throughout := c.converting, slipMark := c.recovering }

end Sys2Proof.Machine
end

