-- ==== Sys2Proof/Machine/Lane.lean ====
section
/-!
DEFINITION. The lane receivers (Sections 1.3 to 1.6 and 1.8): marker classification, lane states, the hand-off
of frames, and the effects of PORT.
-/

namespace Sys2Proof

/-- A pattern of a frame marker was found (R9, R10). -/
def LaneInput.pattern (f : LaneInput) : Bool := f.atExpected || f.elsewhere

/-- The four samples a frame contributes (R11). -/
def LaneInput.samples (f : LaneInput) : Quad Sample := f.slots.map fun s => if s.valid then s.sample else 0

/-- The number of slots of a frame whose validity flag is clear (R11). -/
def LaneInput.invalidSlots (f : LaneInput) : Nat := (f.slots.toList.filter fun s => !s.valid).length

end Sys2Proof

namespace Sys2Proof.Machine

/-- The phase-counter reading of a moment `phase` steps after the last house sample made, H being the count of house
samples made (R23, log 34). -/
def Device.phaseReading (d : Device) (phase : BitVec 8) : Nat := 256 * d.time.h.toNat + phase.toNat

/-- What a marker classification means for the converter (R10, R11). -/
inductive LaneEvent where
  | nothing
  | offered
  | entered
  | lost
deriving DecidableEq, Repr

/-- A lane receiver's step at one marker position (R9, R10, Table 1-4), made at the arrival of its frame. That a
pattern found, at the expected position or elsewhere, is recorded under `h`, the H of the arrival that reports it and
not the H at the pattern itself, is the model's choice (log 51). -/
def Lane.classify (l : Lane) (f : LaneInput) (h : HouseIndex) : Lane × LaneEvent :=
  let s := { l with lastMarker := if f.pattern then h else l.lastMarker }
  if l.expects then
    if f.atExpected then
      match l.state with
      | .framed => ({ s with bad := 0 }, .offered)
      | .dark | .framing =>
        if 8 ≤ l.good + 1 then ({ s with good := 8, bad := 0, state := .framed }, .entered)
        else ({ s with good := l.good + 1 }, .nothing)
    else
      match l.state with
      | .framed =>
        if 3 ≤ l.bad + 1 then ({ s with good := 0, bad := 0, expects := false, state := .framing }, .lost)
        else ({ s with bad := l.bad + 1 }, .offered)
      | .dark | .framing => ({ s with good := 0, expects := false }, .nothing)
  else if f.pattern then ({ s with good := 1, bad := 0, expects := true, state := .framing }, .nothing)
  else (s, .nothing)

/-- A frame of a FRAMED lane is offered and its invalid slots are counted (R11). -/
def Device.handOff (d : Device) (p : Ix8) (f : LaneInput) : Device :=
  (d.modLane p fun l => { l with invalid := addSat l.invalid f.invalidSlots }).offer p f.samples
    (d.phaseReading f.phase)

/-- A frame completes on an enabled lane (R9 to R11, R22, R35). -/
def Device.receiveFrame (d : Device) (p : Ix8) (f : LaneInput) : Device :=
  let r := (d.port p).lane.classify f d.time.h
  let e := d.modLane p fun _ => r.1
  match r.2 with
  | .nothing => e
  | .offered => e.handOff p f
  | .entered => (e.modConv p Converter.laneFramed).handOff p f
  | .lost => e.modConv p Converter.laneLost

/-- The events of a port's converter that are due before a further arrival (log 2), but for a holdover timer expiry:
R37 lets an expiry and the lane's entry into FRAMED be taken in either order, and with the expiry due and its row not
given an arrival, a looped one too, takes the entry first: the model's choice (logs 2 and 45). -/
def Device.settleArrival (d : Device) (p : Ix8) : Device :=
  let a := (d.intervalEnd p).modConv p Converter.lockExpiry
  (((a.underrunWaitEnd p).modConv p Converter.holdoverFadeOutEnd).holdoverRefillEnd p)

/-- The frame of an output lane as it arrives at a looped receiver (R12, log 10). -/
def loopedInput (slots : Quad Slot) : LaneInput :=
  { atExpected := true, elsewhere := false, slots := slots, phase := 0 }

/-- A lane that has found no marker pattern for 48 house samples, counted by the house samples made (R10) from the
arrival that reported the last one: the model's choice (log 51). -/
def Device.darkDue (d : Device) (p : Ix8) : Bool :=
  let l := (d.port p).lane
  l.enabled && l.state != .dark && decide (48 ≤ (d.time.h - l.lastMarker).toNat)

/-- The receiver of a dark lane: both counts 0, no expectation (R10). -/
def Lane.darkened (l : Lane) : Lane := { l with state := .dark, good := 0, bad := 0, expects := false }

/-- LANE_DARK_TIMEOUT (R10, R35, R37). A request taken before this event finds the lane as it was (log 45). -/
def Device.laneDark (d : Device) (p : Ix8) : Device :=
  if d.darkDue p then
    let lost := (d.port p).lane.state = .framed
    let e := (d.settleArrival p).modLane p Lane.darkened
    if lost then e.modConv p Converter.laneLost else e
  else d

/-! ## Arrivals (R10, R12) -/

/-- A frame arrives at a port once the events of the port are taken that come before it: those of its converter, and
the time limit of a lane that has gone 48 house samples without a pattern (R10, log 2). -/
def Device.arrive (d : Device) (p : Ix8) (f : LaneInput) : Device := ((d.settleArrival p).laneDark p).receiveFrame p f

/-- FRAME_ARRIVAL at the pins of a port: ignored while the port is disabled or looped (R10, R12). -/
def Device.frameArrival (d : Device) (p : Ix8) (f : LaneInput) : Device :=
  if (d.port p).lane.enabled ∧ (d.port p).lane.source = .pins then d.arrive p f else d

/-- The arrivals at the looped lanes in a house sample: the frames emitted in the house sample before (R12). The grant
notices that the lines of that house sample have brought are taken first (R84, log 23). Several looped ports take
their frames in ascending order: the model's choice (log 46). -/
def Device.loopedArrivals (d : Device) (frames : Option LaneFrames) : Device :=
  match frames with
  | none => d
  | some o =>
    forEight d fun e p =>
      match (e.port p).lane.source with
      | .pins => e
      | .loop q => if (e.port p).lane.enabled then e.told.arrive p (loopedInput (o.get q)) else e

/-! ## PORT (R15 to R17, R40, R161) -/

/-- A PORT request that disables an enabled port (R16). UNLOCK is forced before RATE_RANGE: the model's choice
(log 41). -/
def Device.disablePort (d : Device) (p : Ix8) (source : LaneSource) : Device :=
  let e := d.modPort p fun x =>
    { x with lane := { x.lane.darkened with enabled := false, source := source }, conv := x.conv.toOff }
  (e.force (.unlock p)).force (.rateRange p)

/-- A PORT request that enables a disabled port, or gives an enabled port another lane source (R17). -/
def Device.startPort (d : Device) (p : Ix8) (source : LaneSource) : Device :=
  d.modPort p fun x =>
    { x with lane := { x.lane.darkened with enabled := true, source := source }, conv := x.conv.restarted }

/-- A PORT request taken (R15 to R17). -/
def Device.setPort (d : Device) (p : Ix8) (enable : Bool) (source : LaneSource) : Device :=
  let l := (d.port p).lane
  if enable then (if l.enabled && l.source == source then d else d.startPort p source)
  else if l.enabled then d.disablePort p source
  else d.modLane p fun k => { k with source := source }

end Sys2Proof.Machine
end

