-- ==== Sys2Proof/Machine/Verify.lean ====
section
/-!
DEFINITION. The test generators and the checkers (Chapter 10).
-/

namespace Sys2Proof.Machine

/-! ## The sequence (R165) -/

/-- The bit that follows in the sequence: b[n-23] XOR b[n-18] (R165). -/
def nextBit (r : SeqReg) : Bool := r.getLsbD 22 ^^ r.getLsbD 17

/-- The register with a bit shifted in as its newest; the oldest leaves (R165). -/
def shiftIn (r : SeqReg) (b : Bool) : SeqReg := (r <<< 1) ||| (if b then 1 else 0)

/-- The register after one step of the sequence (R165). -/
def sequenceStep (r : SeqReg) : SeqReg := shiftIn r (nextBit r)

/-! ## Generators (R165 to R168) -/

/-- The output sample of a generator at a house sample at which it is on: plus or minus the amplitude by the
newest bit of its register (R166). -/
def Generator.output (g : Generator) : Sample :=
  if g.register.getLsbD 0 then saturate g.amplitude else saturate (-(g.amplitude : Int))

/-- The epoch table with an entry at its tail, at most 16 entries (R167). -/
def addEpoch (epochs : List (HouseIndex × SeqReg)) (e : HouseIndex × SeqReg) :
    List (HouseIndex × SeqReg) :=
  (epochs ++ [e]).drop (epochs.length + 1 - 16)

/-- A house index is a multiple of 48,000, where second boundaries lie (R8). -/
def onSecond (h : HouseIndex) : Bool := h.toNat % 48000 == 0

/-- A house index is a multiple of 4,800, where sub-block ends lie (R8). -/
def onSubBlock (h : HouseIndex) : Bool := h.toNat % 4800 == 0

/-- The house sample to be worked is the one of a second boundary: H stands on it, and its sub-block end is taken. The
setting of H to 0 by a reset is no boundary (R8). -/
def Timebase.onSecondBoundary (t : Timebase) : Bool := t.boundary == .taken && onSecond t.h

/-- A generator in the house sample that the timebase stands before: its step, and the epoch entry of a second
boundary after the step (R165, R167, log 6). -/
def Generator.sample (g : Generator) (t : Timebase) : Generator :=
  if g.on then
    let r := sequenceStep g.register
    { g with register := r, epochs := if t.onSecondBoundary then addEpoch g.epochs (t.h, r) else g.epochs }
  else g

/-- A generator at a sub-block end: its flag starts afresh (R166). -/
def Generator.freshFlag (g : Generator) : Generator := { g with flag := g.on }

/-- A TGEN request taken, with the level clamped (R168). -/
def Generator.set (g : Generator) (on : Bool) (level : Int) : Generator :=
  let a := { g with level := level, amplitude := amplitudeOf level, on := on }
  if on && !g.on then { a with register := BitVec.allOnes 23, epochs := [], flag := true } else a

/-! ## Checkers (R169 to R175) -/

/-- The received bit of a sample (R169). -/
def receivedBit (x : Sample) : Bool := decide (0 < x.toInt)

/-- Entry into HUNT (R170). -/
def Checker.hunt (c : Checker) : Checker :=
  { c with state := .hunt, loadCount := 0, correctRun := 0, window := [], delay := none }

/-- A checker disabled by TCHECK; the error count is kept (R173). -/
def Checker.disabled (c : Checker) : Checker :=
  { c with
    state := .idle, watched := none, loadCount := 0, correctRun := 0, register := 0, window := [],
    delay := none }

/-- A received bit in HUNT (R170). -/
def Checker.huntBit (c : Checker) (b : Bool) : Checker :=
  if c.loadCount < 23 then { c with register := shiftIn c.register b, loadCount := c.loadCount + 1 }
  else
    { c with
      register := shiftIn c.register b
      correctRun := if b = nextBit c.register ∧ c.register ≠ 0 then min (c.correctRun + 1) 48 else 0 }

/-- A received bit in SYNC (R171). -/
def Checker.syncBit (c : Checker) (b : Bool) : Checker :=
  let p := nextBit c.register
  { c with
    register := shiftIn c.register p
    window := (c.window ++ [b != p]).drop (c.window.length + 1 - 48)
    errors := if b = p then c.errors else addSat c.errors 1 }

/-- The programme whose epoch table a map entry names (R172). -/
def MapEntry.feeder : MapEntry → Option Ix8
  | .silence => none
  | .member n _ => some n
  | .test n => some n

/-- The programme that feeds the watched slot of a checker (R172). -/
def Device.feederOf (d : Device) (c : Checker) : Option Ix8 :=
  c.watched.bind fun w => ((d.map.get w.1).get w.2).feeder

/-- The measured delay of a register against an epoch table at house index `h`, or the delay measured before
where no entry matches (R172). -/
def measure (epochs : List (HouseIndex × SeqReg)) (r : SeqReg) (h : HouseIndex)
    (before : Option HouseIndex) : Option HouseIndex :=
  match epochs.find? fun e => e.2 == r with
  | some e => some (h - e.1)
  | none => before

/-- The sample of a slot in the frames emitted at this house sample (R169). -/
def Device.emittedSample (d : Device) (q : Ix8) (s : Ix4) : Sample :=
  match d.emitted with
  | none => 0
  | some f => ((f.get q).get s).sample

/-- A checker in a house sample (R169 to R172). The house sample whose bit completes the run of 48 makes no comparison
with the epoch table; the first comes with the house sample after it: the model's choice (log 43). -/
def Device.checkSample (d : Device) (i : Ix2) : Device :=
  let c := d.checkers.get i
  match c.watched with
  | none => d
  | some w =>
    let b := receivedBit (d.emittedSample w.1 w.2)
    match c.state with
    | .idle => d
    | .hunt => d.modChecker i fun c => c.huntBit b
    | .sync =>
      d.modChecker i fun c =>
        let k := c.syncBit b
        match d.feederOf k with
        | none => k
        | some n => { k with delay := measure (d.prog n).gen.epochs k.register d.time.h k.delay }

/-- The errors in a checker's window (R171). -/
def Checker.windowErrors (c : Checker) : Nat := c.window.count true

/-- CHECKER_SYNC: the correct run of a checker in HUNT has reached 48 (R170). No command but the row itself finds it
undone (log 42). -/
def Device.checkerSync (d : Device) (i : Ix2) : Device :=
  let c := d.checkers.get i
  if c.state = .hunt ∧ 48 ≤ c.correctRun then
    (d.modChecker i fun c => { c with state := .sync, window := List.replicate 48 false }).deactivate
      (.checkLoss i)
  else d

/-- CHECKER_LOSS: the window of a checker in SYNC holds 8 errors or more (R171). No command but the row itself finds
it undone (log 42). -/
def Device.checkerLoss (d : Device) (i : Ix2) : Device :=
  let c := d.checkers.get i
  if c.state = .sync ∧ 8 ≤ c.windowErrors then
    (d.modChecker i Checker.hunt).activate (.checkLoss i)
  else d

/-- The changes of state that the last house sample left to the checkers, checker 0 before checker 1 (R170, R171,
logs 41 and 42). -/
def Device.settleCheckers (d : Device) : Device := two.foldl (fun e i => (e.checkerSync i).checkerLoss i) d

/-- The checker takes a change of the map entry of its watched slot (R174). -/
def Device.rehunt (d : Device) (i : Ix2) : Device :=
  match (d.checkers.get i).state with
  | .idle => d
  | .hunt => d.modChecker i Checker.hunt
  | .sync => (d.modChecker i Checker.hunt).activate (.checkLoss i)

/-- A map entry is stored; the checkers that watch its slot re-enter HUNT where it differs (R140, R174), checker 0
before checker 1: the model's choice, which fixes the order of their reports of CHECK_LOSS (log 41). -/
def Device.putMap (d : Device) (q : Ix8) (s : Ix4) (e : MapEntry) : Device :=
  if (d.map.get q).get s = e then d
  else
    two.foldl (fun a i => if (a.checkers.get i).watched = some (q, s) then a.rehunt i else a)
      ({ d with map := d.map.set q ((d.map.get q).set s e) } : Device)

/-- Every map entry of which a test holds is reset to SILENCE, in ascending order of q.s (R47, R55, R139): the order,
and with it that of the reports of CHECK_LOSS, is the model's choice (log 41). -/
def Device.silenceWhere (d : Device) (test : MapEntry → Bool) : Device :=
  eight.foldl (fun a q => four.foldl (fun b s =>
    if test ((b.map.get q).get s) then b.putMap q s .silence else b) a) d

/-- A TCHECK request that enables a checker (R173). -/
def Device.enableChecker (d : Device) (i : Ix2) (q : Ix8) (s : Ix4) : Device :=
  (d.modChecker i fun c => { c.hunt with watched := some (q, s) }).activate (.checkLoss i)

/-- A TCHECK request that disables a checker (R161, R173). -/
def Device.disableChecker (d : Device) (i : Ix2) : Device :=
  (d.modChecker i Checker.disabled).force (.checkLoss i)

end Sys2Proof.Machine
end

