-- ==== Sys2Proof/Machine/Output.lean ====
section
/-!
DEFINITION. The gain computers, the gain schedule, the output stage and the output lanes (Chapter 8), with the
stop fade of R53.
-/

namespace Sys2Proof.Machine

/-! ## The gain computer (R129 to R131) -/

/-- G after one step toward a wanted value by at most `delta` (R129). -/
def stepToward (g wanted delta : Int) : Int :=
  if (wanted - g).natAbs ≤ delta then wanted else if g < wanted then g + delta else g - delta

/-- The desired gain in tenths of a dB (R129). -/
def desiredGain (s : Settings) (shortTerm : Int) : Int :=
  clampInt (s.loudnessTarget - shortTerm) (-s.maxCut) s.maxBoost

/-- The step of G at a sub-block end (R129, R130). -/
def Gain.step (g : Gain) (s : Settings) (mode : LoudMode) (shortTerm : Option Int) : Gain :=
  match mode, shortTerm with
  | .correct, some v =>
    if v < s.loudnessTarget - 200 then g else { g with g := stepToward g.g (10 * desiredGain s v) s.slew }
  | .correct, none => g
  | .measure, _ => { g with g := 0 }
  | .off, _ => { g with g := 0 }

/-- The schedule takes an entry where G has changed (R131). -/
def Gain.schedule1 (g : Gain) (tag : HouseIndex) : Gain :=
  if g.g = g.previous then g
  else { g with schedule := g.schedule ++ [{ tag := tag, gain := g.g }], previous := g.g }

/-- The gain computer's sub-block end (R129 to R131). -/
def Gain.close (g : Gain) (s : Settings) (t : Meter) (tag : HouseIndex) : Gain :=
  (g.step s t.mode t.shortTerm).schedule1 tag

/-- G clamped at once into new bounds (R49, R130). -/
def Gain.clampTo (g : Gain) (s : Settings) : Gain :=
  { g with g := clampInt g.g (-10 * s.maxCut) (10 * s.maxBoost) }

/-- The house index of the start of the sub-block that the boundary at `h` closes; the wrap of H closes a short
one (R8, R131). -/
def closedStart (h : HouseIndex) : HouseIndex := if h = 0 then BitVec.ofNat 48 (2 ^ 48 - 256) else h - 4800

/-! ## Ramps (R134, R135) -/

/-- The value of a ramp at its step (R134). -/
def Ramp.value (r : Ramp) : Int := r.start + roundDiv ((r.target - r.start) * r.step) 480

/-- A ramp one step further. -/
def Ramp.advance (r : Ramp) : Ramp := { r with step := min (r.step + 1) 480 }

/-- A head index is at or past a tag (R131). -/
def atOrPast (head tag : HouseIndex) : Bool := decide (0 ≤ (head - tag).toInt)

/-- The entries that a member passes at a house sample: those at its pointer and on whose tags its head index
has reached (R133). -/
def passedEntries (schedule : List GainEntry) (pointer : Nat) (head : HouseIndex) : List GainEntry :=
  (schedule.drop pointer).takeWhile fun e => atOrPast head e.tag

/-- A member's pointer, ramp and applied gain in one house sample; a frozen member passes nothing (R133,
R134). -/
def StageMember.gainSample (m : StageMember) (schedule : List GainEntry) (head : HouseIndex) (frozen : Bool) :
    StageMember :=
  let passed := if frozen then [] else passedEntries schedule m.pointer head
  match passed.getLast? with
  | some e =>
    let r : Ramp := { start := m.applied, target := e.gain, step := 1 }
    { m with pointer := m.pointer + passed.length, ramp := some r, applied := r.value }
  | none =>
    match m.ramp with
    | none => m
    | some r => { m with ramp := some r.advance, applied := r.advance.value }

/-- APPLIED_GAIN_RAMP_END: a ramp at step 480 ends at its target (R134). -/
def StageMember.rampEnd (m : StageMember) : StageMember :=
  match m.ramp with
  | some r => if 480 ≤ r.step then { m with ramp := none, applied := r.target } else m
  | none => m

/-- The applied trim's ramp in one house sample (R135). -/
def Stage.trimSample (g : Stage) : Stage :=
  match g.trimRamp with
  | none => g
  | some r => { g with trimRamp := some r.advance, trim := r.advance.value }

/-- TRIM_RAMP_END (R135). -/
def Stage.trimEnd (g : Stage) : Stage :=
  match g.trimRamp with
  | some r => if 480 ≤ r.step then { g with trimRamp := none, trim := r.target } else g
  | none => g

/-- A trim stored in ACTIVE starts a ramp from the trim in force (R135). -/
def Stage.startTrim (g : Stage) (target : Int) : Stage :=
  { g with trimRamp := some { start := g.trim, target := target, step := 0 } }

/-! ## Output arithmetic (R136 to R138) -/

/-- The total gain of a member in hundredths of a dB (R136). -/
def totalGain (applied trim : Int) : Int := clampInt (applied + trim) (-4000) 2000

/-- The product of a delivered sample and a gain factor before saturation (R137). -/
def gained (x : Sample) (factor : Int) : Int := roundDiv (x.toInt * factor) 1048576

/-- The product saturates (R137). -/
def overflows (v : Int) : Bool := decide (v < -8388608) || decide (8388607 < v)

/-- The output sample of a saturated product under a fade factor in 240ths and a stop fade in 480ths (R53,
R138). -/
def faded (g : Sample) (fade stop : Int) : Sample := scale g (fade * stop) 115200

/-- The stop fade's factor in 480ths after so many house samples of it (R53). -/
def stopFactor (step : Nat) : Int := 480 - step

/-- One member of the output stage in one house sample: gain, saturation, fades and clip count (R133 to
R138). -/
def Stage.memberSample (g : Stage) (m : Ix8) (schedule : List GainEntry) (head : HouseIndex)
    (delivered : Option Sample) (fade : Int) : Stage :=
  let k := (g.members.get m).gainSample schedule head delivered.isNone
  match delivered with
  | none => { g with members := g.members.set m { k with out := 0 } }
  | some x =>
    let v := gained x (gainFactor (totalGain k.applied g.trim))
    { g with
      members := g.members.set m { k with out := faded (saturate v) fade (stopFactor g.stopStep) }
      clips := if overflows v then addSat g.clips 1 else g.clips }

/-- The schedule and the pointers once every listed member has passed the entries at the head (R132). -/
def Programme.prune (x : Programme) : Programme :=
  let c := (x.record.positions.map fun m => (x.stage.members.get m).pointer).foldl min x.gain.schedule.length
  { x with
    gain := { x.gain with schedule := x.gain.schedule.drop c }
    stage := { x.stage with
      members := x.stage.members.map fun k => { k with pointer := k.pointer - c } } }

/-- The output stage at the start of a house sample of a programme: the trim ramp, and the step of the stop fade
while STOPPING (R53, R135). -/
def Stage.begin (g : Stage) (stopping : Bool) : Stage :=
  let a := g.trimSample
  if stopping then { a with stopStep := min (a.stopStep + 1) 480 } else a

/-- The output stage at RUN (R51, R132, R134, R135). -/
def Stage.run (g : Stage) (trim : Int) : Stage := { Stage.reset with trim := trim, clips := g.clips }

/-- The output stage at the end of the stop fade (R54, R143). -/
def Stage.teardown (g : Stage) : Stage :=
  { g with members := Oct.fill .reset, trimRamp := none, stopStep := 0 }

/-! ## Slots and lanes (R139, R142) -/

/-- The value and validity flag that a map entry gives its slot in this house sample (R139, R142). -/
def Device.slotOf (d : Device) : MapEntry → Slot
  | .silence => Slot.silent
  | .member n m =>
    { sample := if d.sounding n then ((d.prog n).stage.members.get m).out else 0, valid := true }
  | .test n => { sample := if (d.prog n).gen.on then (d.prog n).gen.output else 0, valid := true }

/-- The 32 slot values of this house sample (R139). -/
def Device.slotValues (d : Device) : LaneFrames :=
  Oct.ofFn fun q => Quad.ofFn fun s => d.slotOf ((d.map.get q).get s)

/-- The slot values of this house sample enter the eight-sample pipeline, and those of eight house samples
before are emitted (R142). -/
def Device.emit (d : Device) : Device :=
  { d with formed := d.formed.tail ++ [d.slotValues], emitted := d.formed.head? }

end Sys2Proof.Machine
end

