-- ==== Sys2Proof/Machine/Operands.lean ====
section
/-!
DEFINITION. The bytes of frames (Chapter 11): multi-byte fields, the CRC, the request types with their body
lengths, and the reading and writing of request bodies (Tables 11-1, 11-5, 11-6, 11-7a and 11-11).
-/

namespace Sys2Proof.Machine

/-! ## Multi-byte fields, most significant byte first (R193) -/

/-- Two bytes as one field. -/
def be16 (a b : Byte) : BitVec 16 := a ++ b

/-- Three bytes as one field. -/
def be24 (a b c : Byte) : BitVec 24 := a ++ b ++ c

/-- Four bytes as one field. -/
def be32 (a b c d : Byte) : BitVec 32 := a ++ b ++ c ++ d

/-- The bytes of a two-byte field. -/
def put16 (x : BitVec 16) : List Byte := [x.extractLsb' 8 8, x.extractLsb' 0 8]

/-- The bytes of a three-byte field. -/
def put24 (x : BitVec 24) : List Byte := [x.extractLsb' 16 8, x.extractLsb' 8 8, x.extractLsb' 0 8]

/-- The bytes of a four-byte field. -/
def put32 (x : BitVec 32) : List Byte :=
  [x.extractLsb' 24 8, x.extractLsb' 16 8, x.extractLsb' 8 8, x.extractLsb' 0 8]

/-- The bytes of a six-byte field. -/
def put48 (x : BitVec 48) : List Byte :=
  [x.extractLsb' 40 8, x.extractLsb' 32 8, x.extractLsb' 24 8, x.extractLsb' 16 8, x.extractLsb' 8 8,
    x.extractLsb' 0 8]

/-- A number as one byte. -/
def byteOf (n : Nat) : Byte := BitVec.ofNat 8 n

/-- A number as a two-byte field. -/
def nat16 (n : Nat) : List Byte := put16 (BitVec.ofNat 16 n)

/-- A signed number as a two-byte field. -/
def int16 (v : Int) : List Byte := put16 (BitVec.ofInt 16 v)

/-- A signed number as a four-byte field. -/
def int32 (v : Int) : List Byte := put32 (BitVec.ofInt 32 v)

/-- A truth value as a byte. -/
def boolByte (b : Bool) : Byte := if b then 1 else 0

/-! ## The CRC (R177) -/

/-- One bit taken into the CRC register (R177). -/
def crcBit (r : BitVec 16) (b : Bool) : BitVec 16 :=
  if b ^^ r.getLsbD 15 then (r <<< 1) ^^^ 0x1021 else r <<< 1

/-- One byte taken into the CRC register, most significant bit first (R177). -/
def crcByte (r : BitVec 16) (x : Byte) : BitVec 16 :=
  [7, 6, 5, 4, 3, 2, 1, 0].foldl (fun r i => crcBit r (x.getLsbD i)) r

/-- The CRC of some bytes (R177). -/
def crcOf (l : List Byte) : BitVec 16 := l.foldl crcByte 0xFFFF

/-- The CRC of the frame of a body: over the length byte and the body (R177). -/
def frameCrc (body : List Byte) : BitVec 16 := crcOf (byteOf body.length :: body)

/-- The frame of a body (Table 11-1). -/
def frameOf (body : List Byte) : List Byte := [0xA5, byteOf body.length] ++ body ++ put16 (frameCrc body)

/-! ## Request types (Table 11-5) -/

/-- The request types in the order of their codes. -/
def allRequestTypes : List ReqType :=
  [.ident, .start, .restart, .status, .port, .portq, .define, .setup, .run, .stop, .delete, .progq, .switch,
    .lreset, .route, .routeq, .poolq, .amask, .aquery, .aclear, .counts, .meter, .mstop, .tgen, .tcheck,
    .tcheckq]

/-- The code of a request type (Table 11-5). -/
def typeCode : ReqType → Byte
  | .ident => 0x01
  | .start => 0x02
  | .restart => 0x03
  | .status => 0x04
  | .port => 0x10
  | .portq => 0x11
  | .define => 0x20
  | .setup => 0x21
  | .run => 0x22
  | .stop => 0x23
  | .delete => 0x24
  | .progq => 0x25
  | .switch => 0x26
  | .lreset => 0x27
  | .route => 0x30
  | .routeq => 0x31
  | .poolq => 0x40
  | .amask => 0x50
  | .aquery => 0x51
  | .aclear => 0x52
  | .counts => 0x53
  | .meter => 0x60
  | .mstop => 0x61
  | .tgen => 0x70
  | .tcheck => 0x71
  | .tcheckq => 0x72

/-- The request type of a code, or none (Table 11-5). -/
def typeOf (code : Byte) : Option ReqType := allRequestTypes.find? fun t => typeCode t == code

/-- The type of a request. -/
def requestType : Request → ReqType
  | .ident => .ident
  | .start .. => .start
  | .restart => .restart
  | .status => .status
  | .port .. => .port
  | .portq .. => .portq
  | .define .. => .define
  | .setup .. => .setup
  | .run .. => .run
  | .stop .. => .stop
  | .delete .. => .delete
  | .progq .. => .progq
  | .switch .. => .switch
  | .lreset .. => .lreset
  | .route .. => .route
  | .routeq => .routeq
  | .poolq => .poolq
  | .amask .. => .amask
  | .aquery .. => .aquery
  | .aclear .. => .aclear
  | .counts => .counts
  | .meter .. => .meter
  | .mstop .. => .mstop
  | .tgen .. => .tgen
  | .tcheck .. => .tcheck
  | .tcheckq .. => .tcheckq

/-! ## Reading the fields (Tables 11-6, 11-7a, 11-11) -/

/-- A byte of a list, 0 past its end. -/
def byteAt (l : List Byte) (i : Nat) : Byte := l.getD i 0

/-- The settings block of 35 bytes (Table 11-7a). -/
def readBlock (b : List Byte) : SettingsBlock :=
  { delayTarget := be32 (byteAt b 0) (byteAt b 1) (byteAt b 2) (byteAt b 3),
    loudnessMode := byteAt b 4,
    loudnessTarget := be16 (byteAt b 5) (byteAt b 6),
    maxBoost := be16 (byteAt b 7) (byteAt b 8),
    maxCut := be16 (byteAt b 9) (byteAt b 10),
    slew := be16 (byteAt b 11) (byteAt b 12),
    trim := be16 (byteAt b 13) (byteAt b 14),
    resetOnChangeover := byteAt b 15,
    changeoverMode := byteAt b 16,
    gapLevel := be16 (byteAt b 17) (byteAt b 18),
    holdLimit := be16 (byteAt b 19) (byteAt b 20),
    returnTime := be16 (byteAt b 21) (byteAt b 22),
    silenceLevel := be16 (byteAt b 23) (byteAt b 24),
    silenceSetTime := be16 (byteAt b 25) (byteAt b 26),
    silenceClearTime := be16 (byteAt b 27) (byteAt b 28),
    loudnessWindow := be16 (byteAt b 29) (byteAt b 30),
    loudnessTime := be16 (byteAt b 31) (byteAt b 32),
    overLevel := be16 (byteAt b 33) (byteAt b 34) }

/-- The bytes of a settings block (Table 11-7a). -/
def writeBlock (x : SettingsBlock) : List Byte :=
  put32 x.delayTarget ++ [x.loudnessMode] ++ put16 x.loudnessTarget ++ put16 x.maxBoost ++
    put16 x.maxCut ++ put16 x.slew ++ put16 x.trim ++ [x.resetOnChangeover] ++
    [x.changeoverMode] ++ put16 x.gapLevel ++ put16 x.holdLimit ++ put16 x.returnTime ++
    put16 x.silenceLevel ++ put16 x.silenceSetTime ++ put16 x.silenceClearTime ++
    put16 x.loudnessWindow ++ put16 x.loudnessTime ++ put16 x.overLevel

/-- The members of a DEFINE request, three bytes each (Table 11-6); none where the bytes do not come out. -/
def readMembers : Nat → List Byte → Option (List MemberField)
  | 0, [] => some []
  | c + 1, a :: b :: d :: rest => (readMembers c rest).map fun l => ⟨a, b, d⟩ :: l
  | 0, _ :: _ => none
  | _ + 1, [] => none
  | _ + 1, [_] => none
  | _ + 1, [_, _] => none

/-- The bytes of the members of a DEFINE request (Table 11-6). -/
def writeMembers : List MemberField → List Byte
  | [] => []
  | m :: rest => m.role :: m.primary :: m.backup :: writeMembers rest

/-- The request of a type without fields. -/
def fields0 (r : Request) : List Byte → Option Request
  | [] => some r
  | _ :: _ => none

/-- The request of a type with one byte of fields. -/
def fields1 (f : Byte → Request) : List Byte → Option Request
  | [a] => some (f a)
  | _ => none

/-- The request of a type with two bytes of fields. -/
def fields2 (f : Byte → Byte → Request) : List Byte → Option Request
  | [a, b] => some (f a b)
  | _ => none

/-- The request of a type with three bytes of fields. -/
def fields3 (f : Byte → Byte → Byte → Request) : List Byte → Option Request
  | [a, b, c] => some (f a b c)
  | _ => none

/-- The request of a type with four bytes of fields. -/
def fields4 (f : Byte → Byte → Byte → Byte → Request) : List Byte → Option Request
  | [a, b, c, d] => some (f a b c d)
  | _ => none

/-- The request of a type with five bytes of fields. -/
def fields5 (f : Byte → Byte → Byte → Byte → Byte → Request) : List Byte → Option Request
  | [a, b, c, d, e] => some (f a b c d e)
  | _ => none

/-- The fields of a DEFINE: programme, mode, member count, and as many members (Table 11-6). -/
def fieldsDefine : List Byte → Option Request
  | a :: b :: c :: rest => (readMembers c.toNat rest).map fun ms => .define a b ms
  | _ => none

/-- The fields of a SETUP: programme, presence flags and the settings block (Table 11-7a). -/
def fieldsSetup : List Byte → Option Request
  | a :: b :: c :: d :: rest => if rest.length = 35 then some (.setup a (be24 b c d) (readBlock rest)) else none
  | _ => none

/-- The fields of a request of a type, or none where the length is wrong (R181, Table 11-5). -/
def readFields (t : ReqType) (l : List Byte) : Option Request :=
  match t with
  | .ident => fields0 .ident l
  | .start => fields2 .start l
  | .restart => fields0 .restart l
  | .status => fields0 .status l
  | .port => fields4 .port l
  | .portq => fields1 .portq l
  | .define => fieldsDefine l
  | .setup => fieldsSetup l
  | .run => fields1 .run l
  | .stop => fields1 .stop l
  | .delete => fields1 .delete l
  | .progq => fields1 .progq l
  | .switch => fields2 .switch l
  | .lreset => fields1 .lreset l
  | .route => fields5 .route l
  | .routeq => fields0 .routeq l
  | .poolq => fields0 .poolq l
  | .amask => fields3 .amask l
  | .aquery => fields2 .aquery l
  | .aclear => fields2 .aclear l
  | .counts => fields0 .counts l
  | .meter => fields3 .meter l
  | .mstop => fields1 .mstop l
  | .tgen => fields4 (fun a b c d => .tgen a b (be16 c d)) l
  | .tcheck => fields4 .tcheck l
  | .tcheckq => fields1 .tcheckq l

/-- The bytes of a request's fields (Tables 11-6, 11-7a, 11-11). -/
def writeFields : Request → List Byte
  | .ident => []
  | .start a b => [a, b]
  | .restart => []
  | .status => []
  | .port a b c d => [a, b, c, d]
  | .portq a => [a]
  | .define a b ms => a :: b :: byteOf ms.length :: writeMembers ms
  | .setup a f x => a :: (put24 f ++ writeBlock x)
  | .run a => [a]
  | .stop a => [a]
  | .delete a => [a]
  | .progq a => [a]
  | .switch a b => [a, b]
  | .lreset a => [a]
  | .route a b c d e => [a, b, c, d, e]
  | .routeq => []
  | .poolq => []
  | .amask a b c => [a, b, c]
  | .aquery a b => [a, b]
  | .aclear a b => [a, b]
  | .counts => []
  | .meter a b c => [a, b, c]
  | .mstop a => [a]
  | .tgen a b v => a :: b :: put16 v
  | .tcheck a b c d => [a, b, c, d]
  | .tcheckq a => [a]

/-- The body of a request's frame (R193). -/
def requestBody (tag : Byte) (r : Request) : List Byte := typeCode (requestType r) :: tag :: writeFields r

/-- The type byte of a body; a body holds at least two bytes (Table 11-1). -/
def bodyType (body : List Byte) : Byte := byteAt body 0

/-- The tag of a body. -/
def bodyTag (body : List Byte) : Byte := byteAt body 1

/-- The request that a body carries, or the reason of its refusal: the first two checks of R181. -/
def readBody (body : List Byte) : Except Reason Request :=
  match typeOf (bodyType body) with
  | none => .error .unknownType
  | some t =>
    match readFields t (body.drop 2) with
    | none => .error .badLength
    | some r => .ok r

end Sys2Proof.Machine
end

