-- ==== Sys2Proof/Machine/Replies.lean ====
section
/-!
DEFINITION. The bytes that the part sends (Tables 11-2 to 11-4, 11-9, 11-10 and 11-12 to 11-14): replies, ALARM
notices and METER reports.
-/

namespace Sys2Proof.Machine

/-! ## Codes (Tables 11-4, 11-9 and 11-14) -/

/-- The byte of an absent value (Table 11-12). -/
def absentByte : Byte := 0xFF

/-- Reason codes (Table 11-4). -/
def reasonCode : Reason → Byte
  | .unknownType => 1
  | .badLength => 2
  | .badValue => 3
  | .notStarted => 4
  | .wrongState => 5
  | .sourceInUse => 6
  | .noSuchProg => 7
  | .listFull => 8
  | .noBackup => 9
  | .busy => 10

/-- The status and reason bytes (Table 11-3). -/
def statusBytes : Status → List Byte
  | .ok => [0, 0]
  | .clamped => [1, 0]
  | .refused r => [2, reasonCode r]

/-- Part states. -/
def partCode : PartState → Byte
  | .config => 0
  | .run => 1

/-- Reference modes. -/
def refModeCode : Option RefMode → Byte
  | some .word => 0
  | some .internal => 1
  | none => absentByte

/-- Timebase states. -/
def timeCode : TimeState → Byte
  | .internal => 0
  | .external => 1
  | .holding => 2

/-- Lane sources with the loop lane. -/
def sourceBytes : LaneSource → List Byte
  | .pins => [0, absentByte]
  | .loop q => [1, byteOf q.val]

/-- Lane states. -/
def laneCode : LaneState → Byte
  | .dark => 0
  | .framing => 1
  | .framed => 2

/-- Converter states. -/
def convCode : ConvState → Byte
  | .off => 0
  | .seek => 1
  | .measure => 2
  | .settle => 3
  | .locked => 4
  | .holdover => 5

/-- Programme states. -/
def progCode : ProgState → Byte
  | .free => 0
  | .standby => 1
  | .active => 2
  | .stopping => 3

/-- Roles. -/
def roleCode : Role → Byte
  | .front => 0
  | .surround => 1
  | .low => 2

/-- A source in one byte (R193). -/
def sourceCode (s : Source) : Byte := byteOf (s.port.val * 4 + s.slot.val)

/-- A backup source in one byte (R193). -/
def backupCode : Option Source → Byte
  | some s => sourceCode s
  | none => absentByte

/-- Loudness modes (Table 11-7a). -/
def loudCode : LoudMode → Byte
  | .off => 0
  | .measure => 1
  | .correct => 2

/-- Changeover modes (Table 11-7a). -/
def changeCode : ChangeMode → Byte
  | .manual => 0
  | .auto => 1
  | .autoReturn => 2

/-- Sides. -/
def selectionCode : Selection → Byte
  | .primary => 0
  | .backup => 1

/-- Origins. -/
def originCode : Origin → Byte
  | .host => 0
  | .auto => 1

/-- Context states. -/
def ctxCode : CtxState → Byte
  | .idle => 0
  | .pending => 1
  | .fading => 2

/-- Change states of a line. -/
def changeStateCode : ChangeState → Byte
  | .steady => 0
  | .slewUp => 1
  | .slewDown => 2
  | .wait => 3

/-- Fade contexts. -/
def fadeCode : FadeCtx → Byte
  | .none => 0
  | .fadeOut => 1
  | .gap => 2
  | .fadeIn => 3

/-- A pending recalculation. -/
def pendingCode : Option PendingRecalc → Byte
  | none => 0
  | some p =>
    (match p.mode with
      | .deadband => 1
      | .exact => 2) + (if p.host then 0x80 else 0)

/-- A map entry as its kind, programme and member (Table 11-12). -/
def entryBytes : MapEntry → List Byte
  | .silence => [0, absentByte, absentByte]
  | .member n m => [1, byteOf n.val, byteOf m.val]
  | .test n => [2, byteOf n.val, absentByte]

/-- A subscription with its remaining count. -/
def subscriptionBytes : Subscription → List Byte
  | .none => [0, 0]
  | .continuous => [1, 0]
  | .count n => [2, byteOf n]

/-- Checker states. -/
def checkCode : CheckState → Byte
  | .idle => 0
  | .hunt => 1
  | .sync => 2

/-- A watched slot. -/
def watchedBytes : Option (Ix8 × Ix4) → List Byte
  | none => [absentByte, absentByte]
  | some w => [byteOf w.1.val, byteOf w.2.val]

/-- The class byte of a kind (Table 11-10). -/
def classCode (k : Kind) : Byte := boolByte k.isEvent

/-! ## Answers -/

/-- What the executor forms for a request: the status, and the bytes after the header, segment by segment
(R182). -/
structure Answer where
  status : Status
  segments : List (List Byte)
deriving DecidableEq, Repr

/-- An OK answer of one segment. -/
def Answer.ok (fields : List Byte) : Answer := { status := .ok, segments := [fields] }

/-- An answer of one segment, CLAMPED where a parameter was clamped (R3). -/
def Answer.clampedIf (clamped : Bool) (fields : List Byte) : Answer :=
  { status := if clamped then .clamped else .ok, segments := [fields] }

/-- A refusal: the header alone (R182). -/
def Answer.refused (r : Reason) : Answer := { status := .refused r, segments := [[]] }

/-- The reply type of a request type (R182). -/
def replyType (t : Byte) : Byte := if t.toNat < 0x80 then t + 0x80 else 0xFF

/-- The reply of an executed request (R182). -/
def Answer.reply (a : Answer) (t tag : Byte) (isRestart : Bool) : Reply :=
  { type := replyType t, tag := tag, status := a.status, segments := a.segments, executed := true,
    isRestart := isRestart }

/-- A BUSY reply (R180, R182). -/
def busyReply (t tag : Byte) : Reply :=
  { type := replyType t, tag := tag, status := .refused .busy, segments := [[]], executed := false,
    isRestart := false }

/-- The segment byte (Table 11-3). -/
def segmentByte (i count : Nat) : Byte := byteOf i + (if i + 1 = count then 0x80 else 0)

/-- The bodies of a reply, segment by segment (R182, Table 11-3). -/
def Reply.bodies (r : Reply) : List (List Byte) :=
  r.segments.zipIdx.map fun s =>
    [r.type, r.tag] ++ statusBytes r.status ++ [segmentByte s.2 r.segments.length] ++ s.1

/-! ## Reply fields (Tables 11-2 and 11-12) -/

/-- The fixed identification (Table 11-2). -/
def identFields : List Byte := [0x44] ++ nat16 0x3208 ++ [0x01, 8, 8] ++ nat16 4096

/-- The START reply. -/
def Device.startFields (d : Device) : List Byte :=
  nat16 d.pool.size ++ [refModeCode d.time.mode, timeCode d.time.state]

/-- The RESTART reply. -/
def Device.restartFields (d : Device) : List Byte := nat16 d.pool.size ++ [refModeCode d.time.mode]

/-- The STATUS reply (R191). -/
def Device.statusFields (d : Device) : List Byte :=
  [partCode d.link.part, refModeCode d.time.mode, timeCode d.time.state] ++ put48 d.time.h ++
    put32 d.time.seconds ++ nat16 d.pool.size ++ nat16 d.pool.free.length ++
    eight.map (fun n => progCode (d.prog n).record.state) ++ [boolByte d.alarms.pin]

/-- The PORT reply (R15). -/
def Device.portFields (d : Device) (p : Ix8) : List Byte :=
  let x := d.port p
  [byteOf p.val, boolByte x.lane.enabled] ++ sourceBytes x.lane.source ++ [convCode x.conv.state]

/-- One port's record in the PORTQ reply (R18). -/
def Device.portRecord (d : Device) (p : Ix8) : List Byte :=
  let x := d.port p
  [byteOf p.val, boolByte x.lane.enabled] ++ sourceBytes x.lane.source ++
    [laneCode x.lane.state, convCode x.conv.state] ++ int32 x.conv.sEst ++ nat16 x.conv.lc ++
    [byteOf x.conv.fifo.length] ++ put16 x.lane.invalid ++ x.levels.toList.flatMap int16

/-- The PORTQ reply (R18). -/
def Device.portqFields (d : Device) (ports : List Ix8) : List Byte :=
  byteOf ports.length :: ports.flatMap d.portRecord

/-- The DEFINE reply (R45). -/
def Device.defineFields (d : Device) (n : Ix8) : List Byte :=
  [byteOf n.val, progCode (d.prog n).record.state, byteOf (d.prog n).record.members.length]

/-- The settings block of settings (Table 11-7a). -/
def settingsBytes (s : Settings) : List Byte :=
  int32 s.delayTarget ++ [loudCode s.loudnessMode] ++ int16 s.loudnessTarget ++ int16 s.maxBoost ++
    int16 s.maxCut ++ int16 s.slew ++ int16 s.trim ++ [boolByte s.resetOnChangeover] ++
    [changeCode s.changeoverMode] ++ int16 s.gapLevel ++ int16 s.holdLimit ++ int16 s.returnTime ++
    int16 s.silenceLevel ++ int16 s.silenceSetTime ++ int16 s.silenceClearTime ++
    int16 s.loudnessWindow ++ int16 s.loudnessTime ++ int16 s.overLevel

/-- The SETUP reply (R48). -/
def Device.setupFields (d : Device) (n : Ix8) : List Byte :=
  byteOf n.val :: settingsBytes (d.prog n).record.settings

/-- The RUN, STOP and DELETE replies. -/
def Device.stateFields (d : Device) (n : Ix8) : List Byte := [byteOf n.val, progCode (d.prog n).record.state]

/-- One member's record in the PROGQ reply (R56, R108). -/
def Device.memberRecord (d : Device) (n m : Ix8) (x : Member) : List Byte :=
  let l := d.line n m
  [roleCode x.role, sourceCode x.primary, backupCode x.backup] ++ int32 l.d ++ int32 l.dReq ++
    nat16 l.inUse.length ++ nat16 l.spare.length ++
    [changeStateCode l.change, byteOf l.remaining, boolByte l.underDelay + 2 * boolByte l.clamped]

/-- One programme's segment of the PROGQ reply (R56, R108). -/
def Device.progqFields (d : Device) (n : Ix8) : List Byte :=
  let x := d.prog n
  [byteOf n.val, progCode x.record.state] ++ settingsBytes x.record.settings ++
    [byteOf x.record.members.length] ++ x.record.listed.flatMap (fun m => d.memberRecord n m.1 m.2) ++
    [fadeCode x.delay.fade] ++ int32 x.delay.fadeStep ++ int32 x.delay.gapLength ++ int32 x.delay.tLines ++
    [pendingCode x.delay.pending, boolByte (d.alarms.get (.delayShort n)).active,
      selectionCode x.ctx.selection, originCode x.ctx.selectedBy, ctxCode x.ctx.state] ++
    int16 x.gain.g ++ int32 x.meter.belowGate

/-- The SWITCH reply (R60). -/
def Device.switchFields (d : Device) (n : Ix8) : List Byte :=
  let c := (d.prog n).ctx
  [byteOf n.val, selectionCode c.selection, originCode c.selectedBy, ctxCode c.state] ++
    (match c.target with
      | some t => [selectionCode t.1, originCode t.2]
      | none => [absentByte, absentByte]) ++
    [match c.next with
      | some t => selectionCode t
      | none => absentByte]

/-- The ROUTE reply (R140). -/
def Device.routeFields (d : Device) (q : Ix8) (s : Ix4) : List Byte :=
  [byteOf q.val, byteOf s.val] ++ entryBytes ((d.map.get q).get s)

/-- The ROUTEQ reply (R141). -/
def Device.routeqFields (d : Device) : List Byte :=
  d.map.toList.flatMap fun l => l.toList.flatMap entryBytes

/-- The POOLQ reply (R88). -/
def Device.poolqFields (d : Device) : List Byte :=
  nat16 d.pool.size ++ nat16 d.pool.free.length ++ eight.flatMap (fun n => nat16 (d.heldBy n)) ++
    [byteOf d.pool.queue.length] ++ d.pool.queue.flatMap fun e => byteOf e.prog.val :: nat16 e.count

/-- The AMASK reply (R155). -/
def Device.amaskFields (d : Device) : List Byte :=
  allKinds.map (fun k => boolByte (d.alarms.masks.get k).notify + 2 * boolByte (d.alarms.masks.get k).summary) ++
    [boolByte d.alarms.pin]

/-- One instance's record in the AQUERY reply (Table 11-13). -/
def alarmRecordBytes (u : AlarmUnit) (a : Alarm) : List Byte :=
  let r := u.get a
  [byteOf a.kind.code, byteOf a.number, classCode a.kind, boolByte r.active, boolByte r.latch] ++
    put16 r.count ++ nat16 r.setTimer ++ nat16 r.clearTimer ++ put32 r.time ++ [boolByte r.noticed]

/-- Records cut into segments of 15, for at most `fuel` segments. -/
def segmentsOf15 {α : Type} : Nat → List α → List (List α)
  | 0, _ => []
  | fuel + 1, l => if l.length ≤ 15 then [l] else l.take 15 :: segmentsOf15 fuel (l.drop 15)

/-- The segments of the AQUERY reply: 15 records each, the pin state and the number of instances before the first
(R158, R182). -/
def Device.aquerySegments (d : Device) (selected : List Alarm) : List (List Byte) :=
  match (segmentsOf15 5 selected).map fun l => l.flatMap (alarmRecordBytes d.alarms) with
  | [] => [[boolByte d.alarms.pin, byteOf selected.length]]
  | first :: rest => ([boolByte d.alarms.pin, byteOf selected.length] ++ first) :: rest

/-- The COUNTS reply: the 94 counters of Table 9-4. -/
def Device.countsFields (d : Device) : List Byte :=
  allAlarms.flatMap (fun a => put16 (d.alarms.get a).count) ++
    eight.flatMap (fun p => put16 (d.port p).lane.invalid) ++
    eight.flatMap (fun n => put16 (d.prog n).stage.clips) ++
    two.flatMap (fun c => put16 (d.checkers.get c).errors) ++ put16 d.link.errors

/-- The METER and MSTOP replies (R185). -/
def Device.subscriptionFields (d : Device) : List Byte :=
  d.link.subscriptions.toList.flatMap subscriptionBytes

/-- The TGEN reply (R168). -/
def Device.tgenFields (d : Device) (n : Ix8) : List Byte :=
  let g := (d.prog n).gen
  [byteOf n.val, boolByte g.on] ++ int16 g.level ++ [byteOf g.epochs.length]

/-- The TCHECK reply (R173). -/
def Device.tcheckFields (d : Device) (i : Ix2) : List Byte :=
  let c := d.checkers.get i
  [byteOf i.val, checkCode c.state] ++ watchedBytes c.watched

/-- One checker's record in the TCHECKQ reply (R175). A checker in HUNT reports the programme that feeds its slot, as
one in SYNC does: the model's choice (log 44). -/
def Device.checkerRecord (d : Device) (i : Ix2) : List Byte :=
  let c := d.checkers.get i
  [byteOf i.val, checkCode c.state] ++ watchedBytes c.watched ++
    [match d.feederOf c with
      | some n => byteOf n.val
      | none => absentByte] ++ put16 c.errors ++ [byteOf c.windowErrors] ++
    (match c.delay with
      | some x => 1 :: put48 x
      | none => 0 :: put48 0)

/-- The TCHECKQ reply (R175). -/
def Device.tcheckqFields (d : Device) (checkers : List Ix2) : List Byte :=
  byteOf checkers.length :: checkers.flatMap d.checkerRecord

/-! ## Notices and reports (Tables 11-9 and 11-10) -/

/-- The body of an ALARM notice (Table 11-10). -/
def Notice.body (q : Notice) : List Byte :=
  [0x7E, 0, byteOf q.alarm.kind.code, byteOf q.alarm.number, classCode q.alarm.kind, boolByte q.active] ++
    put16 q.count ++ [byteOf q.changes] ++ put32 q.time

/-- A loudness figure, 0 when absent (Table 11-9). -/
def figureBytes (v : Option Int) : List Byte := int16 (v.getD 0)

/-- The body of a METER report (Table 11-9). -/
def Report.body (r : Report) : List Byte :=
  [0x7F, 0, byteOf r.prog.val] ++ put48 r.h ++
    [boolByte r.momentary.isSome + 2 * boolByte r.shortTerm.isSome + 4 * boolByte r.integrated.isSome] ++
    figureBytes r.momentary ++ figureBytes r.shortTerm ++ figureBytes r.integrated ++ int16 r.g ++
    [selectionCode r.selection, originCode r.selectedBy, ctxCode r.ctx,
      boolByte r.delayShort + 2 * boolByte r.changing + 4 * boolByte r.underDelay,
      boolByte r.overrun + 2 * boolByte r.last, byteOf r.peaks.length] ++ r.peaks.flatMap int16

end Sys2Proof.Machine
end

