-- ==== Sys2Proof/Machine/Requests.lean ====
section
/-!
DEFINITION. What each host request does (the fourth check of R181 and the rule of each request). Every `request…`
answers the part after the request and the answer that its reply is formed from; a refusal leaves the part as it
was (R3).
-/

namespace Sys2Proof.Machine

/-- A flag byte of a request: 0 or 1, and nothing else (R155, R168, R173; for the mode of a DEFINE see log 17). -/
def flag? (b : Byte) : Option Bool := if b = 0 then some false else if b = 1 then some true else none

/-- What the enable byte of a PORT asks for: R15 refuses none, and a byte that is neither 0 nor 1 has a free meaning
(Table 11-11, log 17). -/
def portFlag (b : Byte) : Bool := (flag? b).getD (Config.portEnable b)

/-- A source of one byte, 0 to 31 (R193). -/
def source? (b : Byte) : Option Source :=
  (ix8? (b.toNat / 4)).bind fun p => (ix4? (b.toNat % 4)).map fun s => { port := p, slot := s }

/-! ## IDENT, START, RESTART, STATUS (R188 to R191) -/

/-- IDENT (R188). -/
def Device.requestIdent (d : Device) : Device × Answer := (d, .ok identFields)

/-- The reference mode of a code (R189). -/
def refMode? (b : Byte) : Option RefMode := if b = 0 then some .word else if b = 1 then some .internal else none

/-- The timebase takes a reference mode with a fresh presence window (R4). -/
def Timebase.choose (t : Timebase) (m : RefMode) : Timebase :=
  { t with
    mode := some m
    state := match m with
      | .word => .holding
      | .internal => .internal
    edges := 0, oscillatorPaced := false }

/-- REF_LOSS becomes active where the timebase stands in HOLDING (R4, R163). -/
def Device.raiseRefLoss (d : Device) : Device := if d.time.state = .holding then d.activate .refLoss else d

/-- START (R4, R74, R189). -/
def Device.requestStart (d : Device) (poolCode refMode : Byte) : Device × Answer :=
  match poolSizeOf poolCode, refMode? refMode with
  | some size, some m =>
    let e : Device :=
      { d with
        pool := Pool.formed size, time := d.time.choose m, link := { d.link with part := .run } }
    let f := e.raiseRefLoss
    (f, .ok f.startFields)
  | _, _ => (d, .refused .badValue)

/-- RESTART: the reply is formed, and the restart awaits its sending (R190). -/
def Device.requestRestart (d : Device) : Device × Answer :=
  (d.modLink fun l => { l with restart := .awaiting }, .ok d.restartFields)

/-- STATUS (R191). -/
def Device.requestStatus (d : Device) : Device × Answer := (d, .ok d.statusFields)

/-! ## PORT, PORTQ (R15 to R18) -/

/-- The lane source of a PORT request (Table 11-11). -/
def laneSource? (source lane : Byte) : Option LaneSource :=
  if source = 0 then some .pins
  else if source = 1 then (ix8? lane.toNat).map LaneSource.loop
  else none

/-- PORT (R15 to R17). -/
def Device.requestPort (d : Device) (p enable source lane : Byte) : Device × Answer :=
  match ix8? p.toNat, laneSource? source lane with
  | some p, some s =>
    let e := d.setPort p (portFlag enable) s
    (e, .ok (e.portFields p))
  | _, _ => (d, .refused .badValue)

/-- PORTQ (R18). -/
def Device.requestPortq (d : Device) (p : Byte) : Device × Answer :=
  if p = 0xFF then (d, .ok (d.portqFields eight))
  else
    match ix8? p.toNat with
    | some p => (d, .ok (d.portqFields [p]))
    | none => (d, .refused .badValue)

/-! ## DEFINE (R45 to R47) -/

/-- The role of a code (Table 11-6). -/
def role? (b : Byte) : Option Role :=
  if b = 0 then some .front else if b = 1 then some .surround else if b = 2 then some .low else none

/-- The backup of a byte: absent, or a source (Table 11-6). -/
def backup? (b : Byte) : Option (Option Source) := if b = 0xFF then some none else (source? b).map some

/-- The member that three valid bytes give (Table 11-6). -/
def member? (f : MemberField) : Option Member :=
  match role? f.role, source? f.primary, backup? f.backup with
  | some r, some p, some b => some { role := r, primary := p, backup := b }
  | _, _, _ => none

/-- The members that the fields of a DEFINE give, or none where one is not valid. -/
def members? : List MemberField → Option (List Member)
  | [] => some []
  | f :: rest => (member? f).bind fun m => (members? rest).map fun l => m :: l

/-- The sources a list of members holds (R46). -/
def sourcesOf (l : List Member) : List Source := l.flatMap fun m => m.primary :: m.backup.toList

/-- No source stands twice in a list. -/
def distinctSources : List Source → Bool
  | [] => true
  | s :: rest => !rest.contains s && distinctSources rest

/-- The sources a DEFINE of a programme is tested against: those held by the records of the other programmes, and
under APPEND by its own present members (R46). -/
def Device.sourcesHeld (d : Device) (n : Ix8) (append : Bool) : List Source :=
  (eight.flatMap fun k => if k = n then [] else sourcesOf (d.prog k).record.members) ++
    if append then sourcesOf (d.prog n).record.members else []

/-- The source exclusivity of the members that a DEFINE gives (R46). -/
def Device.exclusive (d : Device) (n : Ix8) (append : Bool) (given : List Member) : Bool :=
  distinctSources (sourcesOf given) &&
    (sourcesOf given).all fun s => !(d.sourcesHeld n append).contains s

/-- The list that a DEFINE would result in (R45, R47). -/
def newList (append : Bool) (present given : List Member) : List Member := if append then present ++ given else given

/-- The map entry names a member of a programme at a position from `from0` on. -/
def MapEntry.names (e : MapEntry) (n : Ix8) (from0 : Nat) : Bool :=
  match e with
  | .member k m => k == n && decide (from0 ≤ m.val)
  | .silence | .test _ => false

/-- A DEFINE that passes its checks (R47). -/
def Device.define (d : Device) (n : Ix8) (l : List Member) : Device :=
  (d.modRecord n fun r => { r with members := l, state := .standby }).silenceWhere fun e => e.names n l.length

/-- DEFINE with its checks in order (R45, R46). -/
def Device.requestDefine (d : Device) (programme mode : Byte) (fields : List MemberField) : Device × Answer :=
  match ix8? programme.toNat, flag? mode, members? fields with
  | some n, some append, some given =>
    let r := (d.prog n).record
    let l := newList append r.members given
    if r.state = .active ∨ r.state = .stopping then (d, .refused .wrongState)
    else if 8 < l.length then (d, .refused .listFull)
    else if d.exclusive n append given then
      let e := d.define n l
      (e, .ok (e.defineFields n))
    else (d, .refused .sourceInUse)
  | _, _, _ => (d, .refused .badValue)

/-! ## SETUP (R48, R49) -/

/-- The loudness mode of a code (Table 11-7a). -/
def loudMode? (b : Byte) : Option LoudMode :=
  if b = 0 then some .off else if b = 1 then some .measure else if b = 2 then some .correct else none

/-- The changeover mode of a code (Table 11-7a). -/
def changeMode? (b : Byte) : Option ChangeMode :=
  if b = 0 then some .manual else if b = 1 then some .auto else if b = 2 then some .autoReturn else none

/-- Presence flag i of a SETUP request (Table 11-7a). -/
def present (flags : BitVec 24) (i : Nat) : Bool := flags.getLsbD i

/-- A numeric setting: the value given, clamped, where its flag is set, else the value in force (R48). -/
def setNum {w : Nat} (flags : BitVec 24) (i : Nat) (old : Int) (given : BitVec w) (lo hi : Int) : Int :=
  if present flags i then clampInt given.toInt lo hi else old

/-- A present numeric setting was clamped (R48). -/
def numClamped {w : Nat} (flags : BitVec 24) (i : Nat) (given : BitVec w) (lo hi : Int) : Bool :=
  present flags i && (clampInt given.toInt lo hi != given.toInt)

/-- The settings after a SETUP with the given mode codes' meanings (R48, Table 3-4). That the byte of
reset-on-changeover is read unsigned, so that 0x80 to 0xFF are above 1 and taken as on, is the model's choice (log
50). -/
def Settings.take (s : Settings) (f : BitVec 24) (b : SettingsBlock) (loud : LoudMode) (change : ChangeMode) :
    Settings :=
  { delayTarget := setNum f 0 s.delayTarget b.delayTarget 0 480000
    loudnessMode := if present f 1 then loud else s.loudnessMode
    loudnessTarget := setNum f 2 s.loudnessTarget b.loudnessTarget (-400) (-100)
    maxBoost := setNum f 3 s.maxBoost b.maxBoost 0 120
    maxCut := setNum f 4 s.maxCut b.maxCut 0 200
    slew := setNum f 5 s.slew b.slew 1 100
    trim := setNum f 6 s.trim b.trim (-2000) 2000
    resetOnChangeover := if present f 7 then b.resetOnChangeover != 0 else s.resetOnChangeover
    changeoverMode := if present f 8 then change else s.changeoverMode
    gapLevel := setNum f 9 s.gapLevel b.gapLevel (-700) (-300)
    holdLimit := setNum f 10 s.holdLimit b.holdLimit 0 100
    returnTime := setNum f 11 s.returnTime b.returnTime 5 600
    silenceLevel := setNum f 12 s.silenceLevel b.silenceLevel (-800) (-300)
    silenceSetTime := setNum f 13 s.silenceSetTime b.silenceSetTime 1 300
    silenceClearTime := setNum f 14 s.silenceClearTime b.silenceClearTime 1 60
    loudnessWindow := setNum f 15 s.loudnessWindow b.loudnessWindow 5 100
    loudnessTime := setNum f 16 s.loudnessTime b.loudnessTime 1 60
    overLevel := setNum f 17 s.overLevel b.overLevel (-60) 0 }

/-- At least one present field of a SETUP was clamped (R48). A byte of reset-on-changeover from 0x80 on is clamped, read
unsigned or signed (log 50). -/
def setupClamped (f : BitVec 24) (b : SettingsBlock) : Bool :=
  numClamped f 0 b.delayTarget 0 480000 || numClamped f 2 b.loudnessTarget (-400) (-100) ||
    numClamped f 3 b.maxBoost 0 120 || numClamped f 4 b.maxCut 0 200 || numClamped f 5 b.slew 1 100 ||
    numClamped f 6 b.trim (-2000) 2000 || (present f 7 && decide (1 < b.resetOnChangeover.toNat)) ||
    numClamped f 9 b.gapLevel (-700) (-300) || numClamped f 10 b.holdLimit 0 100 ||
    numClamped f 11 b.returnTime 5 600 || numClamped f 12 b.silenceLevel (-800) (-300) ||
    numClamped f 13 b.silenceSetTime 1 300 || numClamped f 14 b.silenceClearTime 1 60 ||
    numClamped f 15 b.loudnessWindow 5 100 || numClamped f 16 b.loudnessTime 1 60 ||
    numClamped f 17 b.overLevel (-60) 0

/-- What the stored fields of a SETUP do at once in the other blocks of an ACTIVE programme (R49). Every present trim
starts a ramp from the applied trim in force (R135); where the two are equal the ramp changes nothing (R48, log
38). -/
def Device.applySetup (d : Device) (n : Ix8) (f : BitVec 24) : Device :=
  let s := (d.prog n).record.settings
  let a := if present f 3 || present f 4 then d.modGain n fun g => g.clampTo s else d
  let b := if present f 6 then a.modStage n fun g => g.startTrim s.trim else a
  if present f 0 then b.targetTrigger n else b

/-- A SETUP that passes its checks (R48, R49, R64). -/
def Device.setup (d : Device) (n : Ix8) (f : BitVec 24) (b : SettingsBlock) (loud : LoudMode)
    (change : ChangeMode) : Device :=
  let e := d.modRecord n fun r => { r with settings := r.settings.take f b loud change }
  let g := if present f 9 then
      e.modCtx n fun c => { c with gapThreshold := amplitudeOf (e.prog n).record.settings.gapLevel }
    else e
  if g.active n then g.applySetup n f else g

/-- SETUP with its checks (R48). A mode code is examined only where its flag is set. R48 gives its checks no order;
that the values are examined before the state of the record is the model's choice (log 47). -/
def Device.requestSetup (d : Device) (programme : Byte) (f : BitVec 24) (b : SettingsBlock) : Device × Answer :=
  match ix8? programme.toNat with
  | none => (d, .refused .badValue)
  | some n =>
    let loud := if present f 1 then loudMode? b.loudnessMode else some .off
    let change := if present f 8 then changeMode? b.changeoverMode else some .manual
    match loud, change with
    | some l, some c =>
      if d.inState n .free ∨ d.inState n .stopping then (d, .refused .wrongState)
      else
        let e := d.setup n f b l c
        (e, .clampedIf (setupClamped f b) (e.setupFields n))
    | _, _ => (d, .refused .badValue)

/-! ## RUN, STOP, DELETE, PROGQ (R50 to R56) -/

/-- The four conditions of a programme, in the order of R161, in which a STOP forces them. The spec gives the forcings
no order; the order is the model's choice (log 41). -/
def conditionsOf (n : Ix8) : List Alarm := [.silence n, .loudHigh n, .loudLow n, .delayShort n]

/-- The six records of a programme (R162). -/
def recordsOf (n : Ix8) : List Alarm := conditionsOf n ++ [.overEvent n, .changeover n]

/-- A record's timers at 0 (R51). -/
def AlarmUnit.zeroTimers (u : AlarmUnit) (a : Alarm) : AlarmUnit :=
  u.put a { u.get a with setTimer := 0, clearTimer := 0, expiry := .none }

/-- A RUN taken in STANDBY (R51, R102). -/
def Device.runProgramme (d : Device) (n : Ix8) : Device :=
  let a := d.modProg n fun x =>
    { x with
      record := { x.record with state := .active }
      ctx := x.ctx.run
      meter := Meter.run x.record
      gain := Gain.reset
      stage := x.stage.run x.record.settings.trim }
  (a.initialFill n).modAlarms fun u => (conditionsOf n).foldl AlarmUnit.zeroTimers u

/-- RUN (R50). -/
def Device.requestRun (d : Device) (programme : Byte) : Device × Answer :=
  match ix8? programme.toNat with
  | none => (d, .refused .badValue)
  | some n =>
    match (d.prog n).record.state with
    | .free | .stopping => (d, .refused .wrongState)
    | .active => (d, .ok (d.stateFields n))
    | .standby =>
      if (d.prog n).record.members = [] then (d, .refused .badValue)
      else
        let e := d.runProgramme n
        (e, .ok (e.stateFields n))

/-- A STOP taken in ACTIVE, its six effects in order (R52). -/
def Device.stopProgramme (d : Device) (n : Ix8) : Device :=
  let a := (d.modRecord n fun r => { r with state := .stopping }).withdraw n
  let b := (a.modCtx n Context.stop).stopDelay n
  let c := (conditionsOf n).foldl Device.force b
  (c.modMeter n Meter.stop).modStage n fun g => { g with stopStep := 0 }

/-- STOP (R52). -/
def Device.requestStop (d : Device) (programme : Byte) : Device × Answer :=
  match ix8? programme.toNat with
  | none => (d, .refused .badValue)
  | some n =>
    match (d.prog n).record.state with
    | .free => (d, .refused .wrongState)
    | .standby | .stopping => (d, .ok (d.stateFields n))
    | .active =>
      let e := d.stopProgramme n
      (e, .ok (e.stateFields n))

/-- A DELETE taken in STANDBY (R55, R58, R126, R162). That the meter's running-throughout flag, which the lists of R55
and R126 do not name, is cleared with the rest is the model's choice (log 40), as is that of its adopted flag (log
30). -/
def Device.deleteProgramme (d : Device) (n : Ix8) : Device :=
  let a := d.modProg n fun x => { x with record := .reset, ctx := .reset, meter := .reset }
  (a.silenceWhere fun e => e.names n 0).modAlarms fun u => (recordsOf n).foldl AlarmUnit.wipe u

/-- DELETE (R55). -/
def Device.requestDelete (d : Device) (programme : Byte) : Device × Answer :=
  match ix8? programme.toNat with
  | none => (d, .refused .badValue)
  | some n =>
    if d.inState n .standby then
      let e := d.deleteProgramme n
      (e, .ok (e.stateFields n))
    else (d, .refused .wrongState)

/-- PROGQ (R56). -/
def Device.requestProgq (d : Device) (programme : Byte) : Device × Answer :=
  if programme = 0xFF then (d, { status := .ok, segments := eight.map d.progqFields })
  else
    match ix8? programme.toNat with
    | some n => (d, .ok (d.progqFields n))
    | none => (d, .refused .badValue)

/-! ## SWITCH, LRESET (R60, R121) -/

/-- The side of a code (Table 11-11). -/
def selection? (b : Byte) : Option Selection := if b = 0 then some .primary else if b = 1 then some .backup else none

/-- SWITCH (R60). -/
def Device.requestSwitch (d : Device) (programme target : Byte) : Device × Answer :=
  match ix8? programme.toNat, selection? target with
  | some n, some t =>
    if d.active n then
      if (d.prog n).record.hasBackup then
        let e := d.modCtx n fun c => c.switch (d.prog n).record.settings t
        (e, .ok (e.switchFields n))
      else (d, .refused .noBackup)
    else (d, .refused .wrongState)
  | _, _ => (d, .refused .badValue)

/-- LRESET (R121). -/
def Device.requestLreset (d : Device) (programme : Byte) : Device × Answer :=
  match ix8? programme.toNat with
  | none => (d, .refused .badValue)
  | some n =>
    if d.active n then (d.modMeter n Meter.clearHistogram, .ok [byteOf n.val]) else (d, .refused .wrongState)

/-! ## ROUTE, ROUTEQ, POOLQ (R88, R140, R141) -/

/-- The map entry of a ROUTE request (R140, Table 11-11). -/
def mapEntry? (kind n m : Byte) : Option MapEntry :=
  if kind = 0 then some .silence
  else if kind = 1 then (ix8? n.toNat).bind fun n => (ix8? m.toNat).map fun m => .member n m
  else if kind = 2 then (ix8? n.toNat).map .test
  else none

/-- The member that a map entry names exists (R140). -/
def Device.entryExists (d : Device) : MapEntry → Bool
  | .silence => true
  | .test _ => true
  | .member n m => !d.inState n .free && decide (m.val < (d.prog n).record.members.length)

/-- ROUTE (R140). R140 gives its two refusals no order; that the values are examined before the member they name is
the model's choice (log 47). -/
def Device.requestRoute (d : Device) (q s kind n m : Byte) : Device × Answer :=
  match ix8? q.toNat, ix4? s.toNat, mapEntry? kind n m with
  | some q, some s, some e =>
    if d.entryExists e then
      let a := d.putMap q s e
      (a, .ok (a.routeFields q s))
    else (d, .refused .noSuchProg)
  | _, _, _ => (d, .refused .badValue)

/-- ROUTEQ (R141). -/
def Device.requestRouteq (d : Device) : Device × Answer := (d, .ok d.routeqFields)

/-- POOLQ (R88). -/
def Device.requestPoolq (d : Device) : Device × Answer := (d, .ok d.poolqFields)

/-! ## AMASK, AQUERY, ACLEAR, COUNTS (R155 to R160) -/

/-- The kinds that an AMASK names (R155). -/
def kinds? (b : Byte) : Option (List Kind) := if b = 0xFF then some allKinds else allKinds[b.toNat]?.map fun k => [k]

/-- AMASK (R155). -/
def Device.requestAmask (d : Device) (kind notify summary : Byte) : Device × Answer :=
  match kinds? kind, flag? notify, flag? summary with
  | some ks, some n, some s =>
    let e := d.modAlarms fun u => ks.foldl (fun v k => v.mask k { notify := n, summary := s }) u
    (e, .ok e.amaskFields)
  | _, _, _ => (d, .refused .badValue)

/-- AQUERY (R158). -/
def Device.requestAquery (d : Device) (kind number : Byte) : Device × Answer :=
  match selectAlarms kind number with
  | some l => (d, { status := .ok, segments := d.aquerySegments l })
  | none => (d, .refused .badValue)

/-- The selected instances whose latch an ACLEAR clears (R159). -/
def clearedBy (u : AlarmUnit) (l : List Alarm) : List Alarm := l.filter fun a => (u.get a).latch && !(u.get a).active

/-- The selected instances whose latch an ACLEAR leaves set because their condition is active (R159). -/
def keptBy (u : AlarmUnit) (l : List Alarm) : List Alarm := l.filter fun a => (u.get a).latch && (u.get a).active

/-- ACLEAR (R159). -/
def Device.requestAclear (d : Device) (kind number : Byte) : Device × Answer :=
  match selectAlarms kind number with
  | some l =>
    let e := d.modAlarms fun u => l.foldl AlarmUnit.clearLatch u
    (e, .ok [byteOf (clearedBy d.alarms l).length, byteOf (keptBy d.alarms l).length, boolByte e.alarms.pin])
  | none => (d, .refused .badValue)

/-- Every counter of Table 9-4 at 0 (R160). -/
def Device.zeroCounters (d : Device) : Device :=
  let a := d.modAlarms fun u => allAlarms.foldl AlarmUnit.zeroCount u
  { a with
    ports := a.ports.map fun x => { x with lane := { x.lane with invalid := 0 } }
    progs := a.progs.map fun x => { x with stage := { x.stage with clips := 0 } }
    checkers := ⟨{ a.checkers.d0 with errors := 0 }, { a.checkers.d1 with errors := 0 }⟩
    link := { a.link with errors := 0 } }

/-- COUNTS (R160). -/
def Device.requestCounts (d : Device) : Device × Answer := (d.zeroCounters, .ok d.countsFields)

/-! ## METER, MSTOP (R185) -/

/-- A programme set holds a programme (R193). -/
def inSet (set : Byte) (n : Ix8) : Bool := set.getLsbD n.val

/-- METER (R185). A mode code above 1 is refused whatever the set; otherwise an empty set is answered OK and changes
nothing, its count not examined: the model's choice (log 37). -/
def Device.requestMeter (d : Device) (set mode count : Byte) : Device × Answer :=
  if mode.toNat ≤ 1 then
    let sub : Subscription := if mode = 0 then .continuous else .count (max 1 count.toNat)
    let e := d.modLink fun l =>
      { l with subscriptions := Oct.ofFn fun n => if inSet set n then sub else l.subscriptions.get n }
    (e, .clampedIf (decide (mode = 1) && decide (count = 0) && decide (set ≠ 0)) e.subscriptionFields)
  else (d, .refused .badValue)

/-- MSTOP (R185). -/
def Device.requestMstop (d : Device) (set : Byte) : Device × Answer :=
  let e := d.modLink fun l =>
    { l with
      subscriptions := Oct.ofFn fun n => if inSet set n then .none else l.subscriptions.get n
      slots := Oct.ofFn fun n => if inSet set n then none else l.slots.get n }
  (e, .ok e.subscriptionFields)

/-! ## TGEN, TCHECK, TCHECKQ (R168, R173, R175) -/

/-- TGEN (R168). -/
def Device.requestTgen (d : Device) (programme on : Byte) (level : BitVec 16) : Device × Answer :=
  match ix8? programme.toNat, flag? on with
  | some n, some b =>
    let l := clampInt level.toInt (-400) (-60)
    let e := d.modGen n fun g => g.set b l
    (e, .clampedIf (l != level.toInt) (e.tgenFields n))
  | _, _ => (d, .refused .badValue)

/-- TCHECK (R173). -/
def Device.requestTcheck (d : Device) (checker enable q s : Byte) : Device × Answer :=
  match ix2? checker.toNat, flag? enable with
  | some i, some false =>
    let e := d.disableChecker i
    (e, .ok (e.tcheckFields i))
  | some i, some true =>
    match ix8? q.toNat, ix4? s.toNat with
    | some q, some s =>
      let e := d.enableChecker i q s
      (e, .ok (e.tcheckFields i))
    | _, _ => (d, .refused .badValue)
  | _, _ => (d, .refused .badValue)

/-- TCHECKQ (R175). -/
def Device.requestTcheckq (d : Device) (checker : Byte) : Device × Answer :=
  if checker = 0xFF then (d, .ok (d.tcheckqFields two))
  else
    match ix2? checker.toNat with
    | some i => (d, .ok (d.tcheckqFields [i]))
    | none => (d, .refused .badValue)

/-! ## The executor's checks (R181, R188) -/

/-- The part state accepts a request type, or the reason it gives (R188). -/
def stateRefusal (part : PartState) (t : ReqType) : Option Reason :=
  match part, t with
  | .config, .ident => none
  | .config, .status => none
  | .config, .start => none
  | .config, _ => some .notStarted
  | .run, .start => some .wrongState
  | .run, _ => none

/-- A request that the part state accepts, with the checks of its own rule (R181). -/
def Device.carryOut (d : Device) : Request → Device × Answer
  | .ident => d.requestIdent
  | .start a b => d.requestStart a b
  | .restart => d.requestRestart
  | .status => d.requestStatus
  | .port a b c e => d.requestPort a b c e
  | .portq a => d.requestPortq a
  | .define a b ms => d.requestDefine a b ms
  | .setup a f b => d.requestSetup a f b
  | .run a => d.requestRun a
  | .stop a => d.requestStop a
  | .delete a => d.requestDelete a
  | .progq a => d.requestProgq a
  | .switch a b => d.requestSwitch a b
  | .lreset a => d.requestLreset a
  | .route a b c e f => d.requestRoute a b c e f
  | .routeq => d.requestRouteq
  | .poolq => d.requestPoolq
  | .amask a b c => d.requestAmask a b c
  | .aquery a b => d.requestAquery a b
  | .aclear a b => d.requestAclear a b
  | .counts => d.requestCounts
  | .meter a b c => d.requestMeter a b c
  | .mstop a => d.requestMstop a
  | .tgen a b v => d.requestTgen a b v
  | .tcheck a b c e => d.requestTcheck a b c e
  | .tcheckq a => d.requestTcheckq a

/-- A request under the part state and its own checks (R181, checks 3 and 4). -/
def Device.perform (d : Device) (r : Request) : Device × Answer :=
  match stateRefusal d.link.part (requestType r) with
  | some x => (d, .refused x)
  | none => d.carryOut r

/-- The body of a complete frame under all four checks of R181. -/
def Device.performBody (d : Device) (body : List Byte) : Device × Answer :=
  match readBody body with
  | .error x => (d, .refused x)
  | .ok r => d.perform r

end Sys2Proof.Machine
end

