-- ==== Sys2Proof/Machine/SubBlock.lean ====
section
/-!
DEFINITION. The sub-block end and the second boundary (R8): each block closes the sub-block just ended, in the
order in which the figures are used (log 5); and the completion of what an earlier command left to be done at once.
-/

namespace Sys2Proof.Machine

/-! ## The meters and the gain computers (R116, R124, R125, R129) -/

/-- The sub-block end is that of the wrap of H, which closes a short sub-block (R8). H is 0 at no other boundary. -/
def Timebase.atWrap (t : Timebase) : Bool := t.h == 0

/-- None of the causes outside the meter made the sub-block of a programme invalid: those of R116, and the wrap of H.
R115 calls the short sub-block that the wrap closes invalid, while R116 does not list it; that R115 decides is the
model's choice (log 49). -/
def Device.fit (d : Device) (n : Ix8) : Bool :=
  let x := d.prog n
  !d.time.atWrap && (x.record.members.all fun m =>
    let c := (d.port (x.currentSource m).port).conv
    c.throughout && !c.slipMark) && !x.ctx.fadeFlag && !x.gen.flag

/-- The meter of a programme closes, and raises OVER (R124, R125). -/
def Device.closeMeter (d : Device) (second : Bool) (n : Ix8) : Device :=
  if d.active n then
    let e := d.modMeter n fun t => t.close (d.prog n).record (d.fit n) second
    if (e.prog n).meter.over (e.prog n).record then e.occur (.overEvent n) else e
  else d.modMeter n fun t => { t with activeThroughout := false }

/-- The gain computer of an ACTIVE programme closes (R129 to R131). -/
def Device.closeGain (d : Device) (n : Ix8) : Device :=
  if d.active n then
    d.modGain n fun g => g.close (d.prog n).record.settings (d.prog n).meter (closedStart d.time.h)
  else d

/-! ## Qualification (R148 to R151) -/

/-- UNLOCK of an enabled port is judged (R149). -/
def Device.judgeUnlock (d : Device) (p : Ix8) : Device :=
  if (d.port p).lane.enabled then
    let locked := (d.port p).conv.state == .locked
    d.modAlarms fun u => u.qualify (.unlock p) (!locked) locked 5 10
  else d

/-- The levels of the members' current sources (R150). -/
def Device.sourceLevels (d : Device) (n : Ix8) : List Int :=
  (d.prog n).record.members.map fun m => d.levelAt ((d.prog n).currentSource m)

/-- SILENCE of an ACTIVE programme is judged (R150). -/
def Device.judgeSilence (d : Device) (n : Ix8) : Device :=
  let s := (d.prog n).record.settings
  let l := d.sourceLevels n
  d.modAlarms fun u =>
    u.qualify (.silence n) (l.all fun v => decide (v < s.silenceLevel))
      (l.any fun v => decide (s.silenceLevel + 20 ≤ v))
      (s.silenceSetTime * 10).toNat (s.silenceClearTime * 10).toNat

/-- LOUD_HIGH and LOUD_LOW of an ACTIVE programme are judged; with S absent both keep their timers (R151). -/
def Device.judgeLoud (d : Device) (n : Ix8) : Device :=
  let s := (d.prog n).record.settings
  match (d.prog n).meter.shortTerm with
  | none => d
  | some v =>
    let limit := (s.loudnessTime * 10).toNat
    let high := s.loudnessTarget + s.loudnessWindow
    let low := s.loudnessTarget - s.loudnessWindow
    d.modAlarms fun u =>
      (u.qualify (.loudHigh n) (decide (high < v)) (decide (v ≤ high - 10)) limit limit).qualify
        (.loudLow n) (decide (v < low)) (decide (low + 10 ≤ v)) limit limit

/-- The conditions of an ACTIVE programme are judged (R148). -/
def Device.judgeProgramme (d : Device) (n : Ix8) : Device :=
  if d.active n then (d.judgeSilence n).judgeLoud n else d

/-- The set timer of a qualified condition has reached its limit (R146, R148), and the changeover controllers
test (R69); a request they make shows in the reports of that sub-block end (R187). -/
def Device.setTimerExpiry (d : Device) (k : Qualified) (i : Ix8) : Device :=
  let r := d.alarms.get (qualifiedAlarm k i)
  if r.expiry = .set ∧ r.active = false then
    ((d.activate (qualifiedAlarm k i)).activationTests k i).reviseReports
  else d

/-- The clear timer of a qualified condition has reached its limit (R146, R148). -/
def Device.clearTimerExpiry (d : Device) (k : Qualified) (i : Ix8) : Device :=
  let r := d.alarms.get (qualifiedAlarm k i)
  if r.expiry = .clear ∧ r.active = true then d.deactivate (qualifiedAlarm k i) else d

/-! ## METER reports (R186, R187) -/

/-- The figures of a report, with its flags (R187). -/
def Device.report1 (d : Device) (n : Ix8) (overrun last : Bool) : Report :=
  let x := d.prog n
  { prog := n, h := d.time.h, momentary := x.meter.momentary, shortTerm := x.meter.shortTerm,
    integrated := x.meter.integrated, g := x.gain.g, selection := x.ctx.selection,
    selectedBy := x.ctx.selectedBy, ctx := x.ctx.state,
    delayShort := (d.alarms.get (.delayShort n)).active, changing := d.changing n,
    underDelay := x.record.positions.any fun m => (d.line n m).underDelay,
    overrun := overrun, last := last, peaks := x.record.positions.map fun m => (x.meter.members.get m).level }

/-- A subscription after one report, and whether that report is its last (R186). -/
def Subscription.after : Subscription → Subscription × Bool
  | .none => (.none, false)
  | .continuous => (.continuous, false)
  | .count k => if k ≤ 1 then (.none, true) else (.count (k - 1), false)

/-- The report of a subscribed ACTIVE programme is formed into its slot (R186). -/
def Device.formReport (d : Device) (n : Ix8) : Device :=
  let sub := d.link.subscriptions.get n
  if d.active n ∧ sub ≠ .none then
    let r := d.report1 n (d.link.slots.get n).isSome sub.after.2
    d.modLink fun l =>
      { l with subscriptions := l.subscriptions.set n sub.after.1, slots := l.slots.set n (some r) }
  else d

/-! ## The boundary (R7, R8) -/

/-- The changeover controller's sub-block end of one programme (R68 to R70). -/
def Device.judgeChangeover (d : Device) (n : Ix8) : Device := if d.active n then d.judgeSides n else d

/-- The flags of the blocks start afresh (R38, R66, R166). -/
def Device.freshFlags (d : Device) : Device :=
  { d with
    ports := d.ports.map fun x => { x with conv := x.conv.freshFlags }
    progs := d.progs.map fun x => { x with ctx := x.ctx.freshFlag, gen := x.gen.freshFlag } }

/-- The sub-block end of the boundary that H stands on is taken; the second count with a second boundary (R7, R8, log
4, log 5). -/
def Timebase.take (t : Timebase) : Timebase :=
  { t with boundary := .taken, seconds := if onSecond t.h then t.seconds + 1 else t.seconds }

/-- The work of a sub-block end, H standing on the boundary (R8). -/
def Device.closeSubBlock (d : Device) : Device :=
  let second := onSecond d.time.h
  let a : Device := { d with ports := d.ports.map Port.closeLevels }
  let b := forEight a fun e n => e.closeMeter second n
  let c := forEight b Device.closeGain
  let f := forEight c Device.judgeChangeover
  let g := forEight (forEight f Device.judgeUnlock) Device.judgeProgramme
  (forEight g Device.formReport).freshFlags

/-- The boundary that H stands on is taken, and every block closes (R8). -/
def Device.takeBoundary (d : Device) : Device := ({ d with time := d.time.take } : Device).closeSubBlock

/-- H has stepped onto a sub-block boundary whose sub-block end is still to be taken (R8). -/
def Device.boundaryDue (d : Device) : Bool := d.time.boundary == .due

/-- SUB_BLOCK_END (R8). -/
def Device.subBlockEnd (d : Device) : Device := if d.boundaryDue then d.takeBoundary else d

/-- SECOND_BOUNDARY (R8): the sub-block end that is also a second boundary. -/
def Device.secondBoundary (d : Device) : Device := if onSecond d.time.h && d.boundaryDue then d.takeBoundary else d

/-! ## What an earlier command left to be done at once (R70, R84, R148, R170, R171) -/

/-- The four qualified conditions. -/
def allQualified : List Qualified := [.unlock, .silence, .loudHigh, .loudLow]

/-- The timer expiries of the alarm unit that the last sub-block end left (R148, log 24): UNLOCK, SILENCE, LOUD_HIGH
and LOUD_LOW in this order, each by ascending instance. R164 leaves that order open, and it is the model's choice (log
46). -/
def Device.finishTimers (d : Device) : Device :=
  allQualified.foldl (fun e k => forEight e fun g i => (g.setTimerExpiry k i).clearTimerExpiry k i) d

/-- The checkers' changes of state at the last house sample, the expiries of the last sub-block end and the grant
notices, which their rules bring about at once and which no command but their own rows finds undone (R70, R84, R148,
R170, R171, logs 23, 24 and 42). -/
def Device.finish (d : Device) : Device := (forEight d.settleCheckers.finishTimers Device.returnExpiry).told

end Sys2Proof.Machine
end

