-- ==== Sys2Proof/Machine/Link.lean ====
section
/-!
DEFINITION. The control link (Chapter 11): the receive assembler, the request queue, the executor, the transmit
arbiter, RESTART and the resets.
-/

namespace Sys2Proof.Machine

/-! ## The transmit arbiter (R184) -/

/-- The transmission of a reply (R182, R184). -/
def Reply.transmission (r : Reply) : Transmission := { frames := r.bodies.map frameOf, isRestart := r.isRestart }

/-- The transmission of one notice or report. -/
def single (body : List Byte) : Transmission := { frames := [frameOf body], isRestart := false }

/-- The occupied report slot of the lowest programme number (R184). -/
def Link.firstReport (l : Link) : Option (Ix8 × Report) :=
  eight.findSome? fun n => (l.slots.get n).map fun r => (n, r)

/-- The arbiter takes the next thing to send onto an idle line, by its priority; once the RESTART reply has been
sent it takes nothing more (R184, R190). -/
def Device.arbitrate (d : Device) : Device :=
  if d.link.line.isSome ∨ d.link.restart = .due then d
  else
    match d.link.replies with
    | r :: rest => d.modLink fun l => { l with replies := rest, line := some r.transmission }
    | [] =>
      match d.alarms.queue with
      | q :: _ =>
        (d.modAlarms fun u => u.dropNotice q.alarm).modLink fun l => { l with line := some (single q.body) }
      | [] =>
        match d.link.firstReport with
        | some x => d.modLink fun l => { l with slots := l.slots.set x.1 none, line := some (single x.2.body) }
        | none => d

/-! ## The executor (R181) -/

/-- The executor may take the head of the request queue (R181). -/
def Link.ready (l : Link) : Bool := l.replies.all (fun r => !r.executed) && l.restart == .none

/-- The reply of an executed request, formed as it is taken (R182, R190). -/
def replyTo (body : List Byte) (a : Answer) : Reply :=
  a.reply (bodyType body) (bodyTag body) (typeOf (bodyType body) == some .restart && a.status == .ok)

/-- The executor takes the head of the request queue, carries it out and forms its reply (R180, R181, R183). -/
def Device.execute (d : Device) : Device :=
  match d.link.queue with
  | [] => d
  | body :: rest =>
    if d.link.ready then
      let r := (d.modLink fun l => { l with queue := rest }).performBody body
      r.1.modLink fun l => { l with replies := l.replies ++ [replyTo body r.2] }
    else d

/-- The arbiter and then the executor act where they can (R181, R184). -/
def Device.settleLink (d : Device) : Device := d.arbitrate.execute

/-- Everything that earlier commands left to be done at once: the checkers' changes, the expiries of a sub-block end,
the grant notices, and then the choice of the arbiter on an idle line. Every command that could find the difference
begins with it (log 15). The events that a frame or a house sample makes due at a port, a line, a context or the
output stage are not among them: a request comes before them where the sender puts it there, the model's choice (log
45). -/
def Device.catchUp (d : Device) : Device := d.finish.settleLink

/-! ## Frames (R176 to R180) -/

/-- A body length that a frame can have (Table 11-1). -/
def bodyFits (body : List Byte) : Bool := decide (2 ≤ body.length) && decide (body.length ≤ 250)

/-- One added to the link error count (R176). -/
def Link.countError (l : Link) : Link := { l with errors := addSat l.errors 1 }

/-- The BUSY replies that wait in the reply list (R180). -/
def Link.busyCount (l : Link) : Nat := (l.replies.filter fun r => !r.executed).length

/-- A complete frame is offered to the request queue (R180). -/
def Link.offer (l : Link) (body : List Byte) : Link :=
  if l.queue.length < 4 then { l with queue := l.queue ++ [body] }
  else if l.busyCount < 4 then { l with replies := l.replies ++ [busyReply (bodyType body) (bodyTag body)] }
  else l.countError

/-- A complete frame arrives, and the executor takes the head where it can (R179 to R181). -/
def Device.completeFrame (d : Device) (body : List Byte) : Device :=
  (d.catchUp.modLink fun l => { l.offer body with assembler := .awaitStart }).execute

/-- A completed frame is judged by its CRC (R179). -/
def Device.frameReceived (d : Device) (body : List Byte) (crc : BitVec 16) : Device :=
  if bodyFits body then
    if crc = frameCrc body then d.completeFrame body
    else d.modLink fun l => { l.countError with assembler := .awaitStart }
  else d

/-- A request's frame completes (R180, R181, log 14). -/
def Device.requestFrame (d : Device) (body : List Byte) : Device := if bodyFits body then d.completeFrame body else d

/-- A byte whose stop bit is low (R176). -/
def Link.framingError (l : Link) : Link :=
  match l.assembler with
  | .awaitStart => l
  | .awaitLength | .inBody _ _ | .awaitCheck _ _ => { l.countError with assembler := .awaitStart }

/-- A good byte in the receive assembler (R178). -/
def Device.assemble (d : Device) (b : Byte) : Device :=
  match d.link.assembler with
  | .awaitStart => if b = 0xA5 then d.modLink fun l => { l with assembler := .awaitLength } else d
  | .awaitLength =>
    if 2 ≤ b.toNat ∧ b.toNat ≤ 250 then d.modLink fun l => { l with assembler := .inBody b.toNat [] }
    else d.modLink fun l => { l.countError with assembler := .awaitStart }
  | .inBody n kept =>
    let body := kept ++ [b]
    if n ≤ body.length then d.modLink fun l => { l with assembler := .awaitCheck body none }
    else d.modLink fun l => { l with assembler := .inBody n body }
  | .awaitCheck body none => d.modLink fun l => { l with assembler := .awaitCheck body (some b) }
  | .awaitCheck body (some high) => d.frameReceived body (be16 high b)

/-- A received byte (R176, R178). -/
def Device.receiveByte (d : Device) (b : Byte) (stopLow : Bool) : Device :=
  if stopLow then d.modLink Link.framingError else d.assemble b

/-- More than 2 ms have passed since the last byte (R178). -/
def Link.timeout (l : Link) : Link := { l with assembler := .awaitStart }

/-! ## The line comes free (R184, R190) -/

/-- The transmission ends; that of the RESTART reply makes the restart due (R190). -/
def Link.lineFree (l : Link) : Link :=
  match l.line with
  | none => l
  | some t => { l with line := none, restart := if t.isRestart then .due else l.restart }

/-- TRANSMIT_LINE_FREE (R181, R184, R190). What waited for an idle line has been on it since it became available, and
is what ends (log 15). -/
def Device.transmitLineFree (d : Device) : Device := (d.finish.arbitrate.modLink Link.lineFree).settleLink

/-! ## RESTART and the resets (R19, R41, R89, R190, R192) -/

/-- The part after a restart (R4, R19, R89, R163, R190). The delay memory keeps its contents (log 19). -/
def Device.restarted (d : Device) : Device :=
  let time := match d.time.mode with
    | some m => Timebase.reset.choose m
    | none => Timebase.reset
  ({ Device.reset with
      time := time, pool := Pool.formed d.pool.size, mem := d.mem,
      link := { Link.reset with part := .run } } : Device).raiseRefLoss

/-- RESTART_PERFORMED, where the RESTART reply has been sent (R190, log 16). -/
def Device.restartPerformed (d : Device) : Device := if d.link.restart = .due then d.restarted else d

/-- A line reset (R192). The delay memory keeps its contents (log 19). -/
def Device.lineReset (d : Device) : Device := { Device.reset with mem := d.mem }

end Sys2Proof.Machine
end

