-- ==== Sys2Proof/Machine/Events.lean ====
section
/-!
DEFINITION. The remaining events of the table as operations on the part, each guarded by what makes it due
(log 1), and the settling of all events that are due before a house sample (log 2).
-/

namespace Sys2Proof.Machine

/-! ## The presence window (R4, R5) -/

/-- The reference is present by the edge count of a window (R5). -/
def refPresent (edges : Nat) : Bool := decide (4776 ≤ edges) && decide (edges ≤ 4824)

/-- PRESENCE_WINDOW_END (R5): it runs in WORD mode only. -/
def Device.presenceWindowEnd (d : Device) : Device :=
  if d.time.mode = some .word then
    let present := refPresent d.time.edges
    let e : Device := { d with time := { d.time with edges := 0 } }
    match d.time.state, present with
    | .holding, true =>
      ({ e with time := { e.time with state := .external, oscillatorPaced := false } } : Device).deactivate .refLoss
    | .external, false => ({ e with time := { e.time with state := .holding } } : Device).activate .refLoss
    | _, _ => e
  else d

/-! ## Events of ports, lines and the output stage -/

/-- LOCK_COUNT_EXPIRY (R27). -/
def Device.lockCountExpiry (d : Device) (p : Ix8) : Device := d.modConv p Converter.lockExpiry

/-- CONVERTER_FADE_IN_END (R30). -/
def Device.converterFadeInEnd (d : Device) (p : Ix8) : Device := d.modConv p Converter.fadeInEnd

/-- HOLDOVER_FADE_OUT_END (R36). -/
def Device.holdoverFadeOutEnd (d : Device) (p : Ix8) : Device := d.modConv p Converter.holdoverFadeOutEnd

/-- HOLDOVER_TIMER_EXPIRY (R37). -/
def Device.holdoverTimerExpiry (d : Device) (p : Ix8) : Device := d.modPort p Port.holdoverTimerExpiry

/-- STOP_FADE_END: the teardown in the order of R54 (R53, R54, R107, R143). A request taken before this event finds
STOPPING (log 45). -/
def Device.stopFadeEnd (d : Device) (n : Ix8) : Device :=
  if d.inState n .stopping ∧ 480 ≤ (d.prog n).stage.stopStep then
    (d.clearDelay n).modProg n fun x =>
      { x with gain := .reset, stage := x.stage.teardown, record := { x.record with state := .standby } }
  else d

/-- APPLIED_GAIN_RAMP_END (R134). -/
def Device.appliedGainRampEnd (d : Device) (n m : Ix8) : Device :=
  d.modStage n fun g => { g with members := g.members.modify m StageMember.rampEnd }

/-- TRIM_RAMP_END (R135). -/
def Device.trimRampEnd (d : Device) (n : Ix8) : Device := d.modStage n Stage.trimEnd

/-- GRANT: the grant test, and the oldest grant notice taken by the delay engine (R82, R84). -/
def Device.grant (d : Device) : Device := (d.grantTest none).takeNotice

/-! ## Settling (log 2) -/

/-- The fold of an operation over all pairs of a programme and a member. -/
def forMembers (d : Device) (f : Device → Ix8 → Ix8 → Device) : Device :=
  forEight d fun e n => forEight e fun g m => f g n m

/-- The due events of one port. -/
def Device.settlePort (d : Device) (p : Ix8) : Device :=
  (((d.settleArrival p).converterFadeInEnd p).holdoverTimerExpiry p).laneDark p

/-- The due events of the delay lines and the output stage. The grant notices that an event of the lines brings are
taken before the next one (R84, log 23). -/
def Device.settleLines (d : Device) : Device :=
  let a := forMembers d fun e n m => (e.slewAction n m).told
  let b := forEight a fun e n => (e.fadeOutEnd n).told
  let c := forMembers b Device.freezeEnd
  let e := forEight (forEight c Device.gapEnd) fun e n => (e.fadeInEnd n).told
  let f := forEight e fun e n => (e.stopFadeEnd n).told
  forEight (forMembers f Device.appliedGainRampEnd) Device.trimRampEnd

/-- Every event that is due, in one order (log 2), each with the grant notices it brings (R84, log 23). -/
def Device.settle (d : Device) : Device :=
  let a := forEight d.catchUp Device.settlePort
  let b := (forEight a fun e n => (e.crossfadeCompletion n).told).settleLines
  (forEight b Device.crossfadeStart).catchUp

end Sys2Proof.Machine
end

