-- ==== Sys2Proof/Machine/HouseSample.lean ====
section
/-!
DEFINITION. The house sample (R6): what paces it, the settling of what is due before it, the boundary it may
open, and the per-sample work of every block in the order of the signal path (log 27).
-/

namespace Sys2Proof.Machine

/-! ## Pacing (R5, R6) -/

/-- A period of the oscillator or an edge at REF makes a house sample (R6, log 8). -/
def Timebase.makes (t : Timebase) : Pace → Bool
  | .oscillator e =>
    match t.state with
    | .internal | .holding => decide (1000 ≤ e)
    | .external => decide (1500 ≤ e) || (t.oscillatorPaced && decide (1000 ≤ e))
  | .refEdge e =>
    match t.state with
    | .internal | .holding => false
    | .external => decide (500 ≤ e)

/-- The edge count of the presence window, and in EXTERNAL what paced the sample that was made (R5, R6). An edge that
is ignored for coming within half a period does not end the pacing by the oscillator, once per period: whether such an
edge counts among those that "come again" is the model's choice (log 8). -/
def Timebase.paced (t : Timebase) (p : Pace) (made : Bool) : Timebase :=
  match p with
  | .oscillator _ => { t with oscillatorPaced := if made && t.state == .external then true else t.oscillatorPaced }
  | .refEdge _ =>
    { t with
      edges := if t.mode = some .word then t.edges + 1 else t.edges
      oscillatorPaced := if made then false else t.oscillatorPaced }

/-! ## The work of a house sample -/

/-- The input sample of a member's line: the selected signal, or the generator's output while it is on (R91,
R166). -/
def Device.inputSample (d : Device) (n : Ix8) (m : Member) : Sample :=
  if (d.prog n).gen.on then (d.prog n).gen.output else d.selected n m

/-- One member in a house sample: the meter tap while the programme is ACTIVE, the line, and the output stage
(R91, R111, R133 to R138). -/
def Device.workMember (d : Device) (n : Ix8) (fade : Int) (m : Ix8 × Member) : Device :=
  let x := d.inputSample n m.2
  let a := if d.active n then d.modMeter n fun t => t.tap m.1 x else d
  let r := a.lineSample n m.1 x
  r.1.modStage n fun g => g.memberSample m.1 (r.1.prog n).gain.schedule (r.1.line n m.1).headIndex r.2 fade

/-- One programme in a house sample: the fade steps and slew counters, then member by member, then the schedule
(R98 to R101, R132). A programme that is FREE or STANDBY does nothing. -/
def Device.workProgramme (d : Device) (n : Ix8) : Device :=
  if d.sounding n then
    let a := d.modProg n fun x =>
      { x with delay := x.delay.advance, stage := x.stage.begin (x.record.state == .stopping) }
    let b := (d.prog n).record.listed.foldl (fun e m => e.workMember n (a.prog n).delay.factor m) a
    b.modProg n Programme.prune
  else d

/-- The converted samples of this house sample enter the paths to source selection (R29). -/
def Device.shiftPaths (d : Device) : Device := { d with ports := d.ports.map Port.shift }

/-- The house sample that H stands on is made: H advances by one, and a step onto a multiple of 4,800 leaves a
sub-block end to be taken before the next one (R7, R8, log 4). -/
def Timebase.advance (t : Timebase) : Timebase :=
  let h := t.h + 1
  { t with h := h, boundary := if onSubBlock h then .due else .none }

/-- The per-sample work of every block, H standing on this house sample's index; then H advances, and the looped lanes
take their frames (R7, logs 10 and 27). -/
def Device.work (d : Device) : Device :=
  let a := forEight d fun e n => e.modGen n fun g => g.sample d.time
  let b := forEight a Device.convertSample
  let c := forEight b Device.countSample
  let e := forEight c Device.workProgramme
  let f := two.foldl Device.checkSample e.shiftPaths.emit
  ({ f with time := f.time.advance } : Device).loopedArrivals d.emitted

/-- What is due before the next house sample, with the sub-block end of the boundary that it stands on (R8). -/
def Device.prepare (d : Device) : Device :=
  let e := d.settle
  if e.boundaryDue then e.takeBoundary.settle else e

/-- One house sample is made. -/
def Device.makeSample (d : Device) : Device := d.prepare.work

/-- A period or an edge, which makes a house sample or is ignored (R6). -/
def Device.pace (d : Device) (p : Pace) : Device :=
  let made := d.time.makes p
  let e : Device := { d with time := d.time.paced p made }
  if made then e.makeSample else e

/-- HOUSE_SAMPLE (R6). A restart that is due is performed first, so that the period or the edge meets the timebase
after the restart (R190, log 16). -/
def Device.houseSample (d : Device) (p : Pace) : Device := d.restartPerformed.pace p

end Sys2Proof.Machine
end

