-- ==== Sys2Proof/Machine/EventCommands.lean ====
section
/-!
DEFINITION. The meanings of the commands that are not host requests, one for each row: what the command makes of
the part. The queue of waiting commands is left to `step`. A command that could find undone what an earlier one left to
be done at once begins with `Device.catchUp` (log 15).
-/

namespace Sys2Proof.Machine

/-- The part changed by an operation; nothing stops the part. -/
def State.update (s : State) (f : Device → Device) : Host.Outcome State Fault Refusal :=
  .next { s with dev := f s.dev }

/-- The part changed by an operation, once all that earlier commands left to be done at once is done (log 15). -/
def State.prompt (s : State) (f : Device → Device) : Host.Outcome State Fault Refusal := s.update fun d => f d.catchUp

/-- POWER_ON_RESET (R19, R41, R58, R89, R109, R110, R128, R163, R192). -/
def execPowerOnReset (s : State) : Host.Outcome State Fault Refusal := s.update (fun _ => Device.reset)

/-- LINE_RESET (R192; log 19). -/
def execLineReset (s : State) : Host.Outcome State Fault Refusal := s.update Device.lineReset

/-- HOUSE_SAMPLE (R6, R7). -/
def execHouseSample (pace : Pace) (s : State) : Host.Outcome State Fault Refusal :=
  s.update (fun d => d.houseSample pace)

/-- SUB_BLOCK_END (R8). -/
def execSubBlockEnd (s : State) : Host.Outcome State Fault Refusal := s.prompt Device.subBlockEnd

/-- SECOND_BOUNDARY (R8). -/
def execSecondBoundary (s : State) : Host.Outcome State Fault Refusal := s.prompt Device.secondBoundary

/-- PRESENCE_WINDOW_END (R5). -/
def execPresenceWindowEnd (s : State) : Host.Outcome State Fault Refusal := s.prompt Device.presenceWindowEnd

/-- FRAME_ARRIVAL (R9 to R12). -/
def execFrameArrival (p : Ix8) (f : LaneInput) (s : State) : Host.Outcome State Fault Refusal :=
  s.prompt (fun d => d.frameArrival p f)

/-- LANE_DARK_TIMEOUT (R10). -/
def execLaneDarkTimeout (p : Ix8) (s : State) : Host.Outcome State Fault Refusal :=
  s.prompt (fun d => d.laneDark p)

/-- INTERVAL_END (R23 to R27). -/
def execIntervalEnd (p : Ix8) (s : State) : Host.Outcome State Fault Refusal :=
  s.prompt (fun d => d.intervalEnd p)

/-- LOCK_COUNT_EXPIRY (R27). -/
def execLockCountExpiry (p : Ix8) (s : State) : Host.Outcome State Fault Refusal :=
  s.prompt (fun d => d.lockCountExpiry p)

/-- UNDERRUN_WAIT_END (R32). -/
def execUnderrunWaitEnd (p : Ix8) (s : State) : Host.Outcome State Fault Refusal :=
  s.prompt (fun d => d.underrunWaitEnd p)

/-- CONVERTER_FADE_IN_END (R30). -/
def execConverterFadeInEnd (p : Ix8) (s : State) : Host.Outcome State Fault Refusal :=
  s.prompt (fun d => d.converterFadeInEnd p)

/-- HOLDOVER_FADE_OUT_END (R36). -/
def execHoldoverFadeOutEnd (p : Ix8) (s : State) : Host.Outcome State Fault Refusal :=
  s.prompt (fun d => d.holdoverFadeOutEnd p)

/-- HOLDOVER_REFILL_END (R37). -/
def execHoldoverRefillEnd (p : Ix8) (s : State) : Host.Outcome State Fault Refusal :=
  s.prompt (fun d => d.holdoverRefillEnd p)

/-- HOLDOVER_TIMER_EXPIRY (R37). -/
def execHoldoverTimerExpiry (p : Ix8) (s : State) : Host.Outcome State Fault Refusal :=
  s.prompt (fun d => d.holdoverTimerExpiry p)

/-- CROSSFADE_START (R65). -/
def execCrossfadeStart (n : Ix8) (s : State) : Host.Outcome State Fault Refusal :=
  s.prompt (fun d => d.crossfadeStart n)

/-- CROSSFADE_COMPLETION (R67). -/
def execCrossfadeCompletion (n : Ix8) (s : State) : Host.Outcome State Fault Refusal :=
  s.prompt (fun d => d.crossfadeCompletion n)

/-- RETURN_TIMER_EXPIRY (R70). -/
def execReturnTimerExpiry (n : Ix8) (s : State) : Host.Outcome State Fault Refusal :=
  s.update (fun d => d.returnExpiry n)

/-- GRANT (R82, R84). -/
def execGrant (s : State) : Host.Outcome State Fault Refusal := s.update Device.grant

/-- SLEW_ACTION (R98). -/
def execSlewAction (n m : Ix8) (s : State) : Host.Outcome State Fault Refusal :=
  s.prompt (fun d => d.slewAction n m)

/-- FADE_OUT_END (R99, R100). -/
def execFadeOutEnd (n : Ix8) (s : State) : Host.Outcome State Fault Refusal :=
  s.prompt (fun d => d.fadeOutEnd n)

/-- FREEZE_END (R100). -/
def execFreezeEnd (n m : Ix8) (s : State) : Host.Outcome State Fault Refusal :=
  s.prompt (fun d => d.freezeEnd n m)

/-- GAP_END (R100, R101). -/
def execGapEnd (n : Ix8) (s : State) : Host.Outcome State Fault Refusal := s.prompt (fun d => d.gapEnd n)

/-- FADE_IN_END (R101, R103). -/
def execFadeInEnd (n : Ix8) (s : State) : Host.Outcome State Fault Refusal :=
  s.prompt (fun d => d.fadeInEnd n)

/-- STOP_FADE_END (R54). -/
def execStopFadeEnd (n : Ix8) (s : State) : Host.Outcome State Fault Refusal :=
  s.prompt (fun d => d.stopFadeEnd n)

/-- APPLIED_GAIN_RAMP_END (R134). -/
def execAppliedGainRampEnd (n m : Ix8) (s : State) : Host.Outcome State Fault Refusal :=
  s.prompt (fun d => d.appliedGainRampEnd n m)

/-- TRIM_RAMP_END (R135). -/
def execTrimRampEnd (n : Ix8) (s : State) : Host.Outcome State Fault Refusal :=
  s.prompt (fun d => d.trimRampEnd n)

/-- CHECKER_SYNC (R170). -/
def execCheckerSync (c : Ix2) (s : State) : Host.Outcome State Fault Refusal :=
  s.update (fun d => d.checkerSync c)

/-- CHECKER_LOSS (R171). -/
def execCheckerLoss (c : Ix2) (s : State) : Host.Outcome State Fault Refusal :=
  s.update (fun d => d.checkerLoss c)

/-- SET_TIMER_EXPIRY (R146, R148, R69). -/
def execSetTimerExpiry (k : Qualified) (i : Ix8) (s : State) : Host.Outcome State Fault Refusal :=
  s.update (fun d => d.setTimerExpiry k i)

/-- CLEAR_TIMER_EXPIRY (R146, R148). -/
def execClearTimerExpiry (k : Qualified) (i : Ix8) (s : State) : Host.Outcome State Fault Refusal :=
  s.update (fun d => d.clearTimerExpiry k i)

/-- FRAME_RECEIVED (R179, R180). -/
def execFrameReceived (body : List Byte) (crc : BitVec 16) (s : State) : Host.Outcome State Fault Refusal :=
  s.update (fun d => d.frameReceived body crc)

/-- INTER_BYTE_TIMEOUT (R178). -/
def execInterByteTimeout (s : State) : Host.Outcome State Fault Refusal :=
  s.update (fun d => d.modLink Link.timeout)

/-- TRANSMIT_LINE_FREE (R184). -/
def execTransmitLineFree (s : State) : Host.Outcome State Fault Refusal := s.update Device.transmitLineFree

/-- RESTART_PERFORMED (R190). -/
def execRestartPerformed (s : State) : Host.Outcome State Fault Refusal := s.update Device.restartPerformed

/-- RECEIVED_BYTE (R176, R178). -/
def execReceivedByte (byte : Byte) (stopLow : Bool) (s : State) : Host.Outcome State Fault Refusal :=
  s.update (fun d => d.receiveByte byte stopLow)

end Sys2Proof.Machine
end

