-- ==== Sys2Proof/Machine/RequestCommands.lean ====
section
/-!
DEFINITION. The meanings of the host requests, one for each row: that request's frame completes on the control
line, and the executor takes it where it can (R179 to R181, log 14).
-/

namespace Sys2Proof.Machine

/-- The frame of a request completes (R180, R181). -/
def State.request (s : State) (tag : Byte) (r : Request) : Host.Outcome State Fault Refusal :=
  s.update fun d => d.requestFrame (requestBody tag r)

/-- UNKNOWN_TYPE (R181). -/
def execUnknownType (type tag : Byte) (fields : List Byte) (s : State) : Host.Outcome State Fault Refusal :=
  s.update (fun d => d.requestFrame (type :: tag :: fields))

/-- IDENT (R188). -/
def execIdent (tag : Byte) (s : State) : Host.Outcome State Fault Refusal := s.request tag .ident

/-- START (R189). -/
def execStart (tag poolCode refMode : Byte) (s : State) : Host.Outcome State Fault Refusal :=
  s.request tag (.start poolCode refMode)

/-- RESTART (R190). -/
def execRestart (tag : Byte) (s : State) : Host.Outcome State Fault Refusal := s.request tag .restart

/-- STATUS (R191). -/
def execStatus (tag : Byte) (s : State) : Host.Outcome State Fault Refusal := s.request tag .status

/-- PORT (R15 to R17). -/
def execPort (tag p enable source lane : Byte) (s : State) : Host.Outcome State Fault Refusal :=
  s.request tag (.port p enable source lane)

/-- PORTQ (R18). -/
def execPortq (tag p : Byte) (s : State) : Host.Outcome State Fault Refusal := s.request tag (.portq p)

/-- DEFINE (R45 to R47). -/
def execDefine (tag programme mode : Byte) (members : List MemberField) (s : State) :
    Host.Outcome State Fault Refusal :=
  s.request tag (.define programme mode members)

/-- SETUP (R48, R49). -/
def execSetup (tag programme : Byte) (flags : BitVec 24) (block : SettingsBlock) (s : State) :
    Host.Outcome State Fault Refusal :=
  s.request tag (.setup programme flags block)

/-- RUN (R50, R51). -/
def execRun (tag programme : Byte) (s : State) : Host.Outcome State Fault Refusal :=
  s.request tag (.run programme)

/-- STOP (R52). -/
def execStop (tag programme : Byte) (s : State) : Host.Outcome State Fault Refusal :=
  s.request tag (.stop programme)

/-- DELETE (R55). -/
def execDelete (tag programme : Byte) (s : State) : Host.Outcome State Fault Refusal :=
  s.request tag (.delete programme)

/-- PROGQ (R56). -/
def execProgq (tag programme : Byte) (s : State) : Host.Outcome State Fault Refusal :=
  s.request tag (.progq programme)

/-- SWITCH (R60 to R63). -/
def execSwitch (tag programme target : Byte) (s : State) : Host.Outcome State Fault Refusal :=
  s.request tag (.switch programme target)

/-- LRESET (R121). -/
def execLreset (tag programme : Byte) (s : State) : Host.Outcome State Fault Refusal :=
  s.request tag (.lreset programme)

/-- ROUTE (R140). -/
def execRoute (tag q slot kind n m : Byte) (s : State) : Host.Outcome State Fault Refusal :=
  s.request tag (.route q slot kind n m)

/-- ROUTEQ (R141). -/
def execRouteq (tag : Byte) (s : State) : Host.Outcome State Fault Refusal := s.request tag .routeq

/-- POOLQ (R88). -/
def execPoolq (tag : Byte) (s : State) : Host.Outcome State Fault Refusal := s.request tag .poolq

/-- AMASK (R155). -/
def execAmask (tag kind notify summary : Byte) (s : State) : Host.Outcome State Fault Refusal :=
  s.request tag (.amask kind notify summary)

/-- AQUERY (R158). -/
def execAquery (tag kind number : Byte) (s : State) : Host.Outcome State Fault Refusal :=
  s.request tag (.aquery kind number)

/-- ACLEAR (R159). -/
def execAclear (tag kind number : Byte) (s : State) : Host.Outcome State Fault Refusal :=
  s.request tag (.aclear kind number)

/-- COUNTS (R160). -/
def execCounts (tag : Byte) (s : State) : Host.Outcome State Fault Refusal := s.request tag .counts

/-- METER (R185). -/
def execMeter (tag programmes mode count : Byte) (s : State) : Host.Outcome State Fault Refusal :=
  s.request tag (.meter programmes mode count)

/-- MSTOP (R185). -/
def execMstop (tag programmes : Byte) (s : State) : Host.Outcome State Fault Refusal :=
  s.request tag (.mstop programmes)

/-- TGEN (R168). -/
def execTgen (tag programme on : Byte) (level : BitVec 16) (s : State) : Host.Outcome State Fault Refusal :=
  s.request tag (.tgen programme on level)

/-- TCHECK (R173). -/
def execTcheck (tag checker enable q slot : Byte) (s : State) : Host.Outcome State Fault Refusal :=
  s.request tag (.tcheck checker enable q slot)

/-- TCHECKQ (R175). -/
def execTcheckq (tag checker : Byte) (s : State) : Host.Outcome State Fault Refusal :=
  s.request tag (.tcheckq checker)

end Sys2Proof.Machine
end

