-- ==== Sys2Proof/Machine/Dispatch.lean ====
section
/-!
DEFINITION. The dispatch of the commands: one arm for each constructor of `Instr`, one meaning for each arm.
-/

namespace Sys2Proof.Machine

def exec (i : Instr) (s : State) : Host.Outcome State Fault Refusal :=
  match i with
  | .powerOnReset => Sys2Proof.Machine.execPowerOnReset s
  | .lineReset => Sys2Proof.Machine.execLineReset s
  | .houseSample pace => Sys2Proof.Machine.execHouseSample pace s
  | .subBlockEnd => Sys2Proof.Machine.execSubBlockEnd s
  | .secondBoundary => Sys2Proof.Machine.execSecondBoundary s
  | .presenceWindowEnd => Sys2Proof.Machine.execPresenceWindowEnd s
  | .frameArrival p f => Sys2Proof.Machine.execFrameArrival p f s
  | .laneDarkTimeout p => Sys2Proof.Machine.execLaneDarkTimeout p s
  | .intervalEnd p => Sys2Proof.Machine.execIntervalEnd p s
  | .lockCountExpiry p => Sys2Proof.Machine.execLockCountExpiry p s
  | .underrunWaitEnd p => Sys2Proof.Machine.execUnderrunWaitEnd p s
  | .converterFadeInEnd p => Sys2Proof.Machine.execConverterFadeInEnd p s
  | .holdoverFadeOutEnd p => Sys2Proof.Machine.execHoldoverFadeOutEnd p s
  | .holdoverRefillEnd p => Sys2Proof.Machine.execHoldoverRefillEnd p s
  | .holdoverTimerExpiry p => Sys2Proof.Machine.execHoldoverTimerExpiry p s
  | .crossfadeStart n => Sys2Proof.Machine.execCrossfadeStart n s
  | .crossfadeCompletion n => Sys2Proof.Machine.execCrossfadeCompletion n s
  | .returnTimerExpiry n => Sys2Proof.Machine.execReturnTimerExpiry n s
  | .grant => Sys2Proof.Machine.execGrant s
  | .slewAction n m => Sys2Proof.Machine.execSlewAction n m s
  | .fadeOutEnd n => Sys2Proof.Machine.execFadeOutEnd n s
  | .freezeEnd n m => Sys2Proof.Machine.execFreezeEnd n m s
  | .gapEnd n => Sys2Proof.Machine.execGapEnd n s
  | .fadeInEnd n => Sys2Proof.Machine.execFadeInEnd n s
  | .stopFadeEnd n => Sys2Proof.Machine.execStopFadeEnd n s
  | .appliedGainRampEnd n m => Sys2Proof.Machine.execAppliedGainRampEnd n m s
  | .trimRampEnd n => Sys2Proof.Machine.execTrimRampEnd n s
  | .checkerSync c => Sys2Proof.Machine.execCheckerSync c s
  | .checkerLoss c => Sys2Proof.Machine.execCheckerLoss c s
  | .setTimerExpiry k x => Sys2Proof.Machine.execSetTimerExpiry k x s
  | .clearTimerExpiry k x => Sys2Proof.Machine.execClearTimerExpiry k x s
  | .frameReceived body crc => Sys2Proof.Machine.execFrameReceived body crc s
  | .interByteTimeout => Sys2Proof.Machine.execInterByteTimeout s
  | .transmitLineFree => Sys2Proof.Machine.execTransmitLineFree s
  | .restartPerformed => Sys2Proof.Machine.execRestartPerformed s
  | .unknownType type tag fields => Sys2Proof.Machine.execUnknownType type tag fields s
  | .ident tag => Sys2Proof.Machine.execIdent tag s
  | .start tag poolCode refMode => Sys2Proof.Machine.execStart tag poolCode refMode s
  | .restart tag => Sys2Proof.Machine.execRestart tag s
  | .status tag => Sys2Proof.Machine.execStatus tag s
  | .port tag p enable source lane => Sys2Proof.Machine.execPort tag p enable source lane s
  | .portq tag p => Sys2Proof.Machine.execPortq tag p s
  | .define tag programme mode members => Sys2Proof.Machine.execDefine tag programme mode members s
  | .setup tag programme flags block => Sys2Proof.Machine.execSetup tag programme flags block s
  | .run tag programme => Sys2Proof.Machine.execRun tag programme s
  | .stop tag programme => Sys2Proof.Machine.execStop tag programme s
  | .delete tag programme => Sys2Proof.Machine.execDelete tag programme s
  | .progq tag programme => Sys2Proof.Machine.execProgq tag programme s
  | .switch tag programme target => Sys2Proof.Machine.execSwitch tag programme target s
  | .lreset tag programme => Sys2Proof.Machine.execLreset tag programme s
  | .route tag q slot kind n m => Sys2Proof.Machine.execRoute tag q slot kind n m s
  | .routeq tag => Sys2Proof.Machine.execRouteq tag s
  | .poolq tag => Sys2Proof.Machine.execPoolq tag s
  | .amask tag kind notify summary => Sys2Proof.Machine.execAmask tag kind notify summary s
  | .aquery tag kind number => Sys2Proof.Machine.execAquery tag kind number s
  | .aclear tag kind number => Sys2Proof.Machine.execAclear tag kind number s
  | .counts tag => Sys2Proof.Machine.execCounts tag s
  | .meter tag programmes mode count => Sys2Proof.Machine.execMeter tag programmes mode count s
  | .mstop tag programmes => Sys2Proof.Machine.execMstop tag programmes s
  | .tgen tag programme on level => Sys2Proof.Machine.execTgen tag programme on level s
  | .tcheck tag checker enable q slot => Sys2Proof.Machine.execTcheck tag checker enable q slot s
  | .tcheckq tag checker => Sys2Proof.Machine.execTcheckq tag checker s
  | .receivedByte byte stopLow => Sys2Proof.Machine.execReceivedByte byte stopLow s

end Sys2Proof.Machine
end

