-- ==== Sys2Proof/WellFormed.lean ====
section
/-!
DEFINITION. Which commands are well formed: those that the line and the tables can carry (Tables 11-1, 11-5 and
11-6). Every other bound of an operand is in its type or is a check of the request's own rule.
-/

namespace Sys2Proof

/-- A control frame's body holds 2 to 250 bytes (Table 11-1). -/
def fitsFrame (length : Nat) : Bool := decide (2 ≤ length) && decide (length ≤ 250)

/-- A command is well formed. -/
def Instr.wellFormed : Instr → Bool
  | .frameReceived body _ => fitsFrame body.length
  | .unknownType type _ fields => (Machine.typeOf type).isNone && fitsFrame (fields.length + 2)
  | .define _ _ _ members => fitsFrame (5 + 3 * members.length)
  | .powerOnReset | .lineReset | .houseSample _ | .subBlockEnd | .secondBoundary | .presenceWindowEnd => true
  | .frameArrival _ _ | .laneDarkTimeout _ | .intervalEnd _ | .lockCountExpiry _ | .underrunWaitEnd _ => true
  | .converterFadeInEnd _ | .holdoverFadeOutEnd _ | .holdoverRefillEnd _ | .holdoverTimerExpiry _ => true
  | .crossfadeStart _ | .crossfadeCompletion _ | .returnTimerExpiry _ | .grant | .slewAction _ _ => true
  | .fadeOutEnd _ | .freezeEnd _ _ | .gapEnd _ | .fadeInEnd _ | .stopFadeEnd _ | .appliedGainRampEnd _ _ => true
  | .trimRampEnd _ | .checkerSync _ | .checkerLoss _ | .setTimerExpiry _ _ | .clearTimerExpiry _ _ => true
  | .interByteTimeout | .transmitLineFree | .restartPerformed | .ident _ | .start _ _ _ | .restart _ => true
  | .status _ | .port _ _ _ _ _ | .portq _ _ | .setup _ _ _ _ | .run _ _ | .stop _ _ | .delete _ _ => true
  | .progq _ _ | .switch _ _ _ | .lreset _ _ | .route _ _ _ _ _ _ | .routeq _ | .poolq _ => true
  | .amask _ _ _ _ | .aquery _ _ _ | .aclear _ _ _ | .counts _ | .meter _ _ _ _ | .mstop _ _ => true
  | .tgen _ _ _ _ | .tcheck _ _ _ _ _ | .tcheckq _ _ | .receivedByte _ _ => true

end Sys2Proof
end

