-- ==== Sys2Proof/Safety.lean ====
section
/-!
DEFINITION. What counts as a sound state of the part, in the terms that statements use: nine invariants, a part with
nothing left to be done at once, and the control link at rest with the reply that a request leaves there.
-/

namespace Sys2Proof.Machine

/-! ## Invariants -/

/-- The ALM pin stands as the latches and the summary enables say (R156). -/
def Device.pinSound (d : Device) : Prop := d.alarms.pin = pinLevel d.alarms.records d.alarms.masks

/-- Every active condition has its seen-latch set (R146). -/
def Device.latchSound (d : Device) : Prop :=
  ∀ a : Alarm, (d.alarms.get a).active = true → (d.alarms.get a).latch = true

/-- REF_LOSS is active exactly in HOLDING (Table 1-1), and in CONFIG the timebase is INTERNAL (R163, R188). -/
def Device.refLossSound (d : Device) : Prop :=
  ((d.alarms.get .refLoss).active = true ↔ d.time.state = .holding) ∧
    (d.link.part = .config → d.time.state = .internal)

/-- The request queue holds at most 4 frames, and the reply list at most 4 BUSY replies and one reply of an executed
request (R180, R183). -/
def Device.linkSound (d : Device) : Prop :=
  d.link.queue.length ≤ 4 ∧ d.link.busyCount ≤ 4 ∧ (d.link.replies.filter fun r => r.executed).length ≤ 1

/-- No frame waits that the executor could take: the request queue is empty, or the line is busy and the reply of an
executed request waits or a RESTART is under way, or a restart is due (R181, R184, R190). -/
def Device.linkServed (d : Device) : Prop :=
  d.link.queue = [] ∨ (d.link.line.isSome = true ∧ d.link.ready = false) ∨ d.link.restart = .due

/-- While a RESTART awaits its reply's end, that reply is on the line or in the reply list (R190). -/
def Device.restartSound (d : Device) : Prop :=
  d.link.restart = .awaiting →
    (∃ x, d.link.line = some x ∧ x.isRestart = true) ∨ ∃ r ∈ d.link.replies, r.isRestart = true

/-- The block numbers of the free list and of every line's two lists. -/
def Device.blocks (d : Device) : List Nat := d.pool.free ++ eight.flatMap d.allBlocks

/-- The blocks on the free list and those that the lines hold are the P blocks, each once, and in CONFIG there is
none (R74, R76). -/
def Device.blocksSound (d : Device) : Prop :=
  d.blocks.Perm (List.range d.pool.size) ∧ (d.link.part = .config → d.pool.size = 0)

/-- The delay memory is in canonical form. -/
def Device.memorySound (d : Device) : Prop := d.mem.wf = true

/-- The marks that one command leaves for the next are such as the rules leave them: that of a timer at its limit
stands on a qualified condition, a set mark while it is inactive and a clear mark while it is active (R148), and a
return is due only where the selection is BACKUP (R70; log 24). -/
def Device.marksSound (d : Device) : Prop :=
  (∀ a, (d.alarms.get a).expiry = .none ∨ ((∃ k i, a = qualifiedAlarm k i) ∧
    ((d.alarms.get a).expiry = .set → (d.alarms.get a).active = false) ∧
    ((d.alarms.get a).expiry = .clear → (d.alarms.get a).active = true))) ∧
  ∀ n, (d.prog n).ctx.returnDue = true → (d.prog n).ctx.selection = .backup

/-- The marks of what stands before the next house sample are such as the rules leave them: that of a boundary stands
on a multiple of 4,800 (R8, log 4), and that of a test passed only in PENDING (R65, log 48). -/
def Device.opensSound (d : Device) : Prop :=
  (d.time.boundary ≠ .none → d.time.h.toNat % 4800 = 0) ∧
    ∀ n, (d.prog n).ctx.startDue = true → (d.prog n).ctx.state = .pending

/-- A sound state meets every invariant. -/
structure State.Sound (s : State) : Prop where
  pin : s.dev.pinSound
  latch : s.dev.latchSound
  marks : s.dev.marksSound
  opens : s.dev.opensSound
  refLoss : s.dev.refLossSound
  link : s.dev.linkSound
  served : s.dev.linkServed
  restart : s.dev.restartSound
  blocks : s.dev.blocksSound
  memory : s.dev.memorySound

/-! ## Nothing left to be done at once (log 15) -/

/-- No checker's change of state waits, no timer stands at its limit, no return is due and no grant notice waits
(logs 23, 24 and 42). -/
def Device.finished (d : Device) : Prop :=
  (∀ i, ((d.checkers.get i).state = .hunt → (d.checkers.get i).correctRun < 48) ∧
    ((d.checkers.get i).state = .sync → (d.checkers.get i).window.count true < 8)) ∧
  (∀ a, (d.alarms.get a).expiry = .none) ∧ (∀ n, (d.prog n).ctx.returnDue = false) ∧ d.pool.notices = []

/-- The part is finished, the arbiter has nothing to take (the line is busy or awaits a restart, or no reply, notice
and report waits), and the executor has nothing to take. -/
def Device.calm (d : Device) : Prop :=
  d.finished ∧
    (d.link.line.isSome = true ∨ d.link.restart = .due ∨
      (d.link.replies = [] ∧ d.alarms.queue = [] ∧ d.link.firstReport = none)) ∧
    (d.link.queue = [] ∨ d.link.ready = false)

/-! ## The control link at rest and held, and a reply -/

/-- No frame is in assembly, no request and no reply waits, no RESTART is under way, the arbiter has nothing to take
(the line is busy, or no notice and no report waits), and the part is finished. -/
def Device.linkQuiet (d : Device) : Prop :=
  d.link.assembler = .awaitStart ∧ d.link.queue = [] ∧ d.link.replies = [] ∧ d.link.restart = .none ∧
    (d.link.line.isSome = true ∨ (d.alarms.queue = [] ∧ d.link.firstReport = none)) ∧ d.finished

/-- The line is busy and the reply list holds the reply of an executed request, or a RESTART is under way: neither
the arbiter nor the executor takes anything (R181, R184); and the part is finished. -/
def Device.linkHeld (d : Device) : Prop := d.link.line.isSome = true ∧ d.link.ready = false ∧ d.finished

/-- The part is in RUN and its link is at rest. -/
def Device.readyInRun (d : Device) : Prop := d.linkQuiet ∧ d.link.part = .run

/-- The reply of an executed request that is no RESTART. -/
def executedReply (type tag : Byte) (status : Status) (segments : List (List Byte)) : Reply :=
  { type := type, tag := tag, status := status, segments := segments, executed := true, isRestart := false }

/-- An OK reply of one segment. -/
def okReply (type tag : Byte) (fields : List Byte) : Reply := executedReply type tag .ok [fields]

/-- A REFUSED reply: the header alone. -/
def refusedReply (type tag : Byte) (r : Reason) : Reply := executedReply type tag (.refused r) [[]]

/-- The state with the part become `e` and one reply in the reply list, where it stands until the link is next looked
at (log 15). -/
def State.answered (s : State) (e : Device) (r : Reply) : State :=
  { s with dev := { e with link := { e.link with replies := [r] } } }

/-! ## House samples -/

/-- A period or an edge that makes a house sample (R6): a period of the oscillator outside EXTERNAL, in EXTERNAL one
of one and a half or, while the oscillator paces, of one; and an edge at REF in EXTERNAL, half a period or more after
the last. Times are in thousandths of a period (log 8). -/
def Timebase.takes (t : Timebase) (pace : Pace) : Prop :=
  ∃ x, (pace = .oscillator x ∧ 1000 ≤ x ∧ (t.state ≠ .external ∨ t.oscillatorPaced = true)) ∨
    (pace = .oscillator x ∧ 1500 ≤ x) ∨ (pace = .refEdge x ∧ 500 ≤ x ∧ t.state = .external)

/-- The part as the work of a house sample finds it: everything due before that house sample is done, and H is its
index (R8, logs 2 and 4). -/
def Device.opened (d : Device) (pace : Pace) : Device :=
  ({ d with time := d.time.paced pace true } : Device).prepare

/-- A line passes its input straight through: it is empty and no change is in progress for it (R91). -/
def Device.passes (d : Device) (n m : Ix8) : Prop :=
  (d.line n m).d = 0 ∧ (d.line n m).change = .steady ∧ (d.prog n).delay.fade = .none

/-! ## A frame at a converter -/

/-- No event of a converter's own is due before a further frame (R23, R27, R32, R36, R37). -/
def Converter.undisturbed (c : Converter) : Prop :=
  c.ended = none ∧ (c.underrunWait = true → c.fifo.length < 32) ∧ (c.state = .settle → c.lockCount < 4) ∧
    (c.state = .holdover → c.fade ≠ .fadeOut 0 ∧ (c.fade = .none → c.fifo.length < 32))

/-- A frame counts toward the estimator interval at a phase-counter reading, the FIFO standing as given: it starts an
interval where none runs, and the 4,096th after a start ends it and starts the next (R23). -/
def Converter.counting (c : Converter) (fifo : List InputFrame) (now : Nat) : Converter :=
  match c.interval with
  | none => { c with fifo := fifo, reading := now, interval := some { start := now, count := 0 } }
  | some i =>
    if i.count + 1 < 4096 then
      { c with fifo := fifo, reading := now, interval := some { start := i.start, count := i.count + 1 } }
    else
      { c with
        fifo := fifo, reading := now, interval := some { start := now, count := 0 }
        ended := some { tInt := (now + 2 ^ 56 - i.start) % 2 ^ 56, fObs := fifo.length } }

/-- A frame offered to a converter that it does not overrun (R21, R23, R36, R37). -/
def Converter.offering (c : Converter) (frame : InputFrame) (now : Nat) : Converter :=
  let joined := c.fifo ++ [frame]
  let newest := joined.drop (joined.length - 32)
  match c.state with
  | .off => c
  | .seek => { c with fifo := newest, reading := now }
  | .measure => c.counting newest now
  | .settle | .locked => c.counting joined now
  | .holdover => if c.fade = .none then { c with fifo := joined, reading := now } else { c with reading := now }

/-- A converter whose lane leaves FRAMED (R35, R37). -/
def Converter.losing (c : Converter) : Converter :=
  let seeking : Converter := { c with
    state := .seek, fifo := [], interval := none, ended := none, history := List.replicate 16 ⟨0, 0, 0, 0⟩
    fade := .none, starved := false, underrunWait := false, lockCount := 0, throughout := false }
  match c.state with
  | .off | .seek => c
  | .measure | .settle => seeking
  | .locked => { c with
      state := .holdover, holdTimer := 0, interval := none, ended := none, starved := false, throughout := false
      fade := .fadeOut (match c.fade with
        | .fadeIn k _ => k
        | .none | .fadeOut _ => 64) }
  | .holdover => if c.holdTimer = 48000 then seeking else { c with fifo := [] }

/-! ## The samples of a line -/

/-- The word of the delay memory that holds the sample at place `i` of a line, the head being place 0 (R92). -/
def Line.wordAt (l : Line) (i : Nat) : Nat :=
  blockWord (l.inUse.getD ((l.headPos + i) / 1024) 0) ((l.headPos + i) % 1024)

/-- A line's blocks are distinct, its in-use blocks are those its samples reach, and one further sample has a
place. -/
def Line.Sound (l : Line) : Prop :=
  l.headPos < 1024 ∧ (l.inUse ++ l.spare).Nodup ∧ l.inUse.length = (l.headPos + l.d + 1023) / 1024 ∧
    ((l.headPos + l.d) / 1024 < l.inUse.length ∨ l.spare ≠ [])

/-! ## Requests as Tables 11-5 and 9-1 name them -/

/-- The body length that Table 11-5 gives a request type; the count of a DEFINE is the third byte of its fields. -/
def tableLength (t : ReqType) (fields : List Byte) : Nat :=
  match t with
  | .ident | .restart | .status | .routeq | .poolq | .counts => 2
  | .portq | .run | .stop | .delete | .progq | .lreset | .mstop | .tcheckq => 3
  | .start | .switch | .aquery | .aclear => 4
  | .amask | .meter => 5
  | .port | .tgen | .tcheck => 6
  | .route => 7
  | .setup => 41
  | .define => 5 + 3 * (byteAt fields 2).toNat

/-- The instances that a kind code and an instance number name, by their own codes and numbers, 0xFF standing for
every one (R157). -/
def namedBy (kind number : Byte) : List Alarm :=
  allAlarms.filter fun a =>
    (kind == 0xFF || a.kind.code == kind.toNat) && (number == 0xFF || a.number == number.toNat)

/-- A kind code and an instance number are a selection (R157). -/
def isSelection (kind number : Byte) : Prop := (kind = 0xFF → number = 0xFF) ∧ namedBy kind number ≠ []

/-- A source byte and a lane byte of a PORT name a lane source (Table 11-11). -/
def namesLaneSource (source lane : Byte) (l : LaneSource) : Prop :=
  (source = 0 ∧ l = .pins) ∨ (source = 1 ∧ ∃ q : Ix8, lane = byteOf q.val ∧ l = .loop q)

/-- The sources that the members of a list name, primary and backup (R46). -/
def sourcesNamed (l : List Member) : List Source := l.flatMap fun m => m.primary :: m.backup.toList

/-- R46: the members of a DEFINE name no source twice, and none that a member of another programme holds, nor, under
APPEND, one that a present member of the programme itself holds. -/
def Device.mayName (d : Device) (n : Ix8) (append : Bool) (given : List Member) : Prop :=
  (sourcesNamed given).Nodup ∧
    ∀ k : Ix8, k ≠ n ∨ append = true → ∀ x ∈ sourcesNamed given, x ∉ sourcesNamed (d.prog k).record.members

/-- The numeric fields of a SETUP, a flag counting as 0 or 1: its presence flag, the value carried, and its range
(Tables 3-4 and 11-7a). -/
def numericFields (b : SettingsBlock) : List (Nat × Int × Int × Int) :=
  [(0, b.delayTarget.toInt, 0, 480000), (2, b.loudnessTarget.toInt, -400, -100), (3, b.maxBoost.toInt, 0, 120),
    (4, b.maxCut.toInt, 0, 200), (5, b.slew.toInt, 1, 100), (6, b.trim.toInt, -2000, 2000),
    (7, b.resetOnChangeover.toNat, 0, 1), (9, b.gapLevel.toInt, -700, -300), (10, b.holdLimit.toInt, 0, 100),
    (11, b.returnTime.toInt, 5, 600), (12, b.silenceLevel.toInt, -800, -300), (13, b.silenceSetTime.toInt, 1, 300),
    (14, b.silenceClearTime.toInt, 1, 60), (15, b.loudnessWindow.toInt, 5, 100), (16, b.loudnessTime.toInt, 1, 60),
    (17, b.overLevel.toInt, -60, 0)]

/-- Every present field of a SETUP lies in its range (R48). -/
def fieldsInRange (f : BitVec 24) (b : SettingsBlock) : Prop :=
  ∀ x ∈ numericFields b, f.getLsbD x.1 = true → x.2.2.1 ≤ x.2.1 ∧ x.2.1 ≤ x.2.2.2

/-- The settings that a SETUP leaves: each present field clamped into its range, the others kept (R48, Table 3-4). The
byte of reset-on-changeover is read unsigned, the model's choice (log 50). -/
def Settings.storing (o : Settings) (f : BitVec 24) (b : SettingsBlock) (loud : LoudMode) (change : ChangeMode) :
    Settings :=
  let num := fun (i : Nat) (old v lo hi : Int) => if f.getLsbD i then max lo (min hi v) else old
  { delayTarget := num 0 o.delayTarget b.delayTarget.toInt 0 480000
    loudnessMode := if f.getLsbD 1 then loud else o.loudnessMode
    loudnessTarget := num 2 o.loudnessTarget b.loudnessTarget.toInt (-400) (-100)
    maxBoost := num 3 o.maxBoost b.maxBoost.toInt 0 120
    maxCut := num 4 o.maxCut b.maxCut.toInt 0 200
    slew := num 5 o.slew b.slew.toInt 1 100
    trim := num 6 o.trim b.trim.toInt (-2000) 2000
    resetOnChangeover := if f.getLsbD 7 then decide (1 ≤ b.resetOnChangeover.toNat) else o.resetOnChangeover
    changeoverMode := if f.getLsbD 8 then change else o.changeoverMode
    gapLevel := num 9 o.gapLevel b.gapLevel.toInt (-700) (-300)
    holdLimit := num 10 o.holdLimit b.holdLimit.toInt 0 100
    returnTime := num 11 o.returnTime b.returnTime.toInt 5 600
    silenceLevel := num 12 o.silenceLevel b.silenceLevel.toInt (-800) (-300)
    silenceSetTime := num 13 o.silenceSetTime b.silenceSetTime.toInt 1 300
    silenceClearTime := num 14 o.silenceClearTime b.silenceClearTime.toInt 1 60
    loudnessWindow := num 15 o.loudnessWindow b.loudnessWindow.toInt 5 100
    loudnessTime := num 16 o.loudnessTime b.loudnessTime.toInt 1 60
    overLevel := num 17 o.overLevel b.overLevel.toInt (-60) 0 }

/-- The mode codes of a SETUP are those of the two modes, where their fields are present (Table 11-7a). -/
def namesModes (f : BitVec 24) (b : SettingsBlock) (loud : LoudMode) (change : ChangeMode) : Prop :=
  (f.getLsbD 1 = true → b.loudnessMode = loudCode loud) ∧ (f.getLsbD 8 = true → b.changeoverMode = changeCode change)

/-- The required length of a member on a source, before it is cut to whole samples from 0 to 480,000 (R90). -/
def Device.required (d : Device) (target : Int) (x : Source) : Int :=
  max 0 (min 480000 (target - ((d.port x.port).conv.lc : Int) - 24))

/-- The block need of a length: none for 0, else one block more than its samples fill (R77). -/
def needOf (length : Nat) : Nat := if length = 0 then 0 else (length + 1023) / 1024 + 1

/-- The source that a side gives a member (R59). -/
def Member.on (z : Member) (side : Selection) : Source :=
  match side, z.backup with
  | .backup, some b => b
  | _, _ => z.primary

/-- The count of a bin in the list of the bins whose count is not 0 (R119). -/
def binCount (bins : List (Nat × Nat)) (k : Nat) : Nat :=
  match bins.find? fun b => b.1 == k with
  | some b => b.2
  | none => 0

/-- The code of a value that a row of Table 11-14 counts from 0 in the order of a list. -/
def codeIn {α : Type} [BEq α] (l : List α) (x : α) : Byte := byteOf (l.idxOf x)

/-- The kind code, the instance number and the class of an instance (Tables 9-1, 11-10 and 11-13). -/
def alarmCodes : Alarm → List Byte
  | .unlock p => [0, byteOf p.val, 0]
  | .rateRange p => [1, byteOf p.val, 0]
  | .slip p => [2, byteOf p.val, 1]
  | .silence n => [3, byteOf n.val, 0]
  | .loudHigh n => [4, byteOf n.val, 0]
  | .loudLow n => [5, byteOf n.val, 0]
  | .delayShort n => [6, byteOf n.val, 0]
  | .overEvent n => [7, byteOf n.val, 1]
  | .changeover n => [8, byteOf n.val, 1]
  | .checkLoss c => [9, byteOf c.val, 0]
  | .refLoss => [10, 0, 0]

/-- A source in one byte (R193). -/
def sourceByte (q : Source) : Byte := byteOf (4 * q.port.val + q.slot.val)

/-- The three bytes of a DEFINE that give a member (Table 11-6). -/
def namesMember (f : MemberField) (z : Member) : Prop :=
  f.role = codeIn [Role.front, .surround, .low] z.role ∧ f.primary = sourceByte z.primary ∧
    f.backup = match z.backup with
      | some q => sourceByte q
      | none => 0xFF

/-- The notice queue after a change or an occurrence of an instance that leaves it the record `t`: a notice at the
tail, or the pending one brought up to date in its place, where the kind has notify enabled (R153). -/
def AlarmUnit.queued (u : AlarmUnit) (a : Alarm) (t : AlarmRecord) : List Notice :=
  if (u.masks.get a.kind).notify = true then
    if (u.get a).noticed = true then
      u.queue.map fun q =>
        if q.alarm = a then
          { alarm := a, active := t.active, count := t.count, time := t.time, changes := min (q.changes + 1) 255 }
        else q
    else u.queue ++ [{ alarm := a, active := t.active, count := t.count, time := t.time, changes := 1 }]
  else u.queue

/-! ## What a recalculation leaves (R95) -/

/-- The target length of a member under a mode, from its required length and its occupancy (R95). -/
def aimed (mode : RecalcMode) (required d : Nat) : Nat :=
  match mode with
  | .exact => required
  | .deadband => if 2 ≤ max required d - min required d then required else d

/-- The required length of a member of a programme, by the delay target and the current source in force (R90). -/
def Device.requiredOf (d : Device) (n : Ix8) (z : Member) : Nat :=
  (d.required (d.prog n).record.settings.delayTarget (z.on (d.prog n).ctx.selection)).toNat

/-- The members of a programme hold the blocks that a recalculation in a mode calls for, and no request of it waits
(R96). -/
def Device.meets (d : Device) (n : Ix8) (mode : RecalcMode) : Prop :=
  d.hasEntry n = false ∧ (d.prog n).record.members.length ≤ 8 ∧
    ∀ (m : Ix8) (z : Member), (d.prog n).record.members[m.val]? = some z →
      needOf (aimed mode (d.requiredOf n z) (d.line n m).d) ≤ (d.line n m).held

/-- What a recalculation leaves of a programme with no change in progress whose members hold their needs: the lengths,
T_lines, and no change with DELAY_SHORT inactive, slews, or a programme fade (R90, R95 to R99, R105). -/
def Device.recalculated (d e : Device) (n : Ix8) (mode : RecalcMode) (host : Bool) : Prop :=
  let x := d.prog n
  let y := e.prog n
  let target := x.record.settings.delayTarget
  let aim := fun (m : Ix8) (z : Member) => aimed mode (d.requiredOf n z) (d.line n m).d
  let moves := fun (m : Ix8) (z : Member) => max (aim m z) (d.line n m).d - min (aim m z) (d.line n m).d
  let listed := fun (m : Ix8) (z : Member) => x.record.members[m.val]? = some z
  let differs := ∃ m z, listed m z ∧ moves m z ≠ 0
  let far := (∃ m z, listed m z ∧ 48 < moves m z) ∨ (host = true ∧ 48 < (target - x.delay.tLines).natAbs)
  y.delay.tLines = target ∧ y.delay.pending = x.delay.pending ∧ y.delay.gapLength = x.delay.gapLength ∧
  (∀ m z, listed m z →
    let l := e.line n m
    l.dReq = d.requiredOf n z ∧ l.dNew = aim m z ∧ l.d = (d.line n m).d ∧ l.inUse = (d.line n m).inUse ∧
    l.clamped = false ∧
    (l.underDelay = true ↔
      target < ((d.port (z.on x.ctx.selection).port).conv.lc : Int) + 24) ∧
    (differs → far → l.change = .wait) ∧
    (differs → ¬ far → l.slewCounter = 0 ∧ l.remaining = moves m z ∧
      l.change = if (d.line n m).d < aim m z then .slewUp else if aim m z < (d.line n m).d then .slewDown else .steady) ∧
    (¬ differs → l.change = .steady)) ∧
  (differs → far → y.delay.fade = .fadeOut ∧ y.delay.fadeStep = 0) ∧
  (¬ (differs ∧ far) → y.delay.fade = .none ∧ y.delay.fadeStep = x.delay.fadeStep) ∧
  (¬ differs → (e.alarms.get (.delayShort n)).active = false) ∧
  (differs → e.alarms.get (.delayShort n) = d.alarms.get (.delayShort n))

/-- A map entry is a MEMBER of a programme at a position from `first` on. -/
def isMemberFrom (n : Ix8) (first : Nat) (e : MapEntry) : Prop := ∃ m : Ix8, e = .member n m ∧ first ≤ m.val

end Sys2Proof.Machine

namespace Sys2Proof

/-- The tag and the request that a command carries, for the commands that are requests of Table 11-5. -/
def Instr.request : Instr → Option (Byte × Request)
  | .ident t => some (t, .ident)
  | .start t a b => some (t, .start a b)
  | .restart t => some (t, .restart)
  | .status t => some (t, .status)
  | .port t a b c e => some (t, .port a b c e)
  | .portq t a => some (t, .portq a)
  | .define t a b ms => some (t, .define a b ms)
  | .setup t a f x => some (t, .setup a f x)
  | .run t a => some (t, .run a)
  | .stop t a => some (t, .stop a)
  | .delete t a => some (t, .delete a)
  | .progq t a => some (t, .progq a)
  | .switch t a b => some (t, .switch a b)
  | .lreset t a => some (t, .lreset a)
  | .route t a b c e f => some (t, .route a b c e f)
  | .routeq t => some (t, .routeq)
  | .poolq t => some (t, .poolq)
  | .amask t a b c => some (t, .amask a b c)
  | .aquery t a b => some (t, .aquery a b)
  | .aclear t a b => some (t, .aclear a b)
  | .counts t => some (t, .counts)
  | .meter t a b c => some (t, .meter a b c)
  | .mstop t a => some (t, .mstop a)
  | .tgen t a b v => some (t, .tgen a b v)
  | .tcheck t a b c e => some (t, .tcheck a b c e)
  | .tcheckq t a => some (t, .tcheckq a)
  | .powerOnReset | .lineReset | .houseSample _ | .subBlockEnd | .secondBoundary | .presenceWindowEnd => none
  | .frameArrival _ _ | .laneDarkTimeout _ | .intervalEnd _ | .lockCountExpiry _ | .underrunWaitEnd _ => none
  | .converterFadeInEnd _ | .holdoverFadeOutEnd _ | .holdoverRefillEnd _ | .holdoverTimerExpiry _ => none
  | .crossfadeStart _ | .crossfadeCompletion _ | .returnTimerExpiry _ | .grant | .slewAction _ _ => none
  | .fadeOutEnd _ | .freezeEnd _ _ | .gapEnd _ | .fadeInEnd _ | .stopFadeEnd _ | .appliedGainRampEnd _ _ => none
  | .trimRampEnd _ | .checkerSync _ | .checkerLoss _ | .setTimerExpiry _ _ | .clearTimerExpiry _ _ => none
  | .frameReceived _ _ | .interByteTimeout | .transmitLineFree | .restartPerformed | .unknownType _ _ _ => none
  | .receivedByte _ _ => none

/-- The commands that begin with what earlier ones left to be done at once (log 15): every command but the resets, the
house sample, the rows that are themselves a part of it, a byte, the time limit, the performed restart, and a frame
whose CRC does not match. -/
def Instr.catchesUp : Instr → Bool
  | .powerOnReset | .lineReset | .houseSample _ | .returnTimerExpiry _ | .grant | .setTimerExpiry _ _ => false
  | .checkerSync _ | .checkerLoss _ | .clearTimerExpiry _ _ | .interByteTimeout => false
  | .restartPerformed | .receivedByte _ _ => false
  | .transmitLineFree => true
  | .frameReceived body crc => crc == Machine.frameCrc body
  | .subBlockEnd | .secondBoundary | .presenceWindowEnd | .frameArrival _ _ | .laneDarkTimeout _ => true
  | .intervalEnd _ | .lockCountExpiry _ | .underrunWaitEnd _ | .converterFadeInEnd _ | .holdoverFadeOutEnd _ => true
  | .holdoverRefillEnd _ | .holdoverTimerExpiry _ | .crossfadeStart _ | .crossfadeCompletion _ => true
  | .slewAction _ _ | .fadeOutEnd _ | .freezeEnd _ _ | .gapEnd _ | .fadeInEnd _ | .stopFadeEnd _ => true
  | .appliedGainRampEnd _ _ | .trimRampEnd _ | .unknownType _ _ _ => true
  | .ident _ | .start _ _ _ | .restart _ | .status _ | .port _ _ _ _ _ | .portq _ _ | .define _ _ _ _ => true
  | .setup _ _ _ _ | .run _ _ | .stop _ _ | .delete _ _ | .progq _ _ | .switch _ _ _ | .lreset _ _ => true
  | .route _ _ _ _ _ _ | .routeq _ | .poolq _ | .amask _ _ _ _ | .aquery _ _ _ | .aclear _ _ _ => true
  | .counts _ | .meter _ _ _ _ | .mstop _ _ | .tgen _ _ _ _ | .tcheck _ _ _ _ _ | .tcheckq _ _ => true

end Sys2Proof
end

