-- ==== Sys2Proof/Certificates/Slice0/Obligations.lean ====
section
/-!
DEFINITION. The statements for the provers. Each says what a command or the part does by the rules of spec/; the
commands' meanings, their frames and where they complete are said by equations with the next state.
-/

open Sys2Proof Sys2Proof.Machine

/-! ## One step, frames and bytes -/

/-- A step carries out the command at the front of the queue and leaves the rest waiting. That the part idles on an
empty queue, and that a request row stands for the completion of that request's frame with a good CRC, whatever the
link is doing, are the model's choices (logs 3 and 14). -/
def Obligations.StepRunsTheFrontCommand : Prop :=
  (∀ (c : Instr) (rest : List Instr) (d : Device),
    step { pending := c :: rest, dev := d } = exec c { pending := rest, dev := d }) ∧
  (∀ d : Device, step { pending := [], dev := d } = .next { pending := [], dev := d }) ∧
  ∀ (i : Instr) (tag : Byte) (r : Request) (s : State), i.request = some (tag, r) →
    exec i s = exec (.frameReceived (requestBody tag r) (frameCrc (requestBody tag r))) s

/-- R70, R84, R148, R170, R171, R184: what the rules bring about at once, and an earlier command has left (a checker's
change of state, a timer or a return at its limit, a grant notice, the choice of the arbiter on an idle line), is done
before every command that could find the difference; a part with nothing of the kind left is as it is. And what each
of these becomes: e is the part once the checkers, the timers, the returns and the notices are done with. That it is
done with the next such command, and that a test passed at an entry into PENDING stands as a mark until the crossfade
starts, are the model's choices (logs 15, 23, 24, 42 and 48). -/
def Obligations.CommandsFindNothingLeftUndone : Prop :=
  ∀ s : State, s.dev.marksSound →
    s.dev.pool.notices = [] ∨ (s.dev.pool.notices.length = 1 ∧ s.dev.pool.queue = []) →
    let d := s.dev
    let e := d.finish
    let now := d.time.seconds
    let notified := fun (a : Alarm) => (d.alarms.get a).noticed || (d.alarms.masks.get a.kind).notify
    let asks := fun (n : Ix8) =>
      let x := d.prog n
      x.record.state = .active ∧ x.record.settings.changeoverMode ≠ .manual ∧ x.ctx.selection = .primary ∧
        x.ctx.state = .idle ∧ x.ctx.backupHealthy = true ∧
        ((d.alarms.get (.silence n)).expiry = .set ∨
          ∃ z ∈ x.record.members, (d.alarms.get (.unlock z.primary.port)).expiry = .set)
    let returns := fun (n : Ix8) =>
      (d.prog n).ctx.returnDue = true ∧ (d.prog n).record.state = .active ∧ (d.prog n).ctx.state = .idle
    e.finished ∧ exec .transmitLineFree s = exec .transmitLineFree { s with dev := e } ∧
    (d.finished → e = d) ∧ (d.calm → d.catchUp = d) ∧
    (d.linkServed →
      d.catchUp.calm ∧ ∀ c : Instr, c.catchesUp = true → c.wellFormed = true →
        exec c s = exec c { s with dev := d.catchUp }) ∧
    (∀ i : Ix2,
      let c := d.checkers.get i
      let r := d.alarms.get (.checkLoss i)
      let t := e.alarms.get (.checkLoss i)
      (c.state = .hunt → 48 ≤ c.correctRun →
        e.checkers.get i = { c with state := .sync, window := List.replicate 48 false } ∧ t.active = false ∧
        t.latch = r.latch ∧ t.count = r.count) ∧
      (c.state = .sync → 8 ≤ c.window.count true →
        e.checkers.get i =
          { c with state := .hunt, loadCount := 0, correctRun := 0, window := [], delay := none } ∧
        t.active = true ∧ (r.active = false → t.latch = true ∧ t.count = addSat r.count 1 ∧ t.time = now)) ∧
      ((c.state = .hunt → c.correctRun < 48) → (c.state = .sync → c.window.count true < 8) →
        e.checkers.get i = c ∧ t = r)) ∧
    (∀ (k : Qualified) (i : Ix8),
      let r := d.alarms.get (qualifiedAlarm k i)
      e.alarms.get (qualifiedAlarm k i) = match r.expiry with
        | .none => r
        | .set =>
          { active := true, latch := true, count := addSat r.count 1, setTimer := 0, clearTimer := 0, time := now,
            noticed := notified (qualifiedAlarm k i), expiry := .none }
        | .clear =>
          { r with active := false, setTimer := 0, clearTimer := 0, time := now,
                   noticed := notified (qualifiedAlarm k i), expiry := .none }) ∧
    (∀ n : Ix8,
      let x := d.prog n
      e.prog n = { x with ctx := (e.prog n).ctx, delay := (e.prog n).delay } ∧
      (asks n → (e.prog n).ctx =
        { x.ctx with
          state := .pending, target := some (.backup, .auto), holdTimer := 0
          startDue := decide (x.ctx.quiet = 960 ∨ x.record.settings.holdLimit ≤ 0) }) ∧
      (returns n → (e.prog n).ctx =
        { x.ctx with
          state := .pending, target := some (.primary, .auto), holdTimer := 0, returnTimer := 0,
          returnDue := false
          startDue := decide (x.ctx.quiet = 960 ∨ x.record.settings.holdLimit ≤ 0) }) ∧
      (¬ asks n → ¬ returns n → (e.prog n).ctx = { x.ctx with returnDue := false }) ∧
      (d.link.slots.get n = none → e.link.slots.get n = none) ∧
      ∀ r, d.link.slots.get n = some r → ∃ q, e.link.slots.get n = some q ∧ q = { r with ctx := q.ctx } ∧
        (asks n ∨ returns n → d.time.boundary = .taken → r.h = d.time.h → q.ctx = .pending)) ∧
    (d.pool.notices = [] → e.pool = d.pool ∧ ∀ n, (e.prog n).delay = (d.prog n).delay) ∧
    (∀ g, d.pool.notices = [g] →
      let n := g.prog
      let x := d.prog n
      (∀ k, k ≠ n → (e.prog k).delay = (d.prog k).delay) ∧
      (x.record.state ≠ .active → e.pool = { d.pool with notices := [] } ∧ (e.prog n).delay = x.delay) ∧
      (x.record.state = .active →
        (∀ (m : Ix8) (z : Member), x.record.members[m.val]? = some z → (e.line n m).dReq = d.requiredOf n z) ∧
        (d.changing n = true →
          (e.prog n).delay.pending = some { mode := .exact, host := x.delay.pending.elim false PendingRecalc.host } ∧
          (e.prog n).delay.fade = x.delay.fade ∧ (e.prog n).delay.tLines = x.delay.tLines ∧
          ∀ m, (e.line n m).d = (d.line n m).d ∧ (e.line n m).dNew = (d.line n m).dNew ∧
            (e.line n m).change = (d.line n m).change) ∧
        (d.changing n = false → d.meets n .exact → d.recalculated e n .exact false))) ∧
    (e.time = d.time ∧ e.ports = d.ports ∧ e.mem = d.mem ∧ e.map = d.map ∧ e.formed = d.formed ∧
      e.emitted = d.emitted ∧ e.link = { d.link with slots := e.link.slots }) ∧
    (d.link.queue = [] → d.link.line.isSome = true ∨ d.link.restart = .due → d.catchUp = e) ∧
    (d.link.queue = [] → d.link.line = none → d.link.restart ≠ .due →
      (∀ r rest, d.link.replies = r :: rest → d.catchUp =
        { e with link := { e.link with
            replies := rest, line := some { frames := r.bodies.map frameOf, isRestart := r.isRestart } } }) ∧
      (∀ q rest, d.link.replies = [] → e.alarms.queue = q :: rest → d.catchUp =
        { e with
          alarms := e.alarms.dropNotice q.alarm
          link := { e.link with line := some { frames := [frameOf q.body], isRestart := false } } }) ∧
      (∀ (n : Ix8) (r : Report), d.link.replies = [] → e.alarms.queue = [] → e.link.slots.get n = some r →
        (∀ k : Ix8, k < n → e.link.slots.get k = none) → d.catchUp =
          { e with link := { e.link with
              slots := e.link.slots.set n none
              line := some { frames := [frameOf r.body], isRestart := false } } }) ∧
      (d.link.replies = [] → e.alarms.queue = [] → (∀ k : Ix8, e.link.slots.get k = none) → d.catchUp = e))

/-- Tables 11-5, 11-6, 11-7a and 11-11: the body of a request reads back as that request with its tag, and every body
that reads as a request is the body of that request. -/
def Obligations.RequestBodiesReadBack : Prop :=
  (∀ (tag : Byte) (r : Request), (∀ n m l, r = .define n m l → l.length ≤ 81) →
      readBody (requestBody tag r) = .ok r ∧ bodyTag (requestBody tag r) = tag) ∧
    ∀ (body : List Byte) (r : Request), 2 ≤ body.length → readBody body = .ok r →
      body = requestBody (bodyTag body) r

/-- R177, R178, Table 11-1: the frame of a body is the start byte, the length, the body and the two bytes of its CRC,
the high one first; the CRC register starts at 0xFFFF and takes the length byte and the body bit by bit, the most
significant bit first. The bytes of a frame received one after another are that frame, whatever its body, bytes of
0xA5 included; and bytes that come before a start byte change nothing. -/
def Obligations.FrameBytesAreTheFrame : Prop :=
  let bits := fun (l : List Byte) => l.flatMap fun b => [7, 6, 5, 4, 3, 2, 1, 0].map fun i => b.getLsbD i
  let taken := fun (r : BitVec 16) (b : Bool) =>
    if (b ^^ r.getLsbD 15) = true then (r <<< 1) ^^^ 0x1021#16 else r <<< 1
  (∀ body : List Byte,
    frameCrc body = (bits (byteOf body.length :: body)).foldl taken 0xFFFF ∧
    frameOf body = [0xA5, byteOf body.length] ++ body ++
      [(frameCrc body).extractLsb' 8 8, (frameCrc body).extractLsb' 0 8]) ∧
  (bits [0x31, 0x32, 0x33, 0x34, 0x35, 0x36, 0x37, 0x38, 0x39]).foldl taken 0xFFFF = 0x29B1 ∧
  (∀ (body : List Byte) (rest : List Instr) (d : Device), fitsFrame body.length = true →
      d.link.assembler = .awaitStart →
      Host.Core.run core (body.length + 4)
          ({ pending := (frameOf body).map (fun b => Instr.receivedByte b false) ++ rest, dev := d } : State) =
        exec (.frameReceived body (frameCrc body)) { pending := rest, dev := d }) ∧
    ∀ (b : Byte) (s : State), s.dev.link.assembler = .awaitStart → b ≠ 0xA5 →
      exec (.receivedByte b false) s = .next s

/-- R176, R178: what a byte does in each state of the receive assembler, apart from the last byte of a frame, and what
the 2 ms limit does. -/
def Obligations.AssemblerTakesBytes : Prop :=
  ∀ (b : Byte) (s : State),
    let put := fun (a : Assembler) => { s with dev := { s.dev with link := { s.dev.link with assembler := a } } }
    let drop : State :=
      { s with dev := { s.dev with link := { s.dev.link with
          assembler := .awaitStart, errors := addSat s.dev.link.errors 1 } } }
    exec .interByteTimeout s = .next (put .awaitStart) ∧
    (s.dev.link.assembler = .awaitStart →
      exec (.receivedByte 0xA5 false) s = .next (put .awaitLength) ∧ exec (.receivedByte b true) s = .next s) ∧
    (s.dev.link.assembler ≠ .awaitStart → exec (.receivedByte b true) s = .next drop) ∧
    (s.dev.link.assembler = .awaitLength →
      (2 ≤ b.toNat ∧ b.toNat ≤ 250 → exec (.receivedByte b false) s = .next (put (.inBody b.toNat []))) ∧
      (b.toNat < 2 ∨ 250 < b.toNat → exec (.receivedByte b false) s = .next drop)) ∧
    (∀ n kept, s.dev.link.assembler = .inBody n kept →
      (kept.length + 1 < n → exec (.receivedByte b false) s = .next (put (.inBody n (kept ++ [b])))) ∧
      (n ≤ kept.length + 1 → exec (.receivedByte b false) s = .next (put (.awaitCheck (kept ++ [b]) none)))) ∧
    ∀ body, s.dev.link.assembler = .awaitCheck body none →
      exec (.receivedByte b false) s = .next (put (.awaitCheck body (some b)))

/-! ## Frames, the request queue and the executor -/

/-- R179, R180: a completed frame whose CRC does not match is discarded and counted; one whose CRC matches is queued
whatever its type and length, and refused for them when it is executed; one that finds the queue full is answered
BUSY, or, with 4 BUSY replies waiting, discarded and counted. That the reply stands in the reply list until the link
is next looked at is the model's choice (log 15). -/
def Obligations.CompletedFramesAreJudgedAndQueued : Prop :=
  ∀ (body : List Byte) (crc : BitVec 16) (s : State), fitsFrame body.length = true →
    let counted : State :=
      { s with dev := { s.dev with link := { s.dev.link with
          errors := addSat s.dev.link.errors 1, assembler := .awaitStart } } }
    (crc ≠ frameCrc body → exec (.frameReceived body crc) s = .next counted) ∧
    (crc = frameCrc body → s.dev.linkHeld → s.dev.link.queue.length < 4 →
      exec (.frameReceived body crc) s = .next
        { s with dev := { s.dev with link := { s.dev.link with
            queue := s.dev.link.queue ++ [body], assembler := .awaitStart } } }) ∧
    (crc = frameCrc body → s.dev.linkHeld → s.dev.link.queue.length = 4 →
      (s.dev.link.busyCount < 4 →
        exec (.frameReceived body crc) s = .next
          { s with dev := { s.dev with link := { s.dev.link with
              assembler := .awaitStart
              replies := s.dev.link.replies ++
                [{ type := replyType (bodyType body), tag := bodyTag body, status := .refused .busy,
                   segments := [[]], executed := false, isRestart := false }] } } }) ∧
      (4 ≤ s.dev.link.busyCount → exec (.frameReceived body crc) s = .next counted)) ∧
    ∀ x, crc = frameCrc body → s.dev.linkQuiet → readBody body = .error x →
      exec (.frameReceived body crc) s =
        .next (s.answered s.dev (refusedReply (replyType (bodyType body)) (bodyTag body) x))

/-- R3, R181, R182: with the link at rest every request is executed at once and leaves one reply, of its own type and
tag; it changes neither H, nor the second count, nor the delay memory, nor what the lanes emit; and a refused request
changes nothing and has the header alone as its reply. That the reply
stands in the reply list, and that a request row is its frame's arrival, are the model's choices (logs 15 and 14). -/
def Obligations.EveryRequestIsAnsweredOnce : Prop :=
  ∀ (i : Instr) (tag : Byte) (r : Request) (s : State), i.request = some (tag, r) → i.wellFormed = true →
    s.dev.linkQuiet →
    ∃ e rep, exec i s = .next (s.answered e rep) ∧
      rep.type = typeCode (requestType r) + 0x80 ∧ rep.tag = tag ∧ rep.executed = true ∧
      e.link.queue = [] ∧ e.time.h = s.dev.time.h ∧ e.time.seconds = s.dev.time.seconds ∧ e.mem = s.dev.mem ∧
      e.formed = s.dev.formed ∧ e.emitted = s.dev.emitted ∧
      ∀ x, rep.status = .refused x → e = s.dev ∧ rep.segments = [[]]

/-- R181, R188: the first three checks of the executor, each refusing without any other effect: the type, the length
of Table 11-5, and the part state. -/
def Obligations.TypeLengthAndPartStateAreChecked : Prop :=
  ∀ s : State, s.dev.linkQuiet →
    (∀ type tag fields, fields.length ≤ 248 → (∀ t, typeCode t ≠ type) →
      exec (.unknownType type tag fields) s = .next (s.answered s.dev
        (refusedReply (if type.toNat < 128 then type + 0x80 else 0xFF) tag .unknownType))) ∧
    (∀ t tag fields, fields.length ≤ 248 → fields.length + 2 ≠ tableLength t fields →
      exec (.frameReceived (typeCode t :: tag :: fields) (frameCrc (typeCode t :: tag :: fields))) s =
        .next (s.answered s.dev (refusedReply (typeCode t + 0x80) tag .badLength))) ∧
    ∀ i tag r, i.request = some (tag, r) → i.wellFormed = true →
      (s.dev.link.part = .config → requestType r ≠ .ident → requestType r ≠ .status → requestType r ≠ .start →
        exec i s = .next (s.answered s.dev (refusedReply (typeCode (requestType r) + 0x80) tag .notStarted))) ∧
      (s.dev.link.part = .run → requestType r = .start →
        exec i s = .next (s.answered s.dev (refusedReply 0x82 tag .wrongState)))

/-- R181 to R184, R187, R190, R193, Tables 11-3, 11-4, 11-9 and 11-10: what the line takes as it comes free: the reply
at the head of the list, else the notice at the head of the notice queue, else the report of the lowest programme,
else nothing; after the RESTART reply it takes nothing. With the reply of an executed request on the line, the
executor takes the next frame of the queue, and its reply joins the list behind the BUSY replies. What waits beside an
idle line counts as on it since it became available, and the command ends it; with nothing there it has no effect
(logs 1 and 15). That after the RESTART reply nothing happens until a further command performs the restart is the
model's choice (log 16). And the bytes that it takes: the header and the fields of each segment of a reply, and the
bodies of notices and reports, every field most significant byte first. -/
def Obligations.FreeLineTakesByPriority : Prop :=
  let bit := fun (b : Bool) => if b = true then (1 : Byte) else 0
  let number := fun (l : List Byte) => l.foldl (fun (a : Nat) b => 256 * a + b.toNat) 0
  (∀ r : Reply, r.bodies.length = r.segments.length ∧
    ∀ (i : Nat) (g : List Byte), r.segments[i]? = some g → r.bodies[i]? = some
      ([r.type, r.tag] ++
        (match r.status with
          | .ok => [0, 0]
          | .clamped => [1, 0]
          | .refused x => [2, 1 + codeIn [Reason.unknownType, .badLength, .badValue, .notStarted, .wrongState,
              .sourceInUse, .noSuchProg, .listFull, .noBackup, .busy] x]) ++
        [if i + 1 = r.segments.length then byteOf i + 0x80 else byteOf i] ++ g)) ∧
  (∀ q : Notice, q.body = [0x7E, 0] ++ alarmCodes q.alarm ++ [bit q.active] ++ put16 q.count ++
    [byteOf q.changes] ++ put32 q.time) ∧
  (∀ r : Report, r.body = [0x7F, 0, byteOf r.prog.val] ++ put48 r.h ++
    [bit r.momentary.isSome + 2 * bit r.shortTerm.isSome + 4 * bit r.integrated.isSome] ++
    int16 (r.momentary.getD 0) ++ int16 (r.shortTerm.getD 0) ++ int16 (r.integrated.getD 0) ++ int16 r.g ++
    [codeIn [Selection.primary, .backup] r.selection, codeIn [Origin.host, .auto] r.selectedBy,
      codeIn [CtxState.idle, .pending, .fading] r.ctx,
      bit r.delayShort + 2 * bit r.changing + 4 * bit r.underDelay, bit r.overrun + 2 * bit r.last,
      byteOf r.peaks.length] ++ r.peaks.flatMap int16) ∧
  (∀ x : BitVec 16, (put16 x).length = 2 ∧ number (put16 x) = x.toNat) ∧
  (∀ x : BitVec 32, (put32 x).length = 4 ∧ number (put32 x) = x.toNat) ∧
  (∀ x : BitVec 48, (put48 x).length = 6 ∧ number (put48 x) = x.toNat) ∧
  (∀ v : Int, int16 v = put16 (BitVec.ofInt 16 v) ∧ int32 v = put32 (BitVec.ofInt 32 v)) ∧
  (∀ (s : State) (x : Transmission), s.dev.finished → s.dev.link.line = some x →
    let idle : Device := { s.dev with link := { s.dev.link with line := none } }
    (x.isRestart = true →
      exec .transmitLineFree s = .next
        { s with dev := { idle with link := { idle.link with restart := .due } } }) ∧
    (x.isRestart = false → s.dev.link.queue = [] → s.dev.link.restart ≠ .due →
      (∀ r rest, s.dev.link.replies = r :: rest →
        exec .transmitLineFree s = .next
          { s with dev := { idle with link := { idle.link with
              replies := rest
              line := some { frames := r.bodies.map frameOf, isRestart := r.isRestart } } } }) ∧
      (∀ q rest, s.dev.link.replies = [] → s.dev.alarms.queue = q :: rest →
        exec .transmitLineFree s = .next
          { s with dev := { idle with
              alarms := s.dev.alarms.dropNotice q.alarm
              link := { idle.link with line := some { frames := [frameOf q.body], isRestart := false } } } }) ∧
      (∀ (n : Ix8) (r : Report), s.dev.link.replies = [] → s.dev.alarms.queue = [] →
        s.dev.link.slots.get n = some r → (∀ k : Ix8, k < n → s.dev.link.slots.get k = none) →
        exec .transmitLineFree s = .next
          { s with dev := { idle with link := { idle.link with
              slots := s.dev.link.slots.set n none
              line := some { frames := [frameOf r.body], isRestart := false } } } }) ∧
      (s.dev.link.replies = [] → s.dev.alarms.queue = [] → (∀ k : Ix8, s.dev.link.slots.get k = none) →
        exec .transmitLineFree s = .next { s with dev := idle }))) ∧
  (∀ s : State, s.dev.finished → s.dev.link.line = none →
    let same := fun (d : Device) => exec .transmitLineFree s = exec .transmitLineFree { s with dev := d }
    (s.dev.link.restart ≠ .due →
      (∀ r rest, s.dev.link.replies = r :: rest → same { s.dev with link := { s.dev.link with
        replies := rest, line := some { frames := r.bodies.map frameOf, isRestart := r.isRestart } } }) ∧
      (∀ q rest, s.dev.link.replies = [] → s.dev.alarms.queue = q :: rest → same { s.dev with
        alarms := s.dev.alarms.dropNotice q.alarm
        link := { s.dev.link with line := some { frames := [frameOf q.body], isRestart := false } } }) ∧
      (∀ (n : Ix8) (r : Report), s.dev.link.replies = [] → s.dev.alarms.queue = [] →
        s.dev.link.slots.get n = some r → (∀ k : Ix8, k < n → s.dev.link.slots.get k = none) →
        same { s.dev with link := { s.dev.link with
          slots := s.dev.link.slots.set n none
          line := some { frames := [frameOf r.body], isRestart := false } } })) ∧
    (s.dev.link.queue = [] → s.dev.link.restart = .due ∨ (s.dev.link.replies = [] ∧ s.dev.alarms.queue = [] ∧
        ∀ k : Ix8, s.dev.link.slots.get k = none) →
      exec .transmitLineFree s = .next s)) ∧
  ∀ (s : State) (x : Transmission) (r : Reply) (busy : List Reply) (body : List Byte) (rest : List (List Byte)),
    s.dev.finished → s.dev.link.line = some x → x.isRestart = false → s.dev.link.restart = .none →
    s.dev.link.replies = r :: busy → (∀ b ∈ busy, b.executed = false) → s.dev.link.queue = body :: rest →
    ∃ e rep, exec .transmitLineFree s = .next { s with dev := e } ∧
      e.link.line = some { frames := r.bodies.map frameOf, isRestart := r.isRestart } ∧
      e.link.queue = rest ∧ e.link.replies = busy ++ [rep] ∧ rep.executed = true ∧
      rep.type = replyType (bodyType body) ∧ rep.tag = bodyTag body

/-! ## Identification, status and queries -/

/-- R18, R56, R88, R108, R141, R157, R158, R175, R188, R191, R193, Tables 11-2, 11-7a and 11-12 to 11-14: IDENT and
STATUS are answered in both part states, PORTQ, PROGQ, POOLQ, ROUTEQ, AQUERY and TCHECKQ in RUN for what they name, a
number or a selection that names nothing being refused; none changes anything, and the replies hold the fields of the
tables in their order. That the reply stands in the reply list, and that a request row is its frame's arrival, are the
model's choices (logs 15 and 14), as is the programme that TCHECKQ gives for a checker in HUNT (log 44). -/
def Obligations.QueriesReportAndChangeNothing : Prop :=
  (∀ (s : State) (tag : Byte), s.dev.linkQuiet →
    exec (.ident tag) s =
      .next (s.answered s.dev (okReply 0x81 tag [0x44, 0x32, 0x08, 0x01, 8, 8, 0x10, 0x00])) ∧
    exec (.status tag) s = .next (s.answered s.dev (okReply 0x84 tag
      ([partCode s.dev.link.part, refModeCode s.dev.time.mode, timeCode s.dev.time.state] ++
        put48 s.dev.time.h ++ put32 s.dev.time.seconds ++ nat16 s.dev.pool.size ++
        nat16 s.dev.pool.free.length ++ eight.map (fun n => progCode (s.dev.prog n).record.state) ++
        [if s.dev.alarms.pin then 1 else 0])))) ∧
  ∀ (s : State) (tag : Byte), s.dev.readyInRun →
    let bit := fun (b : Bool) => if b = true then (1 : Byte) else 0
    let port := fun (p : Ix8) =>
      let x := s.dev.port p
      [byteOf p.val, bit x.lane.enabled] ++
        (match x.lane.source with
          | .pins => [0, 0xFF]
          | .loop q => [1, byteOf q.val]) ++
        [codeIn [LaneState.dark, .framing, .framed] x.lane.state,
          codeIn [ConvState.off, .seek, .measure, .settle, .locked, .holdover] x.conv.state] ++
        int32 x.conv.sEst ++ nat16 x.conv.lc ++ [byteOf x.conv.fifo.length] ++ put16 x.lane.invalid ++
        four.flatMap fun k => int16 (x.levels.get k)
    let member := fun (n m : Ix8) => match (s.dev.prog n).record.members[m.val]? with
      | none => []
      | some z =>
        let l := s.dev.line n m
        [codeIn [Role.front, .surround, .low] z.role, sourceByte z.primary, z.backup.elim 0xFF sourceByte] ++
          int32 l.d ++ int32 l.dReq ++ nat16 l.inUse.length ++ nat16 l.spare.length ++
          [codeIn [ChangeState.steady, .slewUp, .slewDown, .wait] l.change, byteOf l.remaining,
            bit l.underDelay + 2 * bit l.clamped]
    let programme := fun (n : Ix8) =>
      let x := s.dev.prog n
      let o := x.record.settings
      [byteOf n.val, codeIn [ProgState.free, .standby, .active, .stopping] x.record.state] ++
        int32 o.delayTarget ++ [codeIn [LoudMode.off, .measure, .correct] o.loudnessMode] ++
        [o.loudnessTarget, o.maxBoost, o.maxCut, o.slew, o.trim].flatMap int16 ++
        [bit o.resetOnChangeover, codeIn [ChangeMode.manual, .auto, .autoReturn] o.changeoverMode] ++
        [o.gapLevel, o.holdLimit, o.returnTime, o.silenceLevel, o.silenceSetTime, o.silenceClearTime,
          o.loudnessWindow, o.loudnessTime, o.overLevel].flatMap int16 ++
        [byteOf x.record.members.length] ++ eight.flatMap (member n) ++
        [codeIn [FadeCtx.none, .fadeOut, .gap, .fadeIn] x.delay.fade] ++ int32 x.delay.fadeStep ++
        int32 x.delay.gapLength ++ int32 x.delay.tLines ++
        [x.delay.pending.elim 0 fun p =>
            1 + codeIn [RecalcMode.deadband, .exact] p.mode + (if p.host = true then 0x80 else 0),
          bit (s.dev.alarms.get (.delayShort n)).active, codeIn [Selection.primary, .backup] x.ctx.selection,
          codeIn [Origin.host, .auto] x.ctx.selectedBy, codeIn [CtxState.idle, .pending, .fading] x.ctx.state] ++
        int16 x.gain.g ++ int32 x.meter.belowGate
    let alarm := fun (a : Alarm) =>
      let r := s.dev.alarms.get a
      alarmCodes a ++ [bit r.active, bit r.latch] ++ put16 r.count ++ nat16 r.setTimer ++ nat16 r.clearTimer ++
        put32 r.time ++ [bit r.noticed]
    (∀ p : Ix8, exec (.portq tag (byteOf p.val)) s =
      .next (s.answered s.dev (okReply 0x91 tag (1 :: port p)))) ∧
    exec (.portq tag 0xFF) s = .next (s.answered s.dev (okReply 0x91 tag (8 :: eight.flatMap port))) ∧
    (∀ n : Ix8, exec (.progq tag (byteOf n.val)) s =
      .next (s.answered s.dev (okReply 0xA5 tag (programme n)))) ∧
    exec (.progq tag 0xFF) s =
      .next (s.answered s.dev (executedReply 0xA5 tag .ok (eight.map programme))) ∧
    exec (.poolq tag) s = .next (s.answered s.dev (okReply 0xC0 tag
      (nat16 s.dev.pool.size ++ nat16 s.dev.pool.free.length ++
        eight.flatMap (fun n => nat16 (s.dev.heldBy n)) ++ [byteOf s.dev.pool.queue.length] ++
        s.dev.pool.queue.flatMap fun e => byteOf e.prog.val :: nat16 e.count))) ∧
    (∀ x : Byte, 7 < x.toNat → x ≠ 0xFF →
      exec (.portq tag x) s = .next (s.answered s.dev (refusedReply 0x91 tag .badValue)) ∧
      exec (.progq tag x) s = .next (s.answered s.dev (refusedReply 0xA5 tag .badValue))) ∧
    (∀ p : Ix8, (port p).length = 23) ∧
    (∀ n : Ix8, (s.dev.prog n).record.members.length ≤ 8 →
      (programme n).length + 5 = 67 + 18 * (s.dev.prog n).record.members.length) ∧
    exec (.routeq tag) s = .next (s.answered s.dev (okReply 0xB1 tag
      (eight.flatMap fun q => four.flatMap fun k => entryBytes ((s.dev.map.get q).get k)))) ∧
    (∀ kind number : Byte, isSelection kind number →
      ∃ segments, exec (.aquery tag kind number) s =
          .next (s.answered s.dev (executedReply 0xD1 tag .ok segments)) ∧
        segments.flatten =
          [if s.dev.alarms.pin then 1 else 0, byteOf (namedBy kind number).length] ++
            (namedBy kind number).flatMap alarm ∧
        ∀ g ∈ segments, g.length + 5 ≤ 250) ∧
    (∀ kind number : Byte, ¬ isSelection kind number →
      exec (.aquery tag kind number) s = .next (s.answered s.dev (refusedReply 0xD1 tag .badValue)) ∧
      exec (.aclear tag kind number) s = .next (s.answered s.dev (refusedReply 0xD2 tag .badValue))) ∧
    let figures := fun (i : Ix2) =>
      let c := s.dev.checkers.get i
      [byteOf i.val, checkCode c.state] ++
        (match c.watched with
          | some w => [byteOf w.1.val, byteOf w.2.val]
          | none => [0xFF, 0xFF]) ++
        [match c.watched.bind fun w => ((s.dev.map.get w.1).get w.2).feeder with
          | some n => byteOf n.val
          | none => 0xFF] ++
        put16 c.errors ++ [byteOf (c.window.count true)] ++
        (match c.delay with
          | some x => 1 :: put48 x
          | none => 0 :: put48 0)
    (∀ i : Ix2, exec (.tcheckq tag (byteOf i.val)) s =
      .next (s.answered s.dev (okReply 0xF2 tag (1 :: figures i)))) ∧
    exec (.tcheckq tag 0xFF) s = .next (s.answered s.dev (okReply 0xF2 tag (2 :: (figures 0 ++ figures 1)))) ∧
    ∀ x : Byte, 1 < x.toNat → x ≠ 0xFF →
      exec (.tcheckq tag x) s = .next (s.answered s.dev (refusedReply 0xF2 tag .badValue))

/-- R141: a ROUTEQ has no fields; carried out, it gives the 32 entries lane by lane and slot by slot, each as its kind
and its numbers, and changes no state. -/
def Obligations.RouteqGivesTheMap : Prop :=
  (∀ tag : Byte, requestBody tag .routeq = [0x31, tag]) ∧
  ∀ d : Device, d.carryOut .routeq = (d, .ok
    (eight.flatMap fun q => four.flatMap fun k => match (d.map.get q).get k with
      | .silence => [0, 0xFF, 0xFF]
      | .member n m => [1, byteOf n.val, byteOf m.val]
      | .test n => [2, byteOf n.val, 0xFF]))

/-- R157: a selection names the instances that its codes give: one instance, every instance of a kind, or all 75; any
other pair of codes is refused with BAD_VALUE, and nothing changes. -/
def Obligations.SelectionsNameInstances : Prop :=
  (∀ a : Alarm, selectAlarms (byteOf a.kind.code) (byteOf a.number) = some [a]) ∧
  (∀ k : Kind, selectAlarms (byteOf k.code) 0xFF = some (allAlarms.filter fun a => a.kind = k)) ∧
  (selectAlarms 0xFF 0xFF = some allAlarms ∧ allAlarms.length = 75 ∧ allAlarms.Nodup ∧ ∀ a : Alarm, a ∈ allAlarms) ∧
  ∀ (d : Device) (kind number : Byte),
    (∀ a : Alarm, ¬ (kind.toNat = a.kind.code ∧ (number.toNat = a.number ∨ number = 0xFF))) →
    ¬ (kind = 0xFF ∧ number = 0xFF) →
    d.carryOut (.aquery kind number) = (d, .refused .badValue) ∧
      d.carryOut (.aclear kind number) = (d, .refused .badValue)

/-! ## START, RESTART and the resets -/

/-- R4, R74, R189, R190: an accepted START forms the pool, stores the reference mode, enters RUN and, with WORD,
stands in HOLDING with REF_LOSS active; a code outside its range refuses it with no effect. RESTART is answered with P
and the reference mode and holds the executor; once its reply is sent the part restarts with P, the reference mode and
the delay memory kept and the pool formed afresh. That the delay memory keeps its contents is the model's choice (log
19). -/
def Obligations.StartAndRestartFormThePool : Prop :=
  (∀ (s : State) (tag code mode : Byte), s.dev.linkQuiet → s.dev.link.part = .config →
      (∀ size m,
        (code = 0 ∧ size = 1024) ∨ (code = 1 ∧ size = 2048) ∨ (code = 2 ∧ size = 4096) →
        (mode = 0 ∧ m = RefMode.word) ∨ (mode = 1 ∧ m = RefMode.internal) →
        exec (.start tag code mode) s = .next (s.answered
          { s.dev with
            pool := { size := size, free := List.range size, queue := [], needs := Oct.fill none, notices := [] }
            time := { s.dev.time with
              mode := some m, state := if m = .word then .holding else .internal, edges := 0,
              oscillatorPaced := false }
            alarms := if m = .word then s.dev.alarms.activate s.dev.time.seconds .refLoss else s.dev.alarms
            link := { s.dev.link with part := .run } }
          (okReply 0x82 tag (nat16 size ++ [mode, if m = .word then 2 else 0])))) ∧
      (2 < code.toNat ∨ 1 < mode.toNat →
        exec (.start tag code mode) s = .next (s.answered s.dev (refusedReply 0x82 tag .badValue)))) ∧
  (∀ (s : State) (tag : Byte), s.dev.readyInRun →
    exec (.restart tag) s = .next (s.answered
      { s.dev with link := { s.dev.link with restart := .awaiting } }
      { okReply 0x83 tag (nat16 s.dev.pool.size ++ [refModeCode s.dev.time.mode]) with isRestart := true })) ∧
  ∀ (s : State) (m : RefMode), s.dev.link.restart = .due → s.dev.time.mode = some m →
    exec .restartPerformed s = .next
      { s with dev :=
          { Device.reset with
            time := { Timebase.reset with mode := some m, state := if m = .word then .holding else .internal }
            pool := { size := s.dev.pool.size, free := List.range s.dev.pool.size, queue := [],
                      needs := Oct.fill none, notices := [] }
            mem := s.dev.mem
            alarms := if m = .word then AlarmUnit.reset.activate 0 .refLoss else AlarmUnit.reset
            link := { Link.reset with part := .run } } }

/-- R192 and the tables of values after reset: what a power-on reset and a line reset leave, table by table, a state
that meets every invariant of this file. That the delay memory keeps its contents over a line reset is the model's
choice (log 19), as are the delay memory listing nothing and the head index, the last marker and the meter's adopted
flag at 0 or clear (logs 18 and 30). -/
def Obligations.ResetsLeaveTheTableValues : Prop :=
  (∀ s : State,
    exec .powerOnReset s = .next { s with dev := State.reset.dev } ∧
    exec .lineReset s = .next { s with dev := { State.reset.dev with mem := s.dev.mem } }) ∧
  let d := State.reset.dev
  let silent : Quad Sample := ⟨0, 0, 0, 0⟩
  (∀ p : Ix8, (d.port p).lane =
      { enabled := false, source := .pins, state := .dark, good := 0, bad := 0, expects := false, lastMarker := 0,
        invalid := 0 } ∧
    (d.port p).conv =
      { state := .off, fifo := [], interval := none, ended := none, reading := 0, sEst := 16777216, sApp := 16777216,
        fraction := 0, history := List.replicate 16 silent, coeffs := .wide, fade := .none, starved := false,
        underrunWait := false, lockCount := 0, holdTimer := 0, lc := 40, throughout := false, slipMark := false,
        output := silent } ∧
    (d.port p).peaks = ⟨0, 0, 0, 0⟩ ∧ (d.port p).levels = ⟨-999, -999, -999, -999⟩ ∧
    (d.port p).path = List.replicate 16 silent) ∧
  (∀ n : Ix8, (d.prog n).record =
      { state := .free, members := []
        settings :=
          { delayTarget := 0, loudnessMode := .measure, loudnessTarget := -230, maxBoost := 60, maxCut := 100,
            slew := 10, trim := 0, resetOnChangeover := false, changeoverMode := .manual, gapLevel := -500,
            holdLimit := 20, returnTime := 30, silenceLevel := -600, silenceSetTime := 10, silenceClearTime := 2,
            loudnessWindow := 30, loudnessTime := 10, overLevel := -10 } } ∧
    (d.prog n).ctx =
      { selection := .primary, selectedBy := .host, state := .idle, target := none, next := none, holdTimer := 0,
        fadeStep := 0, quiet := 0, gapThreshold := 26527, returnTimer := 0, primaryHealthy := false,
        backupHealthy := false, fadeFlag := false, returnDue := false, startDue := false } ∧
    (d.prog n).delay.fade = .none ∧ (d.prog n).delay.fadeStep = 0 ∧ (d.prog n).delay.gapLength = 0 ∧
    (d.prog n).delay.tLines = 0 ∧ (d.prog n).delay.pending = none ∧
    (∀ m : Ix8, d.line n m =
      { inUse := [], spare := [], headPos := 0, d := 0, headIndex := 0, change := .steady, remaining := 0,
        slewCounter := 0, freeze := 0, clamped := false, dReq := 0, underDelay := false, dNew := 0 }) ∧
    (∀ m : Ix8, (d.prog n).meter.members.get m =
      { stage1 := ⟨0, 0, 0, 0⟩, stage2 := ⟨0, 0, 0, 0⟩, energy := 0, peak := 0, level := -999 }) ∧
    (d.prog n).meter.resetFlag = false ∧ (d.prog n).meter.activeThroughout = false ∧ (d.prog n).meter.energies = [] ∧
    (d.prog n).meter.momentary = none ∧ (d.prog n).meter.shortTerm = none ∧ (d.prog n).meter.integrated = none ∧
    (d.prog n).meter.bins = [] ∧ (d.prog n).meter.belowGate = 0 ∧
    (d.prog n).gain = { g := 0, previous := 0, schedule := [] } ∧
    (∀ m : Ix8, (d.prog n).stage.members.get m = { applied := 0, ramp := none, pointer := 0, out := 0 }) ∧
    (d.prog n).stage.trim = 0 ∧ (d.prog n).stage.trimRamp = none ∧ (d.prog n).stage.clips = 0 ∧
    (d.prog n).gen =
      { on := false, level := -200, amplitude := 838861, register := BitVec.allOnes 23, epochs := [], flag := false }) ∧
  (∀ a : Alarm, d.alarms.get a =
    { active := false, latch := false, count := 0, setTimer := 0, clearTimer := 0, time := 0, noticed := false,
      expiry := .none }) ∧
  (∀ k : Kind, d.alarms.masks.get k = ⟨true, true⟩) ∧ d.alarms.pin = false ∧ d.alarms.queue = [] ∧
  (∀ i : Ix2, d.checkers.get i =
    { state := .idle, watched := none, loadCount := 0, register := 0, correctRun := 0, window := [], errors := 0,
      delay := none }) ∧
  (∀ (q : Ix8) (k : Ix4), (d.map.get q).get k = .silence) ∧ d.emitted = none ∧
  d.formed = List.replicate 8 (Oct.fill (Quad.fill ⟨0, false⟩)) ∧
  d.time = { mode := none, state := .internal, h := 0, seconds := 0, edges := 0, oscillatorPaced := false,
             boundary := .none } ∧
  d.pool = { size := 0, free := [], queue := [], needs := Oct.fill none, notices := [] } ∧ d.mem.cells = [] ∧
  d.link = { part := .config, assembler := .awaitStart, errors := 0, queue := [], replies := [], line := none,
             restart := .none, subscriptions := Oct.fill .none, slots := Oct.fill none } ∧
  State.reset.Sound

/-! ## PORT, DEFINE, SETUP -/

/-- R15, R16, R17, R40: PORT disables, enables or re-sources one port, with the converter's clearing, and with nothing
to change has no effect; the estimate and the latency are kept, the sub-block is no longer converting throughout (R38,
R127), and a port, source or lane out of range refuses it. An enable byte above 1 is taken; which of the two it asks
for is a free value (log 17). That UNLOCK is forced before RATE_RANGE is the model's choice (log 41), and so is that a
request which comes between an interval end's arrival and its command drops the measurement that waits (logs 28 and
45). -/
def Obligations.PortSetsEnableAndSource : Prop :=
  ∀ (s : State) (tag src lane : Byte) (p : Ix8) (l : LaneSource), s.dev.readyInRun →
    namesLaneSource src lane l →
    let x := s.dev.port p
    let loop : Byte := match l with
      | .pins => 0xFF
      | .loop q => byteOf q.val
    let cleared : Converter :=
      { x.conv with
        fifo := [], interval := none, ended := none, history := List.replicate 16 ⟨0, 0, 0, 0⟩, fade := .none,
        starved := false, underrunWait := false, lockCount := 0, holdTimer := 0,
        throughout := false }
    let dark : Lane := { x.lane with state := .dark, good := 0, bad := 0, expects := false, source := l }
    (x.lane.enabled = true →
      exec (.port tag (byteOf p.val) 0 src lane) s = .next (s.answered
        { s.dev with
          ports := s.dev.ports.set p
            { x with lane := { dark with enabled := false }, conv := { cleared with state := .off } }
          alarms := (s.dev.alarms.force s.dev.time.seconds (.unlock p)).force s.dev.time.seconds (.rateRange p) }
        (okReply 0x90 tag [byteOf p.val, 0, src, loop, 0]))) ∧
    (x.lane.enabled = false →
      exec (.port tag (byteOf p.val) 0 src lane) s = .next (s.answered
        { s.dev with ports := s.dev.ports.set p { x with lane := { x.lane with source := l } } }
        (okReply 0x90 tag [byteOf p.val, 0, src, loop, convCode x.conv.state]))) ∧
    (x.lane.enabled = false ∨ x.lane.source ≠ l →
      exec (.port tag (byteOf p.val) 1 src lane) s = .next (s.answered
        { s.dev with
          ports := s.dev.ports.set p
            { x with lane := { dark with enabled := true }, conv := { cleared with state := .seek } } }
        (okReply 0x90 tag [byteOf p.val, 1, src, loop, 1]))) ∧
    (x.lane.enabled = true → x.lane.source = l →
      exec (.port tag (byteOf p.val) 1 src lane) s = .next (s.answered s.dev
        (okReply 0x90 tag [byteOf p.val, 1, src, loop, convCode x.conv.state]))) ∧
    (∀ enable : Byte, 1 < enable.toNat →
      exec (.port tag (byteOf p.val) enable src lane) s =
        exec (.port tag (byteOf p.val) (boolByte (Config.portEnable enable)) src lane) s) ∧
    ∀ port enable source q : Byte,
      7 < port.toNat ∨ 1 < source.toNat ∨ (source = 1 ∧ 7 < q.toNat) →
      exec (.port tag port enable source q) s = .next (s.answered s.dev (refusedReply 0x90 tag .badValue))

/-- R45, R46, R47, R139, R174, R193, Table 11-6: the checks of DEFINE in their order, each refusing without any other
effect; and what one that passes them does: it stores the list, puts the record in STANDBY, resets every map entry
that names a position the list does not have, and touches no other programme, port, block or counter. Source
exclusivity is that of `Device.mayName`. That a mode byte above 1 is refused with BAD_VALUE is the model's choice (log
17). -/
def Obligations.DefineChecksAndStoresTheList : Prop :=
  ∀ (s : State) (tag programme mode : Byte) (fields : List MemberField), s.dev.readyInRun → fields.length ≤ 81 →
    (7 < programme.toNat ∨ 1 < mode.toNat ∨ (¬ ∃ given, List.Forall₂ namesMember fields given) →
      exec (.define tag programme mode fields) s =
        .next (s.answered s.dev (refusedReply 0xA0 tag .badValue))) ∧
    ∀ (n : Ix8) (append : Bool) (given : List Member), programme = byteOf n.val → mode = boolByte append →
      List.Forall₂ namesMember fields given →
      let r := (s.dev.prog n).record
      let l := if append then r.members ++ given else given
      (r.state = .active ∨ r.state = .stopping →
        exec (.define tag programme mode fields) s =
          .next (s.answered s.dev (refusedReply 0xA0 tag .wrongState))) ∧
      (r.state = .free ∨ r.state = .standby → 8 < l.length →
        exec (.define tag programme mode fields) s =
          .next (s.answered s.dev (refusedReply 0xA0 tag .listFull))) ∧
      (r.state = .free ∨ r.state = .standby → l.length ≤ 8 → ¬ s.dev.mayName n append given →
        exec (.define tag programme mode fields) s =
          .next (s.answered s.dev (refusedReply 0xA0 tag .sourceInUse))) ∧
      (r.state = .free ∨ r.state = .standby → l.length ≤ 8 → s.dev.mayName n append given →
        ∃ e, exec (.define tag programme mode fields) s =
            .next (s.answered e (okReply 0xA0 tag [byteOf n.val, 1, byteOf l.length])) ∧
          e.progs = s.dev.progs.set n
            { s.dev.prog n with record := { state := .standby, members := l, settings := r.settings } } ∧
          (∀ (q : Ix8) (k : Ix4),
            (isMemberFrom n l.length ((s.dev.map.get q).get k) → (e.map.get q).get k = .silence) ∧
            (¬ isMemberFrom n l.length ((s.dev.map.get q).get k) →
              (e.map.get q).get k = (s.dev.map.get q).get k)) ∧
          (∀ (c : Ix2) (q : Ix8) (k : Ix4), (s.dev.checkers.get c).watched = some (q, k) →
            (isMemberFrom n l.length ((s.dev.map.get q).get k) → (s.dev.checkers.get c).state ≠ .idle →
              (e.checkers.get c).state = .hunt) ∧
            (¬ isMemberFrom n l.length ((s.dev.map.get q).get k) → e.checkers.get c = s.dev.checkers.get c)) ∧
          (∀ a : Alarm, (∀ c, a ≠ .checkLoss c) → e.alarms.get a = s.dev.alarms.get a) ∧
          e.time = s.dev.time ∧ e.ports = s.dev.ports ∧ e.pool = s.dev.pool ∧ e.mem = s.dev.mem ∧
          e.formed = s.dev.formed ∧ e.emitted = s.dev.emitted ∧ e.link = s.dev.link)

/-- R48, R49: a SETUP taken in STANDBY stores each present field clamped into its range, keeps the others and passes
nothing to the other blocks but a stored gap level's threshold (R64). It answers CLAMPED where a present field lies
outside its range, and OK otherwise. That the byte of reset-on-changeover is read unsigned, 0x80 to 0xFF as on, is the
model's choice (log 50). -/
def Obligations.SetupInStandbyStoresSettings : Prop :=
  ∀ (s : State) (tag : Byte) (n : Ix8) (f : BitVec 24) (b : SettingsBlock) (loud : LoudMode) (change : ChangeMode),
    s.dev.readyInRun → (s.dev.prog n).record.state = .standby → namesModes f b loud change →
    let stored := (s.dev.prog n).record.settings.storing f b loud change
    let t := fun (status : Status) => s.answered
      { s.dev with
        progs := s.dev.progs.set n
          { s.dev.prog n with
            record := { (s.dev.prog n).record with settings := stored }
            ctx := { (s.dev.prog n).ctx with
              gapThreshold :=
                if f.getLsbD 9 then amplitudeOf stored.gapLevel else (s.dev.prog n).ctx.gapThreshold } } }
      (executedReply 0xA1 tag status [byteOf n.val :: settingsBytes stored])
    (fieldsInRange f b → exec (.setup tag (byteOf n.val) f b) s = .next (t .ok)) ∧
    (¬ fieldsInRange f b → exec (.setup tag (byteOf n.val) f b) s = .next (t .clamped))

/-- R48, R50, R140: the refusals of SETUP, RUN and ROUTE for a value out of range, and those of SETUP and RUN for the
state of the record, none of which has another effect; and the RUN of an ACTIVE programme, which has none either. That
a value out of range decides where the state of the record would refuse the request too is the model's choice for
SETUP, as is that it decides where the entry of a ROUTE names no member either (log 47). -/
def Obligations.SetupRunAndRouteChecks : Prop :=
  ∀ (s : State) (tag : Byte), s.dev.readyInRun →
    (∀ (x : Byte) (f : BitVec 24) (b : SettingsBlock),
      7 < x.toNat ∨ (f.getLsbD 1 = true ∧ 2 < b.loudnessMode.toNat) ∨
        (f.getLsbD 8 = true ∧ 2 < b.changeoverMode.toNat) →
      exec (.setup tag x f b) s = .next (s.answered s.dev (refusedReply 0xA1 tag .badValue))) ∧
    (∀ (n : Ix8) (f : BitVec 24) (b : SettingsBlock),
      (f.getLsbD 1 = true → b.loudnessMode.toNat ≤ 2) → (f.getLsbD 8 = true → b.changeoverMode.toNat ≤ 2) →
      (s.dev.prog n).record.state = .free ∨ (s.dev.prog n).record.state = .stopping →
      exec (.setup tag (byteOf n.val) f b) s = .next (s.answered s.dev (refusedReply 0xA1 tag .wrongState))) ∧
    (∀ x : Byte, 7 < x.toNat →
      exec (.run tag x) s = .next (s.answered s.dev (refusedReply 0xA2 tag .badValue))) ∧
    (∀ n : Ix8,
      ((s.dev.prog n).record.state = .free ∨ (s.dev.prog n).record.state = .stopping →
        exec (.run tag (byteOf n.val)) s = .next (s.answered s.dev (refusedReply 0xA2 tag .wrongState))) ∧
      ((s.dev.prog n).record.state = .active →
        exec (.run tag (byteOf n.val)) s = .next (s.answered s.dev (okReply 0xA2 tag [byteOf n.val, 2]))) ∧
      ((s.dev.prog n).record.state = .standby → (s.dev.prog n).record.members = [] →
        exec (.run tag (byteOf n.val)) s = .next (s.answered s.dev (refusedReply 0xA2 tag .badValue)))) ∧
    ∀ q k a b c : Byte,
      7 < q.toNat ∨ 3 < k.toNat ∨ 2 < a.toNat ∨ (a ≠ 0 ∧ 7 < b.toNat) ∨ (a = 1 ∧ 7 < c.toNat) →
      exec (.route tag q k a b c) s = .next (s.answered s.dev (refusedReply 0xB0 tag .badValue))

/-- R48, R49, R64, R71, R94, R103, R130, R135: what a SETUP taken in ACTIVE does at once: the settings stored, as in
STANDBY, G clamped into new bounds, a stored gap level's threshold, a new trim reached by a ramp from the trim in
force, and a delay target during a change folded as an EXACT host trigger; a new hold limit is not yet compared with
the hold timer (R71). That a present trim starts its ramp even where it equals the stored one is the model's reading
of R48 and R135 (log 38), and that the byte of reset-on-changeover is read unsigned its choice (log 50). -/
def Obligations.SetupInActiveReachesTheBlocks : Prop :=
  ∀ (s : State) (tag : Byte) (n : Ix8) (f : BitVec 24) (b : SettingsBlock) (loud : LoudMode) (change : ChangeMode),
    s.dev.readyInRun → (s.dev.prog n).record.state = .active → namesModes f b loud change →
    let old := s.dev.prog n
    let stored := old.record.settings.storing f b loud change
    ∃ e status, exec (.setup tag (byteOf n.val) f b) s =
        .next (s.answered e (executedReply 0xA1 tag status [byteOf n.val :: settingsBytes stored])) ∧
      (fieldsInRange f b → status = .ok) ∧ (¬ fieldsInRange f b → status = .clamped) ∧
      let new := e.prog n
      new.record = { old.record with settings := stored } ∧
      new.ctx = { old.ctx with
        gapThreshold := if f.getLsbD 9 then amplitudeOf stored.gapLevel else old.ctx.gapThreshold } ∧
      new.gain = { old.gain with
        g :=
          if f.getLsbD 3 = true ∨ f.getLsbD 4 = true then
            clampInt old.gain.g (-10 * stored.maxCut) (10 * stored.maxBoost)
          else old.gain.g } ∧
      new.stage = { old.stage with
        trimRamp :=
          if f.getLsbD 6 = true then
            some { start := old.stage.trim, target := stored.trim, step := 0 }
          else old.stage.trimRamp } ∧
      (f.getLsbD 0 = true → s.dev.changing n = true →
        new.delay.pending = some { mode := .exact, host := true } ∧ new.delay.fade = old.delay.fade ∧
        new.delay.tLines = old.delay.tLines) ∧
      (f.getLsbD 0 = true → s.dev.changing n = false → stored.delayTarget = old.delay.tLines →
        new.delay = old.delay ∧ e.pool = s.dev.pool) ∧
      (f.getLsbD 0 = false → new.delay = old.delay ∧ e.pool = s.dev.pool) ∧
      new.meter = old.meter ∧ new.gen = old.gen ∧
      (∀ a, a ≠ .delayShort n → e.alarms.get a = s.dev.alarms.get a) ∧
      e.time = s.dev.time ∧ e.ports = s.dev.ports ∧ e.mem = s.dev.mem ∧ e.map = s.dev.map ∧
      e.checkers = s.dev.checkers ∧ e.link = s.dev.link

/-- R78, R82, R83, R90, R93, R95, R96, R97, R98, R99, R105: a SETUP with a delay target that differs from T_lines,
taken in ACTIVE with no change in progress and no request waiting in the pool. With blocks enough free every member
gets its required length as its new length; with too few the programme's request waits, or is granted limited where
even the whole pool is too small, each member that lacks blocks is clamped to what it holds, and DELAY_SHORT is
active. With no member to change, no change starts; otherwise a programme fade starts where a member moves by more
than 48 or the target did, and else each member slews; T_lines takes the target. -/
def Obligations.NewDelayTargetStartsAChange : Prop :=
  ∀ (s : State) (tag : Byte) (n : Ix8) (f : BitVec 24) (b : SettingsBlock) (loud : LoudMode) (change : ChangeMode),
    s.dev.readyInRun → (s.dev.prog n).record.state = .active → namesModes f b loud change →
    f.getLsbD 0 = true → s.dev.changing n = false →
    let x := s.dev.prog n
    let pool := s.dev.pool
    let members := x.record.members
    let target := max 0 (min 480000 b.delayTarget.toInt)
    let line := fun (m : Ix8) => s.dev.line n m
    let req := fun (z : Member) => (s.dev.required target (z.on x.ctx.selection)).toNat
    let listed := fun (m : Ix8) (z : Member) => members[m.val]? = some z
    let short := (eight.map fun m => match members[m.val]? with
      | some z => needOf (req z) - (line m).held
      | none => 0).sum
    let count := min short (pool.size - s.dev.heldBy n)
    let r := s.dev.alarms.get (.delayShort n)
    target ≠ x.delay.tLines → members.length ≤ 8 → pool.queue = [] →
    pool.free.length + s.dev.heldBy n ≤ pool.size →
    ∃ e rep, exec (.setup tag (byteOf n.val) f b) s = .next (s.answered e rep) ∧
      let y := e.prog n
      let held := fun (m : Ix8) => (e.line n m).held
      let new := fun (m : Ix8) (z : Member) => if needOf (req z) ≤ held m then req z else 1024 * (held m - 1)
      let lacks := ∃ m z, listed m z ∧ held m < needOf (req z)
      let moves := fun (m : Ix8) (z : Member) => max (new m z) (line m).d - min (new m z) (line m).d
      let differs := ∃ m z, listed m z ∧ moves m z ≠ 0
      let far := (∃ m z, listed m z ∧ 48 < moves m z) ∨ 48 < (target - x.delay.tLines).natAbs
      y.delay.tLines = target ∧ y.delay.pending = x.delay.pending ∧ y.delay.gapLength = x.delay.gapLength ∧
      (∀ m z, listed m z →
        let l := e.line n m
        l.dReq = req z ∧ l.dNew = new m z ∧ l.d = (line m).d ∧ l.inUse = (line m).inUse ∧
        (l.clamped = true ↔ held m < needOf (req z)) ∧
        (l.underDelay = true ↔ target < ((s.dev.port (z.on x.ctx.selection).port).conv.lc : Int) + 24) ∧
        (differs → far → l.change = .wait) ∧
        (differs → ¬ far → l.slewCounter = 0 ∧ l.remaining = moves m z ∧
          l.change =
            if (line m).d < new m z then .slewUp else if new m z < (line m).d then .slewDown else .steady) ∧
        (¬ differs → l.change = .steady)) ∧
      (differs → far → y.delay.fade = .fadeOut ∧ y.delay.fadeStep = 0) ∧
      (¬ (differs ∧ far) → y.delay.fade = .none ∧ y.delay.fadeStep = x.delay.fadeStep) ∧
      (short ≤ pool.free.length → ¬ lacks ∧ e.pool.queue = []) ∧
      (pool.free.length < short → (∀ m z, listed m z → (line m).d = 0 → (line m).held ≤ needOf (req z)) →
        lacks ∧
        (pool.free.length < count → (∀ m, held m = (line m).held) ∧ e.pool.free = pool.free ∧
          e.pool.queue = [{ prog := n, count := count, limited := decide (count < short) }]) ∧
        (count ≤ pool.free.length → e.heldBy n = s.dev.heldBy n + count ∧ e.pool.free = pool.free.drop count ∧
          e.pool.queue = [])) ∧
      (lacks → let t := e.alarms.get (.delayShort n)
        t.active = true ∧ (r.active = true → t = r) ∧
        (r.active = false → t.latch = true ∧ t.count = addSat r.count 1 ∧ t.time = s.dev.time.seconds)) ∧
      (¬ lacks → ¬ differs → e.pool.queue = [] → (e.alarms.get (.delayShort n)).active = false) ∧
      (¬ lacks → differs → e.alarms = s.dev.alarms) ∧ (∀ k, k ≠ n → e.prog k = s.dev.prog k)

/-! ## RUN, STOP, DELETE -/

/-- R50, R51, R78, R82, R83, R96, R102, R105: a RUN of a STANDBY programme whose lines are empty makes it ACTIVE, sets
the blocks up, and fills each line from 0 to its new length: a freeze of that length inside a GAP of the longest, or a
fade-in at once where every length is 0. With blocks enough in the pool and no request waiting there the new lengths
are the required ones; behind a waiting request, or with too few blocks free, the programme's own request waits at the
tail; and where even the whole pool is too small it is granted limited. A member that lacks blocks is clamped to what
it holds, and DELAY_SHORT is active. That the meter's running-throughout flag is clear is the model's choice (log
40). -/
def Obligations.RunStartsTheInitialFill : Prop :=
  ∀ (s : State) (tag : Byte) (n : Ix8), s.dev.readyInRun →
    let x := s.dev.prog n
    let pool := s.dev.pool
    let need := fun (m : Member) => max 0 (min 480000
      (x.record.settings.delayTarget - ((s.dev.port m.primary.port).conv.lc : Int) - 24))
    let blocks := fun (m : Member) => if need m = 0 then 0 else ((need m).toNat + 1023) / 1024 + 1
    let short := (x.record.members.map blocks).sum
    let count := min short pool.size
    x.record.state = .standby → x.record.members ≠ [] → x.record.members.length ≤ 8 → x.delay = Delay.reset →
    s.dev.hasEntry n = false → (∀ q ∈ pool.queue.head?, pool.free.length < q.count) →
    pool.free.length ≤ pool.size →
    ∃ e, exec (.run tag (byteOf n.val)) s = .next (s.answered e (okReply 0xA2 tag [byteOf n.val, 2])) ∧
      let y := e.prog n
      let held := fun (m : Ix8) => (e.line n m).held
      let listed := fun (m : Ix8) (z : Member) => x.record.members[m.val]? = some z
      let new := fun (m : Ix8) (z : Member) => if blocks z ≤ held m then (need z).toNat else 1024 * (held m - 1)
      let gap := (eight.map fun m => (x.record.members[m.val]?.map (new m)).getD 0).foldl max 0
      let lacks := ∃ m z, listed m z ∧ held m < blocks z
      y.record = { x.record with state := .active } ∧
      y.ctx = { Context.reset with gapThreshold := x.ctx.gapThreshold, fadeFlag := x.ctx.fadeFlag } ∧
      y.meter = { Meter.reset with
        mode := x.record.settings.loudnessMode, resetFlag := x.record.settings.resetOnChangeover } ∧
      y.gain = Gain.reset ∧ y.gen = x.gen ∧
      y.stage = { Stage.reset with trim := x.record.settings.trim, clips := x.stage.clips } ∧
      y.delay.fade = (if gap = 0 then .fadeIn else .gap) ∧ y.delay.fadeStep = 0 ∧ y.delay.gapLength = gap ∧
      y.delay.tLines = x.record.settings.delayTarget ∧ y.delay.pending = none ∧
      (∀ m z, listed m z →
        let l := e.line n m
        l.d = 0 ∧ (l.dReq : Int) = need z ∧ l.dNew = new m z ∧ l.freeze = new m z ∧ l.change = .wait ∧
        (l.clamped = true ↔ held m < blocks z) ∧
        (l.underDelay = true ↔
          x.record.settings.delayTarget < ((s.dev.port z.primary.port).conv.lc : Int) + 24)) ∧
      (pool.queue = [] ∨ short = 0 → short ≤ pool.free.length →
        (∀ m z, listed m z → held m = blocks z) ∧ e.pool.free = pool.free.drop short ∧
        e.pool.queue = pool.queue) ∧
      (pool.queue = [] → pool.free.length < short → count ≤ pool.free.length → lacks ∧
        e.heldBy n = count ∧ e.pool.free = pool.free.drop count ∧ e.pool.queue = []) ∧
      (0 < count → pool.queue ≠ [] ∨ pool.free.length < count → lacks ∧
        (∀ m, held m = 0) ∧ e.pool.free = pool.free ∧
        e.pool.queue = pool.queue ++ [{ prog := n, count := count, limited := decide (count < short) }] ∧
        e.pool.needs.get n = some (x.record.members.map blocks)) ∧
      (∀ k, k ≠ n → e.prog k = s.dev.prog k) ∧
      (∀ a, a ∉ conditionsOf n → e.alarms.get a = s.dev.alarms.get a) ∧
      (∀ a ∈ conditionsOf n,
        let r := s.dev.alarms.get a
        let t := e.alarms.get a
        (a = .delayShort n ∧ r.active = false ∧ lacks → t =
          { active := true, latch := true, count := addSat r.count 1, setTimer := 0, clearTimer := 0,
            time := s.dev.time.seconds, noticed := r.noticed || (s.dev.alarms.masks.get .delayShort).notify,
            expiry := .none }) ∧
        (¬ (a = .delayShort n ∧ r.active = false ∧ lacks) →
          t = { r with setTimer := 0, clearTimer := 0, expiry := .none })) ∧
      e.time = s.dev.time ∧ e.ports = s.dev.ports ∧ e.mem = s.dev.mem ∧ e.map = s.dev.map ∧ e.link = s.dev.link

/-- R52, R72, R80, R107, R126: STOP taken in ACTIVE does its six effects; in STANDBY and STOPPING it has none; in FREE
it is refused, and so is a number above 7. The order in which it forces the four conditions is the model's choice (log
41). -/
def Obligations.StopEntersStopping : Prop :=
  ∀ (s : State) (tag : Byte) (n : Ix8), s.dev.readyInRun →
    (∀ v : Byte, 7 < v.toNat →
      exec (.stop tag v) s = .next (s.answered s.dev (refusedReply 0xA3 tag .badValue))) ∧
    let x := s.dev.prog n
    (x.record.state = .free →
      exec (.stop tag (byteOf n.val)) s = .next (s.answered s.dev (refusedReply 0xA3 tag .wrongState))) ∧
    (x.record.state = .standby ∨ x.record.state = .stopping →
      exec (.stop tag (byteOf n.val)) s =
        .next (s.answered s.dev (okReply 0xA3 tag [byteOf n.val, progCode x.record.state]))) ∧
    (x.record.state = .active →
      ∃ e, exec (.stop tag (byteOf n.val)) s = .next (s.answered e (okReply 0xA3 tag [byteOf n.val, 3])) ∧
        let y := e.prog n
        y.record = { x.record with state := .stopping } ∧
        y.ctx = { x.ctx with
          state := .idle, target := none, next := none, fadeStep := 0, holdTimer := 0, quiet := 0,
          returnTimer := 0, returnDue := false, startDue := false, primaryHealthy := false, backupHealthy := false } ∧
        y.delay.pending = none ∧ y.delay.fade = x.delay.fade ∧ y.gain = x.gain ∧ y.gen = x.gen ∧
        y.meter = { x.meter with activeThroughout := false } ∧ y.stage = { x.stage with stopStep := 0 } ∧
        e.hasEntry n = false ∧ e.pool.needs.get n = none ∧
        (∀ a ∈ conditionsOf n, (e.alarms.get a).active = false ∧ (e.alarms.get a).setTimer = 0 ∧
          (e.alarms.get a).clearTimer = 0 ∧ (e.alarms.get a).count = (s.dev.alarms.get a).count ∧
          (e.alarms.get a).latch = (s.dev.alarms.get a).latch) ∧
        (∀ a, a ∉ conditionsOf n → e.alarms.get a = s.dev.alarms.get a) ∧
        (∀ k, k ≠ n → (e.prog k).record = (s.dev.prog k).record) ∧
        e.time = s.dev.time ∧ e.ports = s.dev.ports ∧ e.mem = s.dev.mem ∧ e.map = s.dev.map ∧
        e.link = s.dev.link)

/-- R55, R58, R126, R162: DELETE taken in STANDBY frees the record with its defaults, context, meter, map entries and
six alarm records, and keeps the clip count; in any other state it is refused, and so is a number above 7. That the
meter's adopted flag and its running-throughout flag are clear then is the model's choice (logs 30 and 40). -/
def Obligations.DeleteFreesTheRecord : Prop :=
  ∀ (s : State) (tag : Byte) (n : Ix8), s.dev.readyInRun →
    (∀ v : Byte, 7 < v.toNat →
      exec (.delete tag v) s = .next (s.answered s.dev (refusedReply 0xA4 tag .badValue))) ∧
    let x := s.dev.prog n
    (x.record.state ≠ .standby →
      exec (.delete tag (byteOf n.val)) s = .next (s.answered s.dev (refusedReply 0xA4 tag .wrongState))) ∧
    (x.record.state = .standby →
      ∃ e, exec (.delete tag (byteOf n.val)) s = .next (s.answered e (okReply 0xA4 tag [byteOf n.val, 0])) ∧
        e.progs = s.dev.progs.set n
          { x with
            record := { state := .free, members := [], settings := Settings.default }
            ctx := Context.reset, meter := Meter.reset } ∧
        (∀ (q : Ix8) (k : Ix4), (e.map.get q).get k =
          match (s.dev.map.get q).get k with
          | .member j m => if j = n then .silence else .member j m
          | .silence => .silence
          | .test j => .test j) ∧
        (∀ a ∈ recordsOf n, e.alarms.get a = AlarmRecord.reset ∧ ∀ q ∈ e.alarms.queue, q.alarm ≠ a) ∧
        (∀ a, a ∉ recordsOf n → (∀ c, a ≠ .checkLoss c) → e.alarms.get a = s.dev.alarms.get a) ∧
        e.time = s.dev.time ∧ e.ports = s.dev.ports ∧ e.pool = s.dev.pool ∧ e.mem = s.dev.mem ∧
        e.link = s.dev.link)

/-! ## SWITCH, LRESET, ROUTE -/

/-- R60, R61, R62, R63, R65, Table 4-2: the checks of SWITCH in their order, none of which has another effect; and
what one that passes them does. In IDLE one to the present side has no effect, and one to the other side makes it the
pending target with origin HOST, the quiet count running on, so that a programme quiet for 960 house samples, or one
whose hold limit is 0, starts its crossfade with the entry into PENDING. In PENDING it cancels the request or becomes
its origin. In FADING it is stored as the next target, whatever its value. That a test passed at
the entry stands as a mark until the crossfade starts, that the reply stands in the reply list, and that a request row
is its frame's arrival, are the model's choices (logs 48, 15 and 14). -/
def Obligations.SwitchChecksAndActsByTheState : Prop :=
  ∀ (s : State) (tag : Byte), s.dev.readyInRun →
    (∀ programme target : Byte, 7 < programme.toNat ∨ 1 < target.toNat →
      exec (.switch tag programme target) s = .next (s.answered s.dev (refusedReply 0xA6 tag .badValue))) ∧
    ∀ (n : Ix8) (side : Selection),
      let x := s.dev.prog n
      let code := fun (t : Selection) => if t = .primary then (0 : Byte) else 1
      let command := Instr.switch tag (byteOf n.val) (code side)
      let host := fun (o : Origin) => if o = .host then (0 : Byte) else 1
      let t := fun (c : Context) => s.answered { s.dev with progs := s.dev.progs.set n { x with ctx := c } }
        (okReply 0xA6 tag ([byteOf n.val, code c.selection, host c.selectedBy,
            match c.state with
            | .idle => 0
            | .pending => 1
            | .fading => 2] ++
          (match c.target with
            | some q => [code q.1, host q.2]
            | none => [0xFF, 0xFF]) ++
          [match c.next with
            | some q => code q
            | none => 0xFF]))
      (x.record.state ≠ .active →
        exec command s = .next (s.answered s.dev (refusedReply 0xA6 tag .wrongState))) ∧
      (x.record.state = .active → (∀ m ∈ x.record.members, m.backup = none) →
        exec command s = .next (s.answered s.dev (refusedReply 0xA6 tag .noBackup))) ∧
      (x.record.state = .active → (∃ m ∈ x.record.members, m.backup ≠ none) →
        (x.ctx.state = .idle → side = x.ctx.selection → exec command s = .next (t x.ctx)) ∧
        (x.ctx.state = .idle → side ≠ x.ctx.selection →
          let pend := { x.ctx with
            state := .pending, target := some (side, .host), holdTimer := 0
            startDue := decide (x.ctx.quiet = 960 ∨ x.record.settings.holdLimit ≤ 0) }
          exec command s = .next (t pend) ∧
          (x.ctx.quiet = 960 ∨ x.record.settings.holdLimit = 0 →
            ∃ u, exec (.crossfadeStart n) (t pend) = .next u ∧
              u.dev.progs = s.dev.progs.set n
                { x with ctx := { pend with state := .fading, startDue := false, fadeStep := 0, fadeFlag := true } })) ∧
        (x.ctx.state = .pending → side = x.ctx.selection →
          exec command s = .next (t { x.ctx with state := .idle, target := none, holdTimer := 0, startDue := false })) ∧
        (x.ctx.state = .pending → side ≠ x.ctx.selection →
          exec command s = .next (t { x.ctx with target := some (side, .host) })) ∧
        (x.ctx.state = .fading → exec command s = .next (t { x.ctx with next := some side })))

/-- R121: an LRESET of a number above 7 is refused with BAD_VALUE and one of a programme that is not ACTIVE with
WRONG_STATE; in ACTIVE, in every running mode, it is taken with status OK and clears the histogram: every bin and the
below-gate count to 0, and I absent; the reply carries the programme number. -/
def Obligations.LresetIsTakenInActive : Prop :=
  (∀ (d : Device) (x : Byte), 7 < x.toNat → d.carryOut (.lreset x) = (d, .refused .badValue)) ∧
  ∀ (d : Device) (n : Ix8),
    ((d.prog n).record.state ≠ .active → d.carryOut (.lreset (byteOf n.val)) = (d, .refused .wrongState)) ∧
    ((d.prog n).record.state = .active →
      ∃ e, d.carryOut (.lreset (byteOf n.val)) = (e, .ok [byteOf n.val]) ∧
        e = { d with progs := d.progs.set n { d.prog n with meter := (e.prog n).meter } } ∧
        (∀ k, binCount (e.prog n).meter.bins k = 0) ∧ (e.prog n).meter.belowGate = 0 ∧
        (e.prog n).meter.integrated = none ∧
        (e.prog n).meter =
          { (d.prog n).meter with
            bins := (e.prog n).meter.bins, belowGate := (e.prog n).meter.belowGate
            integrated := (e.prog n).meter.integrated })

/-- R140, R174: ROUTE stores an entry that exists, and the checkers that watch its slot re-enter HUNT where it
changes; a ROUTE of the entry in force has no effect; the refusals change nothing. -/
def Obligations.RouteStoresTheEntry : Prop :=
  ∀ (s : State) (tag : Byte) (q : Ix8) (k : Ix4) (a b c : Byte) (x : MapEntry), s.dev.readyInRun →
    (a = 0 ∧ x = .silence) ∨ (∃ n m : Ix8, a = 1 ∧ b = byteOf n.val ∧ c = byteOf m.val ∧ x = .member n m) ∨
      (∃ n : Ix8, a = 2 ∧ b = byteOf n.val ∧ x = .test n) →
    let exists_ := ∀ n m : Ix8, x = .member n m →
      (s.dev.prog n).record.state ≠ .free ∧ m.val < (s.dev.prog n).record.members.length
    let old := (s.dev.map.get q).get k
    (¬ exists_ → exec (.route tag (byteOf q.val) (byteOf k.val) a b c) s =
      .next (s.answered s.dev (refusedReply 0xB0 tag .noSuchProg))) ∧
    (exists_ → x = old → exec (.route tag (byteOf q.val) (byteOf k.val) a b c) s =
      .next (s.answered s.dev (okReply 0xB0 tag ([byteOf q.val, byteOf k.val] ++ entryBytes x)))) ∧
    (exists_ → x ≠ old → ∃ e, exec (.route tag (byteOf q.val) (byteOf k.val) a b c) s =
        .next (s.answered e (okReply 0xB0 tag ([byteOf q.val, byteOf k.val] ++ entryBytes x))) ∧
      e = { s.dev with
        map := s.dev.map.set q ((s.dev.map.get q).set k x), checkers := e.checkers, alarms := e.alarms } ∧
      ∀ i : Ix2,
        let w := s.dev.checkers.get i
        (w.watched = some (q, k) ∧ w.state ≠ .idle → e.checkers.get i =
          { w with state := .hunt, loadCount := 0, correctRun := 0, window := [], delay := none }) ∧
        (w.watched ≠ some (q, k) ∨ w.state = .idle → e.checkers.get i = w) ∧
        (w.watched = some (q, k) ∧ w.state = .sync → (e.alarms.get (.checkLoss i)).active = true))

/-! ## AMASK, ACLEAR, COUNTS, METER, MSTOP, TGEN, TCHECK -/

/-- R155, R156, R159: AMASK sets both enables of the kinds it names, drops the pending notices of those it disables,
and the pin follows at once. ACLEAR clears the latches of the instances it names, but for the active conditions, and
the pin follows; its reply counts the latches cleared and those kept. -/
def Obligations.AmaskAndAclearActOnTheSelected : Prop :=
  (∀ (s : State) (tag kind : Byte) (notify summary : Bool), s.dev.readyInRun → kind.toNat ≤ 10 ∨ kind = 0xFF →
      let named := fun (k : Kind) => kind = 0xFF ∨ k.code = kind.toNat
      ∃ u, exec (.amask tag kind (boolByte notify) (boolByte summary)) s = .next (s.answered { s.dev with alarms := u }
          (okReply 0xD0 tag (allKinds.map (fun k =>
            (if (u.masks.get k).notify then 1 else 0) + (if (u.masks.get k).summary then 2 else 0)) ++
            [if u.pin then 1 else 0]))) ∧
        (∀ k, (named k → u.masks.get k = ⟨notify, summary⟩) ∧ (¬ named k → u.masks.get k = s.dev.alarms.masks.get k)) ∧
        (∀ a, (named a.kind → notify = false → u.get a = { s.dev.alarms.get a with noticed := false }) ∧
          (¬ named a.kind ∨ notify = true → u.get a = s.dev.alarms.get a)) ∧
        (∀ q, q ∈ u.queue ↔ q ∈ s.dev.alarms.queue ∧ (notify = true ∨ ¬ named q.alarm.kind)) ∧
        List.Sublist u.queue s.dev.alarms.queue ∧
        (u.pin = true ↔ ∃ a, (u.masks.get a.kind).summary = true ∧ (u.get a).latch = true) ∧
        ∀ x y z : Byte, (10 < x.toNat ∧ x ≠ 0xFF) ∨ 1 < y.toNat ∨ 1 < z.toNat →
          exec (.amask tag x y z) s = .next (s.answered s.dev (refusedReply 0xD0 tag .badValue))) ∧
  ∀ (s : State) (tag kind number : Byte), s.dev.readyInRun → isSelection kind number →
    let latched := (namedBy kind number).filter fun a => (s.dev.alarms.get a).latch
    ∃ u, exec (.aclear tag kind number) s = .next (s.answered { s.dev with alarms := u }
        (okReply 0xD2 tag
          [byteOf (latched.filter fun a => !(s.dev.alarms.get a).active).length,
           byteOf (latched.filter fun a => (s.dev.alarms.get a).active).length, if u.pin then 1 else 0])) ∧
      (∀ a, u.get a =
        if a ∈ namedBy kind number ∧ (s.dev.alarms.get a).active = false then
          { s.dev.alarms.get a with latch := false }
        else s.dev.alarms.get a) ∧
      u.queue = s.dev.alarms.queue ∧ u.masks = s.dev.alarms.masks ∧
      ((∃ a ∈ namedBy kind number, (s.dev.alarms.get a).active = false) →
        (u.pin = true ↔ ∃ a, (u.masks.get a.kind).summary = true ∧ (u.get a).latch = true))

/-- R121, R156, R160: COUNTS gives the 94 counters of Table 9-4 and sets each to 0, and changes nothing else; the ALM
pin, which follows the latches and the enables alone, stays where it is. LRESET clears the histogram of an ACTIVE
programme in every running mode, and is refused otherwise. That the reply stands in the reply list, and that a request
row is its frame's arrival, are the model's choices (logs 15 and 14). -/
def Obligations.CountsAndLresetClear : Prop :=
  (∀ (s : State) (tag : Byte), s.dev.readyInRun →
      ∃ e, exec (.counts tag) s = .next (s.answered e (okReply 0xD3 tag
          (allAlarms.flatMap (fun a => put16 (s.dev.alarms.get a).count) ++
            eight.flatMap (fun p => put16 (s.dev.port p).lane.invalid) ++
            eight.flatMap (fun n => put16 (s.dev.prog n).stage.clips) ++
            put16 (s.dev.checkers.get 0).errors ++ put16 (s.dev.checkers.get 1).errors ++
            put16 s.dev.link.errors))) ∧
        (∀ a, e.alarms.get a = { s.dev.alarms.get a with count := 0 }) ∧
        (∀ p, e.port p = { s.dev.port p with lane := { (s.dev.port p).lane with invalid := 0 } }) ∧
        (∀ n, e.prog n = { s.dev.prog n with stage := { (s.dev.prog n).stage with clips := 0 } }) ∧
        (∀ i, e.checkers.get i = { s.dev.checkers.get i with errors := 0 }) ∧
        e.link = { s.dev.link with errors := 0 } ∧
        (s.dev.pinSound → e.alarms.pin = s.dev.alarms.pin) ∧ e.alarms.queue = s.dev.alarms.queue ∧
        e.alarms.masks = s.dev.alarms.masks ∧
        e.time = s.dev.time ∧ e.pool = s.dev.pool ∧ e.mem = s.dev.mem ∧ e.map = s.dev.map ∧
        e.formed = s.dev.formed ∧ e.emitted = s.dev.emitted) ∧
  ∀ (s : State) (tag : Byte), s.dev.readyInRun →
    (∀ x : Byte, 7 < x.toNat →
      exec (.lreset tag x) s = .next (s.answered s.dev (refusedReply 0xA7 tag .badValue))) ∧
    ∀ n : Ix8,
      ((s.dev.prog n).record.state ≠ .active →
        exec (.lreset tag (byteOf n.val)) s = .next (s.answered s.dev (refusedReply 0xA7 tag .wrongState))) ∧
      ((s.dev.prog n).record.state = .active →
        exec (.lreset tag (byteOf n.val)) s = .next (s.answered
          { s.dev with
            progs := s.dev.progs.set n
              { s.dev.prog n with
                meter := { (s.dev.prog n).meter with bins := [], belowGate := 0, integrated := none } } }
          (okReply 0xA7 tag [byteOf n.val])))

/-- R185: METER sets the subscription of the programmes in its set and MSTOP ends it and empties their report slots;
the others keep theirs, and a mode code above 1 is refused. That an empty set is never CLAMPED is the model's choice
(log 37). -/
def Obligations.MeterAndMstopSubscribe : Prop :=
  ∀ (s : State) (tag set count : Byte), s.dev.readyInRun →
    let table := fun (sub : Subscription) => Oct.ofFn fun n : Ix8 =>
      if set.getLsbD n.val then sub else s.dev.link.subscriptions.get n
    let shown := fun (t : Oct Subscription) => t.toList.flatMap fun
      | .none => ([0, 0] : List Byte)
      | .continuous => [1, 0]
      | .count k => [2, byteOf k]
    exec (.meter tag set 0 count) s = .next (s.answered
      { s.dev with link := { s.dev.link with subscriptions := table .continuous } }
      (okReply 0xE0 tag (shown (table .continuous)))) ∧
    exec (.meter tag set 1 count) s = .next (s.answered
      { s.dev with link := { s.dev.link with subscriptions := table (.count (max 1 count.toNat)) } }
      (executedReply 0xE0 tag (if count = 0 ∧ set ≠ 0 then .clamped else .ok)
        [shown (table (.count (max 1 count.toNat)))])) ∧
    (∀ mode : Byte, 1 < mode.toNat →
      exec (.meter tag set mode count) s = .next (s.answered s.dev (refusedReply 0xE0 tag .badValue))) ∧
    exec (.mstop tag set) s = .next (s.answered
      { s.dev with
        link := { s.dev.link with
          subscriptions := table .none
          slots := Oct.ofFn fun n : Ix8 => if set.getLsbD n.val then none else s.dev.link.slots.get n } }
      (okReply 0xE1 tag (shown (table .none))))

/-- R161, R165, R168, R170, R173: TGEN stores the level, clamped, and the on flag; switched on from off the generator
starts from the all-ones register with an empty epoch table and its flag set, and otherwise it goes on as it was.
TCHECK with the flag at 1 watches a slot from HUNT with CHECK_LOSS active; with the flag at 0 the checker goes to IDLE
with CHECK_LOSS inactive; the error count is kept, and the refusals change nothing. -/
def Obligations.TgenAndTcheckAct : Prop :=
  (∀ (s : State) (tag : Byte) (n : Ix8) (on : Bool) (level : BitVec 16), s.dev.readyInRun →
      let g := (s.dev.prog n).gen
      let l : Int := max (-400) (min (-60) level.toInt)
      let kept : Generator := { g with on := on, level := l, amplitude := amplitudeOf l }
      let h : Generator :=
        if on = true ∧ g.on = false then { kept with register := BitVec.allOnes 23, epochs := [], flag := true }
        else kept
      exec (.tgen tag (byteOf n.val) (boolByte on) level) s = .next (s.answered
        { s.dev with progs := s.dev.progs.set n { s.dev.prog n with gen := h } }
        (executedReply 0xF0 tag (if l = level.toInt then .ok else .clamped)
          [[byteOf n.val, boolByte on] ++ int16 l ++ [byteOf h.epochs.length]])) ∧
      ∀ x y : Byte, 7 < x.toNat ∨ 1 < y.toNat →
        exec (.tgen tag x y level) s = .next (s.answered s.dev (refusedReply 0xF0 tag .badValue))) ∧
  ∀ (s : State) (tag : Byte) (i : Ix2), s.dev.readyInRun →
    let c := s.dev.checkers.get i
    (∀ (q : Ix8) (k : Ix4),
      exec (.tcheck tag (byteOf i.val) 1 (byteOf q.val) (byteOf k.val)) s = .next (s.answered
        { s.dev with
          checkers := s.dev.checkers.set i
            { state := .hunt, watched := some (q, k), loadCount := 0, register := c.register, correctRun := 0,
              window := [], errors := c.errors, delay := none }
          alarms := s.dev.alarms.activate s.dev.time.seconds (.checkLoss i) }
        (okReply 0xF1 tag [byteOf i.val, 1, byteOf q.val, byteOf k.val]))) ∧
    (∀ q k : Byte,
      exec (.tcheck tag (byteOf i.val) 0 q k) s = .next (s.answered
        { s.dev with
          checkers := s.dev.checkers.set i { Checker.reset with errors := c.errors }
          alarms := s.dev.alarms.force s.dev.time.seconds (.checkLoss i) }
        (okReply 0xF1 tag [byteOf i.val, 0, 0xFF, 0xFF]))) ∧
    ∀ x on q k : Byte, 1 < x.toNat ∨ 1 < on.toNat ∨ (on = 1 ∧ (7 < q.toNat ∨ 3 < k.toNat)) →
      exec (.tcheck tag x on q k) s = .next (s.answered s.dev (refusedReply 0xF1 tag .badValue))

/-! ## The timebase -/

/-- R4, R5, R152: what the end of a presence window does by the count of edges and the timebase state, in WORD mode;
in any other mode no window runs, and the command, which is not due then, has no effect (log 1). -/
def Obligations.PresenceWindowDecidesTheState : Prop :=
  ∀ s : State, s.dev.calm →
    let t := s.dev.time
    let put := fun (x : Timebase) (u : AlarmUnit) => { s with dev := { s.dev with time := x, alarms := u } }
    let present := 4776 ≤ t.edges ∧ t.edges ≤ 4824
    (t.mode = some .word → t.state = .holding → present →
      exec .presenceWindowEnd s = .next (put { t with edges := 0, state := .external, oscillatorPaced := false }
        (s.dev.alarms.deactivate t.seconds .refLoss))) ∧
    (t.mode = some .word → t.state = .external → ¬ present →
      exec .presenceWindowEnd s = .next (put { t with edges := 0, state := .holding }
        (s.dev.alarms.activate t.seconds .refLoss))) ∧
    (t.mode = some .word → (t.state = .holding ∧ ¬ present) ∨ (t.state = .external ∧ present) ∨ t.state = .internal →
      exec .presenceWindowEnd s = .next (put { t with edges := 0 } s.dev.alarms)) ∧
    (t.mode ≠ some .word → exec .presenceWindowEnd s = .next s)

/-! ## The house sample -/

/-- R5, R6: an edge at REF makes no house sample while the timebase is INTERNAL or HOLDING, nor in EXTERNAL within
half a nominal period of the last; a period of the oscillator makes none in EXTERNAL before one and a half. Only the
edge count of the presence window takes notice. R7, R8, R142: a pace that makes a house sample advances H by one and
emits the slot values formed eight house samples before; a step of H onto a multiple of 4,800 leaves a sub-block end
due, and one that no command has taken comes before the next house sample, with the second that it counts. R139, R142:
it forms the slot values that the output slot map asks for: the output of a member, or the sample of a generator, with
the flag set, and silence with the flag clear; the map stays as it is, where no request waits that the executor could
take first. R190: a restart that is due comes first. Times are in thousandths of a period, and an edge that is ignored
does not end the pacing by the oscillator (log 8); that a boundary stands as a mark between the step onto it and its
house sample is the model's choice (log 4), and that the house sample performs the restart is too (log 16). -/
def Obligations.HouseSampleAdvancesHOrIsIgnored : Prop :=
  ∀ s : State,
    let t := s.dev.time
    let counted : Timebase := { t with edges := if t.mode = some .word then t.edges + 1 else t.edges }
    (s.dev.link.restart = .due → ∀ pace : Pace,
      ∃ u, exec .restartPerformed s = .next u ∧ exec (.houseSample pace) s = exec (.houseSample pace) u) ∧
    (s.dev.link.restart ≠ .due → ∀ x : Nat, t.state ≠ .external ∨ x < 500 →
      exec (.houseSample (.refEdge x)) s = .next { s with dev := { s.dev with time := counted } }) ∧
    (s.dev.link.restart ≠ .due → ∀ x : Nat,
      (t.state = .external ∧ x < 1500 ∧ (t.oscillatorPaced = false ∨ x < 1000)) ∨ (t.state ≠ .external ∧ x < 1000) →
      exec (.houseSample (.oscillator x)) s = .next s) ∧
    (s.dev.link.restart ≠ .due → ∀ pace : Pace, t.takes pace →
      ∃ d, exec (.houseSample pace) s = .next { s with dev := d } ∧
        d.time.h = t.h + 1 ∧ d.time.boundary = (if (t.h + 1).toNat % 4800 = 0 then .due else .none) ∧
        d.time.seconds = (if t.boundary = .due ∧ t.h.toNat % 48000 = 0 then t.seconds + 1 else t.seconds) ∧
        d.emitted = s.dev.formed.head? ∧ d.formed.length = s.dev.formed.tail.length + 1 ∧
        d.formed.take s.dev.formed.tail.length = s.dev.formed.tail ∧ (s.dev.linkServed → d.map = s.dev.map) ∧
        ∃ v, d.formed.getLast? = some v ∧ ∀ (q : Ix8) (k : Ix4), (v.get q).get k =
          match (d.map.get q).get k with
          | .silence => { sample := 0, valid := false }
          | .member n m =>
            { sample :=
                if (d.prog n).record.state = .active ∨ (d.prog n).record.state = .stopping then
                  ((d.prog n).stage.members.get m).out
                else 0
              valid := true }
          | .test n =>
            let g := (d.prog n).gen
            { sample :=
                if g.on = true then
                  saturate (if g.register.getLsbD 0 = true then (g.amplitude : Int) else -(g.amplitude : Int))
                else 0
              valid := true })

/-- R9, R10, R11, R12, R13, R21, R22, R23, R28, R29, R30, R32, R33, R36, R38: what a house sample makes of each port,
e being the part with everything due before it done (log 2): a converter that does not track, or waits, gives 0; one
in SETTLE or LOCKED moves the frames that its accumulator calls for, or underruns, which is a slip; a holdover
fade-out runs on over what the FIFO holds, and goes on stepping where that falls short, a reading of the model's (log
12); and the slot level detectors and the path to source selection take the converted samples. A looped port goes on
to take the frame that its output lane emitted in the house sample before, with the marker where it is expected, at
the H to which this house sample has advanced, as a phase reading of 0 (logs 10 and 34), where none of its own events
is due; its entry into FRAMED comes before a holdover timer expiry that is due (log 2). Its marker is recorded under
that H, the model's choice (log 51). The coefficients are free values (log 11). -/
def Obligations.HouseSampleConverts : Prop :=
  ∀ (s : State) (pace : Pace), s.dev.link.restart ≠ .due → s.dev.time.takes pace →
    let e := s.dev.opened pace
    ∃ d, exec (.houseSample pace) s = .next { s with dev := d } ∧ ∀ p : Ix8,
      let x := e.port p
      let c := x.conv
      let silent : Quad Sample := ⟨0, 0, 0, 0⟩
      let whole := (c.fraction + c.sApp).toNat / 16777216
      let short := c.fifo.length < whole + 8
      let history := (c.history ++ c.fifo.take whole).drop whole
      let fraction := (c.fraction + c.sApp).toNat % 16777216
      let sound := fun (step : Nat) => Quad.ofFn fun k : Ix4 =>
        scale (saturate (roundRat (history.zipIdx.map fun z =>
          Config.coefficient c.coeffs (fraction / 65536) z.2 * ((z.1.get k).toInt : Rat)).sum)) step 64
      let moved := fun (step : Nat) (fade : Fade) =>
        { c with
          fifo := c.fifo.drop whole, history := history, fraction := fraction, output := sound step, fade := fade }
      let timer := min (c.holdTimer + 1) 48000
      let record := e.alarms.get (.slip p)
      let slipped := { record with
        latch := true, count := addSat record.count 1, time := e.time.seconds
        noticed := record.noticed || (e.alarms.masks.get .slip).notify }
      let y := d.port p
      let pins := x.lane.enabled = false ∨ x.lane.source = .pins
      let h := e.time.h + 1
      let arrives := fun (q : Ix8) (o : LaneFrames) (z : Converter) =>
        let l := x.lane
        let slots := o.get q
        let offered := z.offering (Quad.ofFn fun k : Ix4 => if (slots.get k).valid then (slots.get k).sample else 0)
          (256 * h.toNat)
        let invalid := addSat l.invalid (slots.toList.filter fun w => !w.valid).length
        (l.expects = false →
          y.lane = { l with state := .framing, good := 1, bad := 0, expects := true, lastMarker := h } ∧ y.conv = z) ∧
        (l.expects = true → l.state = .framed → (z.state = .settle ∨ z.state = .locked → z.fifo.length < 64) →
          y.lane = { l with bad := 0, lastMarker := h, invalid := invalid } ∧ y.conv = offered) ∧
        (l.expects = true → l.state ≠ .framed → l.good < 7 →
          y.lane = { l with good := l.good + 1, lastMarker := h } ∧ y.conv = z) ∧
        (l.expects = true → l.state ≠ .framed → 7 ≤ l.good → z.state = .seek ∨ z.state = .holdover →
          y.lane = { l with state := .framed, good := 8, bad := 0, lastMarker := h, invalid := invalid } ∧
          y.conv =
            if z.state = .holdover then offered
            else { offered with
              state := .measure, lockCount := 0, fade := .none, underrunWait := false
              interval := some { start := 256 * h.toNat, count := 0 }, ended := none })
      let leaves := fun (z : Converter) =>
        y.levels = x.levels ∧ y.path = x.path.tail ++ [z.output] ∧
        (∀ k : Ix4, y.peaks.get k = max (x.peaks.get k) (z.output.get k).toInt.natAbs) ∧
        (pins ∨ e.emitted = none → y.lane = x.lane ∧ y.conv = z) ∧
        ∀ q o, x.lane.enabled = true → x.lane.source = .loop q → e.emitted = some o →
          x.lane.state = .dark ∨ (h - x.lane.lastMarker).toNat < 48 → z.undisturbed → arrives q o z
      let tracks := c.state = .settle ∨ c.state = .locked
      (c.state = .off ∨ c.state = .seek ∨ c.state = .measure →
        leaves { c with output := silent, throughout := false }) ∧
      (tracks → c.underrunWait = true → leaves { c with output := silent }) ∧
      (tracks → c.underrunWait = false → short →
        leaves { c with
          output := silent, underrunWait := true, fade := .none, state := .settle, lockCount := 0, slipMark := true } ∧
        (pins → d.alarms.get (.slip p) = slipped)) ∧
      (pins → ¬ (tracks ∧ c.underrunWait = false ∧ short) → d.alarms.get (.slip p) = record) ∧
      (tracks → c.underrunWait = false → ¬ short →
        (c.fade = .none → leaves (moved 64 .none)) ∧
        (∀ k closing, c.fade = .fadeIn k closing → leaves (moved (k + 1) (.fadeIn (k + 1) closing)))) ∧
      (c.state = .holdover →
        (∀ k, c.fade = .fadeOut (k + 1) → c.starved = false → ¬ short →
          leaves { moved k (.fadeOut k) with holdTimer := timer, throughout := false }) ∧
        (∀ k, c.fade = .fadeOut (k + 1) → c.starved = true ∨ short →
          leaves { c with
            output := silent, starved := true, fade := .fadeOut k, holdTimer := timer, throughout := false }) ∧
        (c.fade = .none → leaves { c with output := silent, holdTimer := timer, throughout := false }))

/-- R53, R59, R66, R91, R92, R98, R100, R106, R111, R113, R123, R132 to R138, R165, R166: the way of one member of a
sounding programme through a house sample, e being the part with everything due before it done (log 2) and every other
line of the part passing its input straight through: the selected source, mixed in a crossfade, or the generator; the
line, which delivers its head sample, its input where it is empty, or nothing while it is frozen, and which keeps its
head sample while it is frozen and, once in 256, in a slew upwards (log 29); the one word of the delay memory that it
writes; the gain schedule and the ramps; the output sample under gain, trim, the programme fade and the stop fade; and
the meter's tap, with the weighting filter and the energy in a running mode. -/
def Obligations.HouseSamplePassesAMember : Prop :=
  ∀ (s : State) (pace : Pace) (n m : Ix8) (z : Member), s.dev.link.restart ≠ .due → s.dev.time.takes pace →
    let e := s.dev.opened pace
    let x := e.prog n
    let l := e.line n m
    x.record.state = .active ∨ x.record.state = .stopping → x.record.members[m.val]? = some z →
    l.Sound → e.mem.wf = true →
    (∀ k j : Ix8, (k, j) ≠ (n, m) → (e.prog k).record.state = .active ∨ (e.prog k).record.state = .stopping →
      j.val < (e.prog k).record.members.length → e.passes k j) →
    let h := e.time.h
    let register := (x.gen.register <<< 1) |||
      (if (x.gen.register.getLsbD 22 ^^ x.gen.register.getLsbD 17) = true then 1 else 0)
    let amplitude : Int := if register.getLsbD 0 = true then x.gen.amplitude else -(x.gen.amplitude : Int)
    let from_ := fun (q : Source) => ((e.port q.port).path.headD ⟨0, 0, 0, 0⟩).get q.slot
    let present := from_ (z.on x.ctx.selection)
    let step := if x.record.state = .active then min (x.ctx.fadeStep + 1) 480 else x.ctx.fadeStep
    let input : Sample :=
      if x.gen.on = true then saturate amplitude
      else match x.ctx.state, x.ctx.target, z.backup with
        | .fading, some t, some _ =>
          saturate (roundDiv ((480 - step) * present.toInt + step * (from_ (z.on t.1)).toInt) 480)
        | _, _, _ => present
    let fadeStep := x.delay.fadeStep + 1
    let factor : Int := match x.delay.fade with
      | .none => 240
      | .fadeOut => 240 - fadeStep
      | .gap => 0
      | .fadeIn => fadeStep
    let frozen := x.delay.fade = .gap ∧ 0 < l.freeze ∧ fadeStep ≤ l.freeze
    let repeats := x.delay.fade = .none ∧ l.change = .slewUp ∧ l.slewCounter = 255
    let keeps := frozen ∨ repeats
    let tail := blockWord ((l.inUse ++ l.spare.take 1).getD ((l.headPos + l.d) / 1024) 0) ((l.headPos + l.d) % 1024)
    let t := x.meter.members.get m
    let filtered := fun (f : FilterStage) (b0 b1 b2 a1 a2 v : Rat) =>
      let w := b0 * v + b1 * f.v1 + b2 * f.v2 - a1 * f.w1 - a2 * f.w2
      ({ v1 := v, v2 := f.v1, w1 := w, w2 := f.w1 } : FilterStage)
    let low := filtered t.stage1 0.995383 (-1.990765) 0.995383 (-1.990744) 0.990787 ((input.toInt : Rat) / 8388608)
    let high := filtered t.stage2 1.441847 (-2.404118) 1.031317 (-1.595321) 0.664393 low.w1
    let delivered : Sample := if l.d = 0 then input else e.mem.read (l.wordAt 0)
    let k := x.stage.members.get m
    let passed := if frozen then [] else
      (x.gain.schedule.drop k.pointer).takeWhile fun q => decide (0 ≤ (h - BitVec.ofNat 48 l.d - q.tag).toInt)
    let ramp : Option Ramp := match passed.getLast? with
      | some q => some { start := k.applied, target := q.gain, step := 1 }
      | none => k.ramp.map fun r => { r with step := min (r.step + 1) 480 }
    let at_ := fun (r : Ramp) => r.start + roundDiv ((r.target - r.start) * r.step) 480
    let applied := match ramp with
      | some r => at_ r
      | none => k.applied
    let trimRamp := x.stage.trimRamp.map fun r => { r with step := min (r.step + 1) 480 }
    let trim := match trimRamp with
      | some r => at_ r
      | none => x.stage.trim
    let stop := if x.record.state = .stopping then min (x.stage.stopStep + 1) 480 else x.stage.stopStep
    let product := roundDiv (delivered.toInt * gainFactor (max (-4000) (min 2000 (applied + trim)))) 1048576
    ∃ d, exec (.houseSample pace) s = .next { s with dev := d } ∧
      let y := (d.prog n).stage
      let o := y.members.get m
      o.applied = applied ∧ o.ramp = ramp ∧ y.trim = trim ∧ y.trimRamp = trimRamp ∧ y.stopStep = stop ∧
      o.out = (if frozen then 0 else scale (saturate product) (factor * (480 - stop)) 115200) ∧
      (x.record.members.length = 1 →
        y.clips = (if ¬ frozen ∧ (product < -8388608 ∨ 8388607 < product) then addSat x.stage.clips 1
          else x.stage.clips) ∧
        (d.prog n).gain = { x.gain with schedule := x.gain.schedule.drop (k.pointer + passed.length) } ∧
        (k.pointer + passed.length ≤ x.gain.schedule.length → o.pointer = 0)) ∧
      ((∀ p : Ix8, (e.port p).lane.enabled = false ∨ (e.port p).lane.source = .pins) →
        ((d.prog n).delay.fadeStep = if x.delay.fade = .none then x.delay.fadeStep else fadeStep) ∧
        (let v := d.line n m
         v.d = (if keeps then l.d + 1 else l.d) ∧ v.headIndex = h - BitVec.ofNat 48 l.d ∧
         v.slewCounter = (if l.change = .slewUp ∨ l.change = .slewDown then l.slewCounter + 1 else l.slewCounter) ∧
         v.change = l.change ∧ v.remaining = l.remaining ∧ v.freeze = l.freeze ∧ v.dNew = l.dNew ∧ v.dReq = l.dReq ∧
         ∀ i, i < v.d → d.mem.read (v.wordAt i) =
           if keeps then (if i < l.d then e.mem.read (l.wordAt i) else input)
           else if i + 1 < l.d then e.mem.read (l.wordAt (i + 1)) else input)) ∧
      (keeps ∨ 1 ≤ l.d → d.mem.read tail = input ∧ ∀ a, a ≠ tail → d.mem.read a = e.mem.read a) ∧
      (¬ keeps → l.d = 0 → d.mem = e.mem) ∧
      (let u := (d.prog n).meter.members.get m
       (x.record.state ≠ .active → u = t) ∧
       (x.record.state = .active →
         (x.meter.mode = .off → u = { t with peak := max t.peak input.toInt.natAbs }) ∧
         (x.meter.mode ≠ .off → u = { t with
           peak := max t.peak input.toInt.natAbs, stage1 := low, stage2 := high
           energy := t.energy + high.w1 * high.w1 })))

/-- R64, R65, R66, R71, R165, R167, R169, R170, R171, R172: what a house sample makes of the generators, the checkers
and the changeover contexts, e being the part with everything due before it done (log 2): a generator that is on steps
its sequence and enters a second boundary in its epoch table (log 6); a checker takes the bit of the sample that its
slot emits; and the counts of an ACTIVE programme's context rise, a PENDING one making the tests of R65 by the hold
limit in force at that house sample (R71), which leave a mark for its crossfade (log 48). The first comparison with an
epoch table comes with the house sample after the one that completes the run (log 43); and the change of state that a
run of 48 or the eighth error brings stands open in the state between this command and the next, which finds it made
(log 42). -/
def Obligations.HouseSampleStepsGeneratorsCheckersAndContexts : Prop :=
  ∀ (s : State) (pace : Pace), s.dev.link.restart ≠ .due → s.dev.time.takes pace →
    let e := s.dev.opened pace
    let h := e.time.h
    let next := fun (r : SeqReg) => r.getLsbD 22 ^^ r.getLsbD 17
    let push := fun (r : SeqReg) (b : Bool) => (r <<< 1) ||| (if b = true then 1 else 0)
    ∃ d, exec (.houseSample pace) s = .next { s with dev := d } ∧
      (∀ n : Ix8,
        let g := (e.prog n).gen
        let r := push g.register (next g.register)
        (g.on = false → (d.prog n).gen = g) ∧
        (g.on = true → (d.prog n).gen = { g with
          register := r
          epochs :=
            if e.time.boundary = .taken ∧ h.toNat % 48000 = 0 then (g.epochs ++ [(h, r)]).drop (g.epochs.length + 1 - 16) else g.epochs })) ∧
      (∀ (i : Ix2),
        let c := e.checkers.get i
        (c.state = .idle ∨ c.watched = none → d.checkers.get i = c) ∧
        ∀ q k, c.watched = some (q, k) →
          let b := decide (0 < (((e.formed.head?.getD (Oct.fill (Quad.fill ⟨0, false⟩))).get q).get k).sample.toInt)
          let p := next c.register
          (c.state = .hunt → c.loadCount < 23 →
            d.checkers.get i = { c with register := push c.register b, loadCount := c.loadCount + 1 }) ∧
          (c.state = .hunt → 23 ≤ c.loadCount →
            d.checkers.get i = { c with
              register := push c.register b
              correctRun := if b = p ∧ c.register ≠ 0 then min (c.correctRun + 1) 48 else 0 }) ∧
          (c.state = .sync →
            d.checkers.get i = { c with
              register := push c.register p
              window := (c.window ++ [b != p]).drop (c.window.length + 1 - 48)
              errors := if b = p then c.errors else addSat c.errors 1
              delay := match ((e.map.get q).get k).feeder with
                | none => c.delay
                | some n =>
                  match (d.prog n).gen.epochs.find? fun z => z.2 == push c.register p with
                  | some z => some (h - z.1)
                  | none => c.delay })) ∧
      ∀ n : Ix8,
        let x := e.prog n
        let quiet := ∀ z ∈ x.record.members, z.backup ≠ none →
          let q := z.on x.ctx.selection
          (((e.port q.port).path.headD ⟨0, 0, 0, 0⟩).get q.slot).toInt.natAbs < x.ctx.gapThreshold
        let c := (d.prog n).ctx
        (x.record.state ≠ .active → c = x.ctx) ∧
        (x.record.state = .active →
          c = { x.ctx with
            quiet := c.quiet, startDue := c.startDue
            holdTimer := if x.ctx.state = .pending then min (x.ctx.holdTimer + 1) 480000 else x.ctx.holdTimer
            fadeStep := if x.ctx.state = .fading then min (x.ctx.fadeStep + 1) 480 else x.ctx.fadeStep
            fadeFlag := if x.ctx.state = .fading then true else x.ctx.fadeFlag } ∧
          (quiet → c.quiet = min (x.ctx.quiet + 1) 960) ∧ (¬ quiet → c.quiet = 0) ∧
          (x.ctx.state ≠ .pending → c.startDue = x.ctx.startDue) ∧
          (x.ctx.state = .pending → (c.startDue = true ↔
            x.ctx.startDue = true ∨ c.quiet = 960 ∨ x.record.settings.holdLimit * 4800 ≤ c.holdTimer)))

/-! ## The sub-block end -/

/-- R7, R8, R14, R38: a sub-block end that is due, H having stepped onto its boundary, forms the 32 slot levels from
the running peaks and starts them afresh, and starts the converters' flags afresh; at a multiple of 48,000 it is also
a second boundary and the second count rises. That the boundary stands as a mark, from the step onto it to its house
sample, is the model's choice (log 4); a sub-block end that is not due has no effect (log 1). -/
def Obligations.SubBlockEndClosesTheLevels : Prop :=
  ∀ s : State, s.dev.calm →
    let h := s.dev.time.h
    let port := fun (x : Port) => { x with
      levels := ⟨levelOf x.peaks.q0, levelOf x.peaks.q1, levelOf x.peaks.q2, levelOf x.peaks.q3⟩
      peaks := ⟨0, 0, 0, 0⟩
      conv := { x.conv with
        throughout := x.conv.state == .settle || x.conv.state == .locked
        slipMark := x.conv.underrunWait || match x.conv.fade with
          | .fadeIn _ closing => closing
          | .none | .fadeOut _ => false } }
    (s.dev.time.boundary = .due →
      ∃ d, exec .subBlockEnd s = .next { s with dev := d } ∧
        (h.toNat % 48000 = 0 → exec .secondBoundary s = .next { s with dev := d }) ∧
        d.time = { s.dev.time with
          boundary := .taken
          seconds := if h.toNat % 48000 = 0 then s.dev.time.seconds + 1 else s.dev.time.seconds } ∧
        (∀ p, d.port p = port (s.dev.port p)) ∧
        (∀ n, (d.prog n).record = (s.dev.prog n).record ∧ (d.prog n).delay = (s.dev.prog n).delay ∧
          (d.prog n).stage = (s.dev.prog n).stage) ∧
        d.pool = s.dev.pool ∧ d.mem = s.dev.mem ∧ d.map = s.dev.map ∧ d.formed = s.dev.formed ∧
        d.emitted = s.dev.emitted ∧ d.checkers = s.dev.checkers) ∧
    (s.dev.time.boundary ≠ .due → exec .subBlockEnd s = .next s) ∧
    (¬ (h.toNat % 48000 = 0 ∧ s.dev.time.boundary = .due) → exec .secondBoundary s = .next s)

/-- R186, R187: at a sub-block end each ACTIVE subscribed programme's report takes its slot, with OVERRUN where a
report waited there and LAST where the remaining count falls to 0; the other slots and subscriptions stay. The report
holds the figures of that sub-block end. That a
request which an expiry of that end makes is read into the report by that expiry is the model's choice (log 24). -/
def Obligations.SubBlockEndFormsReports : Prop :=
  ∀ s : State, s.dev.calm → s.dev.time.boundary = .due →
    ∃ d, exec .subBlockEnd s = .next { s with dev := d } ∧
      ∀ n : Ix8,
        let old := s.dev.link.subscriptions.get n
        ((s.dev.prog n).record.state = .active → old ≠ .none →
          ∃ r, d.link.slots.get n = some r ∧ r.prog = n ∧ r.h = s.dev.time.h ∧
            r.overrun = (s.dev.link.slots.get n).isSome ∧ r.momentary = (d.prog n).meter.momentary ∧
            r.shortTerm = (d.prog n).meter.shortTerm ∧ r.integrated = (d.prog n).meter.integrated ∧
            r.g = (d.prog n).gain.g ∧ r.ctx = (d.prog n).ctx.state ∧
            r.selection = (d.prog n).ctx.selection ∧ r.selectedBy = (d.prog n).ctx.selectedBy ∧
            r.delayShort = (d.alarms.get (.delayShort n)).active ∧
            (let x := s.dev.prog n
             let some_ := fun (test : Line → Prop) => ∃ m : Ix8, m.val < x.record.members.length ∧ test (s.dev.line n m)
             (r.changing = true ↔ x.delay.fade ≠ .none ∨ some_ fun l => l.change ≠ .steady) ∧
             (r.underDelay = true ↔ some_ fun l => l.underDelay = true) ∧
             (x.record.members.length ≤ 8 → r.peaks.length = x.record.members.length) ∧
             ∀ m : Ix8, m.val < x.record.members.length →
               r.peaks[m.val]? = some (levelOf (x.meter.members.get m).peak)) ∧
            (old = .continuous → r.last = false ∧ d.link.subscriptions.get n = .continuous) ∧
            (∀ k, old = .count (k + 2) → r.last = false ∧ d.link.subscriptions.get n = .count (k + 1)) ∧
            (old = .count 1 → r.last = true ∧ d.link.subscriptions.get n = .none)) ∧
        ((s.dev.prog n).record.state ≠ .active ∨ old = .none →
          d.link.slots.get n = s.dev.link.slots.get n ∧ d.link.subscriptions.get n = old)

/-- R111, R112, R115, R116, R117, R118, R119, R120, R122 to R125, R129, R130, R131, R166: what a sub-block end that is
due makes of the meter, the gain computer and the generator's flag of each programme. The meter of an ACTIVE one
adopts the mode and the flag, closes the peaks, and in a running mode the energy entry, M and its count, S, and at a
second boundary I; OFF leaves M, S and I absent. An over level reached is an OVER event. G moves toward the wanted
gain by the slew, and a changed G enters the schedule under the house index at which the closed sub-block started. The
logarithms, I among them, are those of `Obligations.FiguresAreExactLogarithms`; that an OVER event of a second
boundary carries the count just advanced is the model's choice (log 5), and so is that the short sub-block which the
wrap of H closes is invalid, as R115 has it and R116 does not list (log 49). -/
def Obligations.SubBlockEndClosesMetersAndGains : Prop :=
  (∀ s : State, s.dev.calm → s.dev.time.boundary = .due →
    ∃ d, exec .subBlockEnd s = .next { s with dev := d } ∧ ∀ n : Ix8,
      let x := s.dev.prog n
      let o := x.record.settings
      let t := x.meter
      let u := (d.prog n).meter
      let last := fun (l : List EnergyEntry) (k : Nat) => l.drop (l.length - k)
      let mean := fun (l : List EnergyEntry) => loudnessOf ((l.map EnergyEntry.energy).sum / (l.length : Rat))
      let converted := ∀ z ∈ x.record.members,
        let c := (s.dev.port (z.on x.ctx.selection).port).conv
        c.throughout = true ∧ c.slipMark = false
      let valid := s.dev.time.h ≠ 0 ∧ converted ∧ x.ctx.fadeFlag = false ∧ x.gen.flag = false ∧
        t.activeThroughout = true ∧ t.runningThroughout = true
      let weight := fun (z : Member) => match z.role with
        | .front => (1 : Rat)
        | .surround => 141 / 100
        | .low => 0
      let energy := (eight.map fun m => match x.record.members[m.val]? with
        | some z => weight z * ((t.members.get m).energy / 4800)
        | none => 0).sum
      let reached := ∃ m : Ix8, m.val < x.record.members.length ∧ o.overLevel ≤ levelOf (t.members.get m).peak
      let r := s.dev.alarms.get (.overEvent n)
      let seconds := if s.dev.time.h.toNat % 48000 = 0 then s.dev.time.seconds + 1 else s.dev.time.seconds
      (d.prog n).gen = { x.gen with flag := x.gen.on } ∧
      (x.record.state ≠ .active →
        u = { t with activeThroughout := false } ∧ (d.prog n).gain = x.gain ∧ d.alarms.get (.overEvent n) = r) ∧
      (x.record.state = .active →
        u.mode = o.loudnessMode ∧ u.resetFlag = o.resetOnChangeover ∧ u.activeThroughout = true ∧
        (u.runningThroughout = true ↔ o.loudnessMode ≠ .off) ∧
        (reached → d.alarms.get (.overEvent n) = { r with
          latch := true, count := addSat r.count 1, time := seconds
          noticed := r.noticed || (s.dev.alarms.masks.get .overEvent).notify }) ∧
        (¬ reached → d.alarms.get (.overEvent n) = r) ∧
        (∀ m : Ix8, u.members.get m = { t.members.get m with
          level := levelOf (t.members.get m).peak, peak := 0, energy := 0
          stage1 := if o.loudnessMode = .off then ⟨0, 0, 0, 0⟩ else (t.members.get m).stage1
          stage2 := if o.loudnessMode = .off then ⟨0, 0, 0, 0⟩ else (t.members.get m).stage2 }) ∧
        (o.loudnessMode = .off →
          u.energies = last (t.energies ++ [⟨0, false⟩]) 30 ∧ u.momentary = none ∧ u.shortTerm = none ∧
          u.integrated = none ∧ u.bins = t.bins ∧ u.belowGate = t.belowGate ∧
          (d.prog n).gain.g = 0) ∧
        (o.loudnessMode ≠ .off →
          (∃ v, u.energies = last (t.energies ++ [⟨energy, v⟩]) 30 ∧ (v = true ↔ valid)) ∧
          (let four := last u.energies 4
           (four.length = 4 ∧ (∀ q ∈ four, q.valid = true) → u.momentary = some (mean four)) ∧
           (¬ (four.length = 4 ∧ ∀ q ∈ four, q.valid = true) → u.momentary = none)) ∧
          (let counted := u.energies.filter EnergyEntry.valid
           u.shortTerm = if 10 ≤ counted.length then some (mean counted) else none) ∧
          (u.momentary = none → u.bins = t.bins ∧ u.belowGate = t.belowGate) ∧
          (∀ v, u.momentary = some v →
            (-700 ≤ v → u.bins = addBin t.bins (v + 700).toNat ∧ u.belowGate = t.belowGate) ∧
            (v < -700 → u.bins = t.bins ∧ u.belowGate = min (t.belowGate + 1) 4294967295)) ∧
          u.integrated = if s.dev.time.h.toNat % 48000 = 0 then integratedOf u.bins else t.integrated) ∧
        (o.loudnessMode = .measure → (d.prog n).gain.g = 0) ∧
        (o.loudnessMode = .correct →
          (u.shortTerm = none → (d.prog n).gain.g = x.gain.g) ∧
          ∀ v, u.shortTerm = some v →
            let wanted := 10 * max (-o.maxCut) (min o.maxBoost (o.loudnessTarget - v))
            (v < o.loudnessTarget - 200 → (d.prog n).gain.g = x.gain.g) ∧
            (o.loudnessTarget - 200 ≤ v → -o.maxCut ≤ o.maxBoost →
              ((wanted - x.gain.g).natAbs ≤ o.slew → (d.prog n).gain.g = wanted) ∧
              (o.slew < (wanted - x.gain.g).natAbs → x.gain.g < wanted → (d.prog n).gain.g = x.gain.g + o.slew) ∧
              (o.slew < (wanted - x.gain.g).natAbs → wanted < x.gain.g → (d.prog n).gain.g = x.gain.g - o.slew))) ∧
        (let g := (d.prog n).gain.g
         let start := if s.dev.time.h = 0 then BitVec.ofNat 48 (2 ^ 48 - 256) else s.dev.time.h - 4800
         (g = x.gain.previous → (d.prog n).gain = { x.gain with g := g }) ∧
         (g ≠ x.gain.previous → (d.prog n).gain =
           { g := g, previous := g, schedule := x.gain.schedule ++ [{ tag := start, gain := g }] })))) ∧
  ∀ (bins : List (Nat × Nat)) (k j : Nat), bins.Pairwise (fun a b => a.1 < b.1) →
    (addBin bins k).Pairwise (fun a b => a.1 < b.1) ∧
    binCount (addBin bins k) j = if j = k then min (binCount bins k + 1) 4294967295 else binCount bins j

/-- R66, R68, R69, R70: what a sub-block end that is due makes of each programme's changeover context: the health of
the two sides, judged from the levels just formed and the converters; the automatic request for BACKUP of a failed
primary; the return timer; and the fade flag, which starts afresh. That the return timer at its limit leaves a mark
for RETURN_TIMER_EXPIRY, and a test passed at the entry into PENDING one for CROSSFADE_START, are the model's choices
(logs 24 and 48). -/
def Obligations.SubBlockEndJudgesTheSides : Prop :=
  ∀ s : State, s.dev.calm → s.dev.time.boundary = .due →
    ∃ d, exec .subBlockEnd s = .next { s with dev := d } ∧ ∀ n : Ix8,
      let x := s.dev.prog n
      let o := x.record.settings
      let level := fun (q : Source) => levelOf ((s.dev.port q.port).peaks.get q.slot)
      let side := fun (t : Selection) => match t with
        | .primary => x.record.members.map Member.primary
        | .backup => x.record.members.filterMap Member.backup
      let healthy := fun (t : Selection) =>
        (∀ q ∈ side t, (s.dev.port q.port).conv.state = .locked) ∧ ∃ q ∈ side t, o.silenceLevel ≤ level q
      let failed := (s.dev.alarms.get (.silence n)).active = true ∨
        ∃ q ∈ side .primary, (s.dev.alarms.get (.unlock q.port)).active = true
      let requests := o.changeoverMode ≠ .manual ∧ x.ctx.selection = .primary ∧ x.ctx.state = .idle ∧ failed ∧
        healthy .backup
      let returns := o.changeoverMode = .autoReturn ∧ x.ctx.selection = .backup ∧ x.ctx.selectedBy = .auto ∧
        x.ctx.state = .idle ∧ healthy .primary
      let c := (d.prog n).ctx
      (x.record.state ≠ .active → c = { x.ctx with fadeFlag := x.ctx.state == .fading }) ∧
      (x.record.state = .active →
        (c.primaryHealthy = true ↔ healthy .primary) ∧ (c.backupHealthy = true ↔ healthy .backup) ∧
        c.fadeFlag = (c.state == .fading) ∧
        (requests → c.state = .pending ∧ c.target = some (.backup, .auto) ∧ c.holdTimer = 0 ∧
          (c.startDue = true ↔ x.ctx.quiet = 960 ∨ o.holdLimit ≤ 0)) ∧
        (¬ requests → c.state = x.ctx.state ∧ c.target = x.ctx.target ∧ c.holdTimer = x.ctx.holdTimer ∧
          c.startDue = x.ctx.startDue) ∧
        (returns → c.returnTimer = x.ctx.returnTimer + 1 ∧
          (c.returnDue = true ↔ o.returnTime * 10 ≤ ((x.ctx.returnTimer + 1 : Nat) : Int))) ∧
        (¬ returns → c.returnTimer = 0 ∧ c.returnDue = false) ∧
        c.selection = x.ctx.selection ∧ c.selectedBy = x.ctx.selectedBy ∧ c.next = x.ctx.next ∧
        c.fadeStep = x.ctx.fadeStep ∧ c.quiet = x.ctx.quiet ∧ c.gapThreshold = x.ctx.gapThreshold)

/-- R148, R149, R150, R151: what a sub-block end that is due makes of the qualification timers: the set timer of an
inactive condition counts the sub-block ends at which its set criterion is met, the clear timer of an active one those
at which its clear criterion is, and a timer whose criterion is not met goes to 0; UNLOCK is judged for enabled ports,
SILENCE and the loudness conditions for ACTIVE programmes, the latter where S is present. That a timer at its limit
leaves a mark for the expiry rows is the model's choice (log 24). -/
def Obligations.SubBlockEndQualifiesConditions : Prop :=
  ∀ s : State, s.dev.calm → s.dev.time.boundary = .due →
    let judged := fun (r new : AlarmRecord) (setMet clearMet : Prop) (setLimit clearLimit : Nat) =>
      (r.active = false → setMet → new = { r with
        setTimer := max r.setTimer (min (r.setTimer + 1) setLimit)
        expiry := if setLimit ≤ r.setTimer + 1 then .set else .none }) ∧
      (r.active = false → ¬ setMet → new = { r with setTimer := 0, expiry := .none }) ∧
      (r.active = true → clearMet → new = { r with
        clearTimer := max r.clearTimer (min (r.clearTimer + 1) clearLimit)
        expiry := if clearLimit ≤ r.clearTimer + 1 then .clear else .none }) ∧
      (r.active = true → ¬ clearMet → new = { r with clearTimer := 0, expiry := .none })
    ∃ d, exec .subBlockEnd s = .next { s with dev := d } ∧
      (∀ p : Ix8,
        ((s.dev.port p).lane.enabled = false → d.alarms.get (.unlock p) = s.dev.alarms.get (.unlock p)) ∧
        ((s.dev.port p).lane.enabled = true →
          judged (s.dev.alarms.get (.unlock p)) (d.alarms.get (.unlock p)) ((s.dev.port p).conv.state ≠ .locked)
            ((s.dev.port p).conv.state = .locked) 5 10)) ∧
      (∀ n : Ix8,
        let x := s.dev.prog n
        let o := x.record.settings
        let level := fun (z : Member) =>
          let q := z.on x.ctx.selection
          levelOf ((s.dev.port q.port).peaks.get q.slot)
        let conditions : List Alarm := [.silence n, .loudHigh n, .loudLow n]
        (x.record.state ≠ .active → ∀ a ∈ conditions, d.alarms.get a = s.dev.alarms.get a) ∧
        (x.record.state = .active →
          judged (s.dev.alarms.get (.silence n)) (d.alarms.get (.silence n))
            (∀ z ∈ x.record.members, level z < o.silenceLevel)
            (∃ z ∈ x.record.members, o.silenceLevel + 20 ≤ level z)
            (o.silenceSetTime * 10).toNat (o.silenceClearTime * 10).toNat ∧
          ((d.prog n).meter.shortTerm = none →
            d.alarms.get (.loudHigh n) = s.dev.alarms.get (.loudHigh n) ∧
            d.alarms.get (.loudLow n) = s.dev.alarms.get (.loudLow n)) ∧
          ∀ v, (d.prog n).meter.shortTerm = some v →
            let limit := (o.loudnessTime * 10).toNat
            judged (s.dev.alarms.get (.loudHigh n)) (d.alarms.get (.loudHigh n))
              (o.loudnessTarget + o.loudnessWindow < v) (v ≤ o.loudnessTarget + o.loudnessWindow - 10) limit limit ∧
            judged (s.dev.alarms.get (.loudLow n)) (d.alarms.get (.loudLow n))
              (v < o.loudnessTarget - o.loudnessWindow) (o.loudnessTarget - o.loudnessWindow + 10 ≤ v) limit limit)) ∧
      (∀ a : Alarm, a.kind ≠ .unlock → a.kind ≠ .silence → a.kind ≠ .loudHigh → a.kind ≠ .loudLow →
        a.kind ≠ .overEvent → d.alarms.get a = s.dev.alarms.get a)

/-! ## Lanes and converters -/

/-- R9, R10, R11, R21, R22, R23, R36, R37: the marker positions of an enabled lane at its pins that is not FRAMED: the
first pattern in DARK, good and bad markers in FRAMING, and the eighth good marker, whose frame is the first offered:
it starts the first interval of a converter that seeks, and refills one in HOLDOVER. A lane that has gone 48 house
samples without a pattern is DARK before the arrival, and the entry into FRAMED comes before a holdover timer expiry
that is due, in the model's order (log 2). A disabled or looped port ignores
what its pins carry. What an arrival carries is the model's choice (log 9), as is that a pattern is recorded under the H
of the arrival that reports it (log 51), and the phase-counter reading its reading of R23 (log 34). -/
def Obligations.FrameArrivalProvesTheFraming : Prop :=
  ∀ (s : State) (p : Ix8) (f : LaneInput), s.dev.calm →
    let x := s.dev.port p
    let put := fun (y : Port) => { s with dev := { s.dev with ports := s.dev.ports.set p y } }
    let slot := fun (i : Ix4) => if (f.slots.get i).valid then (f.slots.get i).sample else 0
    let frame : Quad Sample := ⟨slot 0, slot 1, slot 2, slot 3⟩
    let h := s.dev.time.h
    let pattern := f.atExpected = true ∨ f.elsewhere = true
    let found := if pattern then h else x.lane.lastMarker
    let now := 256 * h.toNat + f.phase.toNat
    let dark : Lane := { x.lane with state := .dark, good := 0, bad := 0, expects := false }
    let first := fun (l : Lane) => { l with state := .framing, good := 1, bad := 0, expects := true, lastMarker := h }
    let framed : Lane := { x.lane with
      state := .framed, good := 8, bad := 0, lastMarker := found
      invalid := addSat x.lane.invalid (f.slots.toList.filter fun z => !z.valid).length }
    let fresh := (h - x.lane.lastMarker).toNat < 48
    (x.lane.enabled = false ∨ x.lane.source ≠ .pins → exec (.frameArrival p f) s = .next s) ∧
    (x.lane.enabled = true → x.lane.source = .pins → x.lane.state ≠ .framed → x.conv.undisturbed →
      (x.lane.state = .framing → ¬ fresh →
        exec (.frameArrival p f) s = .next (put { x with lane := if pattern then first dark else dark })) ∧
      (x.lane.state = .dark ∨ fresh →
        (x.lane.expects = false → pattern →
          exec (.frameArrival p f) s = .next (put { x with lane := first x.lane })) ∧
        (x.lane.expects = false → ¬ pattern → exec (.frameArrival p f) s = .next s) ∧
        (x.lane.expects = true → f.atExpected = true → x.lane.good < 7 →
          exec (.frameArrival p f) s = .next (put { x with lane := { x.lane with
            good := x.lane.good + 1, lastMarker := found } })) ∧
        (x.lane.expects = true → f.atExpected = false →
          exec (.frameArrival p f) s = .next (put { x with lane := { x.lane with
            good := 0, expects := false, lastMarker := found } })) ∧
        (x.lane.expects = true → f.atExpected = true → 7 ≤ x.lane.good →
          (x.conv.state = .seek → x.conv.fifo.length < 32 →
            exec (.frameArrival p f) s = .next (put { x with
              lane := framed
              conv := { x.conv with
                state := .measure, lockCount := 0, fade := .none, underrunWait := false
                fifo := x.conv.fifo ++ [frame], reading := now
                interval := some { start := now, count := 0 }, ended := none } })) ∧
          (x.conv.state = .holdover →
            exec (.frameArrival p f) s = .next (put { x with
              lane := framed, conv := x.conv.offering frame now })))))

/-- R10, R11, R21, R23, R31, R33, R34, R35, R147, R153: a frame on a FRAMED lane at its pins, with nothing due at its
converter. It is offered, a bad marker below the third included, and its invalid slots contribute 0 and are counted;
the third bad marker in succession leaves FRAMED, and the converter seeks or enters HOLDOVER. Offered, it joins the
FIFO, which keeps 32 frames in SEEK and MEASURE; at a FIFO of 64 in SETTLE or LOCKED it overruns, a slip that discards
the 32 oldest and queues or brings up to date its notice; and it counts toward the estimator interval. A lane that has
gone 48 house samples without a pattern is DARK before the arrival, in the model's order (log 2). What an arrival
carries is the model's choice (log 9), as are that a pattern is recorded under the H of the arrival that reports it
(log 51) and that the interval's end waits for its own command (log 28), and the phase-counter reading is its reading
of R23 (log 34). -/
def Obligations.FrameArrivalOffersTheFrame : Prop :=
  ∀ (s : State) (p : Ix8) (f : LaneInput), s.dev.calm →
    let x := s.dev.port p
    let c := x.conv
    x.lane.enabled = true → x.lane.source = .pins → x.lane.state = .framed → x.lane.expects = true → c.undisturbed →
    let h := s.dev.time.h
    let now := 256 * h.toNat + f.phase.toNat
    let slot := fun (i : Ix4) => if (f.slots.get i).valid then (f.slots.get i).sample else 0
    let frame : Quad Sample := ⟨slot 0, slot 1, slot 2, slot 3⟩
    let pattern := f.atExpected = true ∨ f.elsewhere = true
    let found := if pattern then h else x.lane.lastMarker
    let kept : Lane := { x.lane with
      bad := if f.atExpected then 0 else x.lane.bad + 1, lastMarker := found
      invalid := addSat x.lane.invalid (f.slots.toList.filter fun z => !z.valid).length }
    let lost : Lane := { x.lane with state := .framing, good := 0, bad := 0, expects := false, lastMarker := found }
    let dark : Lane := { x.lane with state := .dark, good := 0, bad := 0, expects := false }
    let goes := fun (l : Lane) (k : Converter) =>
      exec (.frameArrival p f) s = .next { s with dev := { s.dev with
        ports := s.dev.ports.set p { x with lane := l, conv := k } } }
    let tracks := c.state = .settle ∨ c.state = .locked
    let watched := ∃ n : Ix8, (s.dev.prog n).record.state = .active ∧
      ∃ z ∈ (s.dev.prog n).record.members, (z.on (s.dev.prog n).ctx.selection).port = p
    (48 ≤ (h - x.lane.lastMarker).toNat →
      (pattern → goes
        { dark with state := .framing, good := 1, expects := true, lastMarker := h } c.losing) ∧
      (¬ pattern → goes dark c.losing)) ∧
    ((h - x.lane.lastMarker).toNat < 48 → f.atExpected = true ∨ x.lane.bad < 2 →
      (¬ (tracks ∧ 64 ≤ c.fifo.length) → goes kept (c.offering frame now)) ∧
      (tracks → 64 ≤ c.fifo.length →
        ∃ d, exec (.frameArrival p f) s = .next { s with dev := d } ∧
          d.ports = s.dev.ports.set p { x with
            lane := kept
            conv := { c.counting (c.fifo.drop 32 ++ [frame]) now with
              sApp := c.sEst + 256, state := .settle, lockCount := 0, slipMark := true
              lc := ((2 * (41 * 16777216) + c.sEst) / (2 * c.sEst)).toNat } } ∧
          (let r := s.dev.alarms.get (.slip p)
           let t := d.alarms.get (.slip p)
           t = { r with
             latch := true, count := addSat r.count 1, time := s.dev.time.seconds
             noticed := r.noticed || (s.dev.alarms.masks.get .slip).notify } ∧
           (¬ watched → d.alarms.queue = s.dev.alarms.queued (.slip p) t ∧ d.progs = s.dev.progs)) ∧
          d.time = s.dev.time ∧ d.mem = s.dev.mem ∧ d.map = s.dev.map ∧ d.link = s.dev.link)) ∧
    ((h - x.lane.lastMarker).toNat < 48 → f.atExpected = false → 2 ≤ x.lane.bad → goes lost c.losing)

/-- R10, R35, R37: an enabled lane with no marker pattern for 48 house samples goes DARK. Where it was FRAMED, a
converter in MEASURE or SETTLE then seeks, a LOCKED one enters HOLDOVER with a fade-out from the step of its fade-in
or from 64, and one in HOLDOVER seeks where its timer stands at 48,000 and else empties its FIFO. Before the 48 the
command has no effect (log 1). That the 48 run from the arrival that reported the last pattern is the model's choice
(log 51). -/
def Obligations.DarkLaneStopsTheConverter : Prop :=
  ∀ (s : State) (p : Ix8), s.dev.calm →
    let x := s.dev.port p
    let c := x.conv
    let put := fun (k : Converter) => { s with dev := { s.dev with ports := s.dev.ports.set p { x with
      lane := { x.lane with state := .dark, good := 0, bad := 0, expects := false }, conv := k } } }
    let h := s.dev.time.h
    let due := x.lane.enabled = true ∧ x.lane.state ≠ .dark ∧ 48 ≤ (h - x.lane.lastMarker).toNat
    let seeking : Converter := { c with
      state := .seek, fifo := [], interval := none, history := List.replicate 16 ⟨0, 0, 0, 0⟩, fade := .none
      starved := false, underrunWait := false, lockCount := 0, throughout := false }
    (¬ due → exec (.laneDarkTimeout p) s = .next s) ∧
    (due → c.undisturbed →
      (x.lane.state = .framing ∨ c.state = .seek → exec (.laneDarkTimeout p) s = .next (put c)) ∧
      (x.lane.state = .framed → c.state = .measure ∨ c.state = .settle →
        exec (.laneDarkTimeout p) s = .next (put seeking)) ∧
      (x.lane.state = .framed → c.state = .locked →
        exec (.laneDarkTimeout p) s = .next (put { c with
          state := .holdover, holdTimer := 0, interval := none, starved := false, throughout := false
          fade := .fadeOut (match c.fade with
            | .fadeIn k _ => k
            | .none | .fadeOut _ => 64) })) ∧
      (x.lane.state = .framed → c.state = .holdover →
        (c.holdTimer = 48000 → exec (.laneDarkTimeout p) s = .next (put seeking)) ∧
        (c.holdTimer ≠ 48000 → exec (.laneDarkTimeout p) s = .next (put { c with fifo := [] }))))

/-- R23, R24, R25, R34: an interval end in MEASURE. In range it enters SETTLE with S_new for both rates, a fade-in,
and Lc from a fill of 32; out of range it stays, and RATE_RANGE becomes active. In SETTLE and LOCKED an out-of-range
end goes back to MEASURE. A converter with no interval end waiting is untouched (logs 1 and 28). -/
def Obligations.IntervalEndMeasuresTheRate : Prop :=
  ∀ (s : State) (p : Ix8), s.dev.calm →
    let x := s.dev.port p
    (x.conv.ended = none → exec (.intervalEnd p) s = .next s) ∧
    ∀ e, x.conv.ended = some e →
      let good := 503317 ≤ e.tInt ∧ e.tInt ≤ 1797558
      let s_ : Int := (2 * 17592186044416 + e.tInt) / (2 * e.tInt)
      (x.conv.state = .measure → good →
        ∃ d, exec (.intervalEnd p) s = .next { s with dev := d } ∧
          d.ports = s.dev.ports.set p { x with conv := { x.conv with
            ended := none, state := .settle, sEst := s_, sApp := s_, fraction := 0,
            history := List.replicate 16 ⟨0, 0, 0, 0⟩, fade := .fadeIn 0 false, lockCount := 0,
            coeffs := if s_ ≤ 16777216 then .wide else .narrow,
            lc := ((2 * (40 * 16777216) + s_) / (2 * s_)).toNat } } ∧
          (d.alarms.get (.rateRange p)).active = false ∧
          d.time = s.dev.time ∧ d.mem = s.dev.mem ∧ d.map = s.dev.map ∧ d.link = s.dev.link) ∧
      (x.conv.state = .measure → ¬ good →
        exec (.intervalEnd p) s = .next { s with dev := { s.dev with
          ports := s.dev.ports.set p { x with conv := { x.conv with ended := none } }
          alarms := s.dev.alarms.activate s.dev.time.seconds (.rateRange p) } }) ∧
      (x.conv.state = .settle ∨ x.conv.state = .locked → ¬ good →
        exec (.intervalEnd p) s = .next { s with dev := { s.dev with
          ports := s.dev.ports.set p { x with conv := { x.conv with
            ended := none, state := .measure, history := List.replicate 16 ⟨0, 0, 0, 0⟩, underrunWait := false,
            fade := .none, fifo := x.conv.fifo.drop (x.conv.fifo.length - 32), lockCount := 0,
            throughout := false } }
          alarms := s.dev.alarms.activate s.dev.time.seconds (.rateRange p) } })

/-- R25, R26, R27, R34, R90, R94, R95, R97, R103, Table 6-3: an interval end in range in SETTLE and LOCKED. A rate
that differs by more than the jump test allows becomes the estimate, in SETTLE; otherwise the estimate takes an eighth
of the difference, and the lock test counts the fills near the centre in SETTLE and leaves LOCKED where the fill is
far from it. The servo, the coefficient set and Lc follow the new estimate, and RATE_RANGE is inactive. The new Lc
reaches the ACTIVE programmes with a current source on the port: during a change it is folded, else it is a
recalculation with mode DEADBAND where a required length lies 2 or more from its D, and else the required lengths
alone are new. The interval's end as a command of its own is the model's choice (log 28). -/
def Obligations.IntervalEndTracksTheRate : Prop :=
  ∀ (s : State) (p : Ix8) (e : EndedInterval), s.dev.calm →
    let x := s.dev.port p
    let c := x.conv
    c.ended = some e → 503317 ≤ e.tInt ∧ e.tInt ≤ 1797558 → c.state = .settle ∨ c.state = .locked →
    let new : Int := (2 * 17592186044416 + e.tInt) / (2 * e.tInt)
    let jump := c.sEst / 1024 < ((new - c.sEst).natAbs : Int)
    let est := if jump then new else c.sEst + (2 * (new - c.sEst) + 8) / 16
    let off := ((e.fObs : Int) - 32).natAbs
    ∃ d, exec (.intervalEnd p) s = .next { s with dev := d } ∧
      d.ports = s.dev.ports.set p { x with conv := { c with
        ended := none, sEst := est
        sApp := max (est - 8192) (min (est + 8192) (est + 256 * ((e.fObs : Int) - 32)))
        coeffs := if est ≤ 16777216 then .wide else .narrow
        lc := ((2 * (((e.fObs : Int) + 8) * 16777216) + est) / (2 * est)).toNat
        state := if jump ∨ 12 < off then .settle else c.state
        lockCount :=
          if jump then 0
          else if c.state = .settle then (if off ≤ 4 then min (c.lockCount + 1) 4 else 0)
          else if 12 < off then 0 else c.lockCount } } ∧
      (d.alarms.get (.rateRange p)).active = false ∧
      (∀ a, a ≠ .rateRange p → (∀ n, a ≠ .delayShort n) → d.alarms.get a = s.dev.alarms.get a) ∧
      d.time = s.dev.time ∧ d.mem = s.dev.mem ∧ d.map = s.dev.map ∧ d.link = s.dev.link ∧
      let told : Device := { s.dev with ports := d.ports }
      (s.dev.pool.queue = [] → (∀ k, (s.dev.prog k).record.state = .active → told.meets k .deadband) →
        ∀ n : Ix8,
          let y := s.dev.prog n
          let on := fun (z : Member) => (z.on y.ctx.selection).port = p
          let listed := fun (m : Ix8) (z : Member) => y.record.members[m.val]? = some z
          let due := fun (m : Ix8) (z : Member) => if on z then told.requiredOf n z else (s.dev.line n m).dReq
          let moved := ∃ m z, listed m z ∧ 2 ≤ max (due m z) (s.dev.line n m).d - min (due m z) (s.dev.line n m).d
          (y.record.state ≠ .active ∨ (∀ z ∈ y.record.members, ¬ on z) → d.prog n = y) ∧
          (y.record.state = .active → (∃ z ∈ y.record.members, on z) → s.dev.changing n = true →
            (d.prog n).delay.pending =
              some { mode := y.delay.pending.elim .deadband PendingRecalc.mode
                     host := y.delay.pending.elim false PendingRecalc.host } ∧
            (d.prog n).delay.fade = y.delay.fade ∧ (d.prog n).delay.tLines = y.delay.tLines ∧
            ∀ m z, listed m z → (d.line n m).dReq = told.requiredOf n z) ∧
          (y.record.state = .active → (∃ z ∈ y.record.members, on z) → s.dev.changing n = false →
            (moved → told.recalculated d n .deadband false) ∧
            (¬ moved → (d.prog n).delay = { y.delay with lines := (d.prog n).delay.lines } ∧
              ∀ m z, listed m z →
                d.line n m = { s.dev.line n m with
                  dReq := due m z, underDelay := (d.line n m).underDelay, spare := (d.line n m).spare } ∧
                (on z → ((d.line n m).underDelay = true ↔
                  y.record.settings.delayTarget < ((d.port p).conv.lc : Int) + 24)))))

/-- R27, R30, R32, R34, R36, R37: the remaining events of one converter: the lock count at 4 locks it, a fade-in at
step 64 ends, a holdover fade-out at step 0 clears fraction, history and FIFO, and a holdover of 48,000 house samples
on a lane that is not FRAMED goes back to SEEK with the rates and Lc kept. The FIFO refilled to 32 ends an underrun
wait with a fade-in, and ends a holdover in SETTLE with an interval started, the held estimate in use in both; Lc is
computed from a fill of 32. -/
def Obligations.ConverterEventsRunOut : Prop :=
  ∀ (s : State) (p : Ix8), s.dev.calm →
    let x := s.dev.port p
    let put := fun (c : Converter) => { s with dev := { s.dev with ports := s.dev.ports.set p { x with conv := c } } }
    (x.conv.state = .settle → 4 ≤ x.conv.lockCount →
      exec (.lockCountExpiry p) s = .next (put { x.conv with state := .locked })) ∧
    (∀ k closing, x.conv.fade = .fadeIn k closing → 64 ≤ k →
      exec (.converterFadeInEnd p) s = .next (put { x.conv with fade := .none })) ∧
    (x.conv.state = .holdover → x.conv.fade = .fadeOut 0 →
      exec (.holdoverFadeOutEnd p) s = .next (put { x.conv with
        fraction := 0, history := List.replicate 16 ⟨0, 0, 0, 0⟩, fifo := [], fade := .none, starved := false })) ∧
    (x.conv.state = .holdover → 48000 ≤ x.conv.holdTimer → x.lane.state ≠ .framed →
      exec (.holdoverTimerExpiry p) s = .next (put { x.conv with
        state := .seek, fifo := [], interval := none, ended := none, history := List.replicate 16 ⟨0, 0, 0, 0⟩,
        fade := .none, starved := false, underrunWait := false, lockCount := 0, throughout := false })) ∧
    let lc := ((2 * (40 * 16777216) + x.conv.sEst) / (2 * x.conv.sEst)).toNat
    (32 ≤ x.conv.fifo.length → x.conv.underrunWait = true →
      ∃ d, exec (.underrunWaitEnd p) s = .next { s with dev := d } ∧
        d.ports = s.dev.ports.set p { x with conv := { x.conv with
          underrunWait := false, sApp := x.conv.sEst, fade := .fadeIn 0 true, lc := lc } } ∧
        d.time = s.dev.time ∧ d.mem = s.dev.mem ∧ d.map = s.dev.map ∧ d.link = s.dev.link) ∧
    (32 ≤ x.conv.fifo.length → x.conv.state = .holdover → x.conv.fade = .none → x.lane.state = .framed →
      ∃ d, exec (.holdoverRefillEnd p) s = .next { s with dev := d } ∧
        d.ports = s.dev.ports.set p { x with conv := { x.conv with
          state := .settle, sApp := x.conv.sEst, fraction := 0, fade := .fadeIn 0 false,
          coeffs := if x.conv.sEst ≤ 16777216 then .wide else .narrow, lockCount := 0,
          interval := some { start := x.conv.reading, count := 0 }, ended := none, lc := lc } } ∧
        d.time = s.dev.time ∧ d.mem = s.dev.mem ∧ d.map = s.dev.map ∧ d.link = s.dev.link)

/-! ## Changeovers -/

/-- R65, R70, R187: a PENDING context starts its crossfade once a test of R65 has passed, at its entry or at a house
sample since (`Obligations.HouseSampleStepsGeneratorsCheckersAndContexts`), and not before (log 1); that the test
passed stands as a mark until then is the model's choice (log 48). A return timer at its limit makes the automatic
request for PRIMARY, which the reports of that sub-block end show; its mark falls away where the context is no longer
idle, and without the mark the command has no effect. That a sub-block end leaves the request to its own command is
the model's choice (log 24). -/
def Obligations.CrossfadeStartAndReturn : Prop :=
  ∀ (s : State) (n : Ix8),
    let x := s.dev.prog n
    let progs := fun (c : Context) => s.dev.progs.set n { x with ctx := c }
    let put := fun (c : Context) => { s with dev := { s.dev with progs := progs c } }
    let due := x.record.state = .active ∧ x.ctx.state = .pending ∧
      x.ctx.startDue = true
    (s.dev.calm → due →
      exec (.crossfadeStart n) s = .next (put { x.ctx with state := .fading, startDue := false, fadeStep := 0, fadeFlag := true })) ∧
    (s.dev.calm → ¬ due → exec (.crossfadeStart n) s = .next s) ∧
    (x.record.state = .active → x.ctx.returnDue = true → x.ctx.state = .idle →
      let pend := { x.ctx with
        state := .pending, target := some (.primary, .auto), holdTimer := 0, returnTimer := 0, returnDue := false
        startDue := decide (x.ctx.quiet = 960 ∨ x.record.settings.holdLimit ≤ 0) }
      exec (.returnTimerExpiry n) s = .next { s with dev := { s.dev with
        progs := progs pend
        link := { s.dev.link with slots := Oct.ofFn fun k : Ix8 =>
          (s.dev.link.slots.get k).map fun r =>
            if s.dev.time.boundary = .taken ∧ r.h = s.dev.time.h then { r with ctx := ((progs pend).get k).ctx.state }
            else r } } }) ∧
    (x.ctx.returnDue = true → ¬ (x.record.state = .active ∧ x.ctx.state = .idle) →
      exec (.returnTimerExpiry n) s = .next (put { x.ctx with returnDue := false })) ∧
    (x.ctx.returnDue = false → exec (.returnTimerExpiry n) s = .next s)

/-- R67, R90, R94, R95, R97, R103, R114, R120, R147, R153: the completion of a crossfade flips the selection to its
target, sends CHANGEOVER with its notice, has every required length computed from the new current sources, with a
recalculation of mode DEADBAND or, during a change, one that waits, clears the filters of the watched members and,
with the flag adopted, the histogram, and reads the next target. That a test passed at the entry into PENDING stands
as a mark is the model's choice (log 48). -/
def Obligations.CrossfadeCompletionFlipsTheSelection : Prop :=
  ∀ (s : State) (n : Ix8) (side : Selection) (origin : Origin), s.dev.calm →
    let x := s.dev.prog n
    let r := s.dev.alarms.get (.changeover n)
    x.record.state = .active → x.ctx.state = .fading → 480 ≤ x.ctx.fadeStep → x.ctx.target = some (side, origin) →
    let done : Context := { x.ctx with
      selection := side, selectedBy := origin, state := .idle, target := none, next := none, fadeStep := 0,
      holdTimer := 0, returnTimer := 0, returnDue := false, startDue := false }
    ∃ d, exec (.crossfadeCompletion n) s = .next { s with dev := d } ∧
      let y := d.prog n
      (x.ctx.next = none ∨ x.ctx.next = some side → y.ctx = done) ∧
      (∀ o, x.ctx.next = some o → o ≠ side → y.ctx = { done with
        state := .pending, target := some (o, .host)
        startDue := decide (x.ctx.quiet = 960 ∨ x.record.settings.holdLimit ≤ 0) }) ∧
      (d.alarms.get (.changeover n)).latch = true ∧
      (d.alarms.get (.changeover n)).count = addSat r.count 1 ∧
      (d.alarms.get (.changeover n)).time = s.dev.time.seconds ∧
      (∀ (m : Ix8) (z : Member), x.record.members[m.val]? = some z →
        let source := match side, z.backup with
          | .backup, some b => b
          | _, _ => z.primary
        ((y.delay.lines.get m).dReq : Int) = max 0 (min 480000
          (x.record.settings.delayTarget - ((s.dev.port source.port).conv.lc : Int) - 24)) ∧
        (z.backup ≠ none → (y.meter.members.get m).stage1 = ⟨0, 0, 0, 0⟩ ∧
          (y.meter.members.get m).stage2 = ⟨0, 0, 0, 0⟩) ∧
        (z.backup = none → y.meter.members.get m = x.meter.members.get m)) ∧
      (let flipped : Device := { s.dev with progs := s.dev.progs.set n { x with ctx := y.ctx } }
       s.dev.changing n = false → flipped.meets n .deadband → flipped.recalculated d n .deadband false) ∧
      (s.dev.changing n = true → s.dev.hasEntry n = false →
        y.delay.pending = some { mode := x.delay.pending.elim .deadband PendingRecalc.mode
                                 host := x.delay.pending.elim false PendingRecalc.host } ∧
        y.delay.fade = x.delay.fade ∧ y.delay.tLines = x.delay.tLines ∧
        d.alarms.queue = s.dev.alarms.queued (.changeover n) (d.alarms.get (.changeover n))) ∧
      (x.meter.resetFlag = true → y.meter.bins = [] ∧ y.meter.belowGate = 0 ∧ y.meter.integrated = none) ∧
      (x.meter.resetFlag = false → y.meter.bins = x.meter.bins ∧ y.meter.belowGate = x.meter.belowGate ∧
        y.meter.integrated = x.meter.integrated) ∧
      y.meter.energies = x.meter.energies ∧ y.record = x.record ∧ y.gain = x.gain ∧ y.stage = x.stage ∧
      y.gen = x.gen ∧ (∀ k, k ≠ n → (d.prog k).ctx = (s.dev.prog k).ctx) ∧
      d.time = s.dev.time ∧ d.ports = s.dev.ports ∧ d.mem = s.dev.mem ∧ d.map = s.dev.map ∧ d.link = s.dev.link

/-! ## The pool and the delay lines -/

/-- R82, R83, R84, R94, R103: a grant of the one waiting entry that covers its programme's shortfall gives every
member its need, and its notice during a change is folded as an EXACT trigger (no line being empty and left with more
blocks than its lengths need, which R92 would hand back, log 21); an entry larger than the free count waits. That the
notice is taken with the command is the model's choice (log 23). -/
def Obligations.GrantCoversTheShortfall : Prop :=
  ∀ (s : State) (n : Ix8) (count : Nat) (limited : Bool) (needs : List Nat),
    s.dev.pool.queue = [{ prog := n, count := count, limited := limited }] → s.dev.pool.notices = [] →
    s.dev.pool.needs.get n = some needs → needs.length ≤ 8 →
    let x := s.dev.prog n
    (∀ (m : Ix8) (z : Member), x.record.members[m.val]? = some z → (s.dev.line n m).d = 0 →
      max (needs.getD m.val 0) (s.dev.line n m).held ≤
        max (if (s.dev.line n m).change = .steady then 0 else needOf (s.dev.line n m).dNew)
        (needOf (s.dev.required x.record.settings.delayTarget (z.on x.ctx.selection)).toNat)) →
    (s.dev.pool.free.length < count → exec .grant s = .next s) ∧
    (count ≤ s.dev.pool.free.length → count = s.dev.shortfall n needs →
      (s.dev.prog n).record.state = .active → s.dev.changing n = true →
      ∃ d, exec .grant s = .next { s with dev := d } ∧
        d.pool = { s.dev.pool with
          free := s.dev.pool.free.drop count, queue := [], needs := s.dev.pool.needs.set n none } ∧
        (∀ (m : Ix8) (k : Nat), needs[m.val]? = some k →
          (d.line n m).held = max k (s.dev.line n m).held ∧ (d.line n m).inUse = (s.dev.line n m).inUse ∧
          (d.line n m).d = (s.dev.line n m).d) ∧
        (d.prog n).delay.pending = some { mode := .exact, host :=
          match (s.dev.prog n).delay.pending with
          | some p => p.host
          | none => false } ∧
        (∀ k, k ≠ n → d.prog k = s.dev.prog k) ∧
        d.time = s.dev.time ∧ d.ports = s.dev.ports ∧ d.mem = s.dev.mem ∧ d.map = s.dev.map ∧
        d.alarms = s.dev.alarms ∧ d.link = s.dev.link)

/-- R95, R97, R98, R100, R103, R134, R135: a slew action at a counter of 256: the counter returns to 0 and the
remaining count falls by 1, a SLEW_DOWN drops the head sample, and the last action of the last slewing member ends the
change and takes a pending recalculation at once; that the added sample of a SLEW_UP was kept in the house sample is
the model's choice (log 29). And four ends of counts: a member frozen for its freeze count runs again (log 25), a GAP
at its length becomes FADE_IN and before it the command, not due, has no effect (log 1), and a ramp of the applied
gain or of the trim at step 480 ends at its target. -/
def Obligations.SlewsGapsAndRampsEnd : Prop :=
  ∀ (s : State) (n m : Ix8), s.dev.calm →
    let x := s.dev.prog n
    let put := fun (y : Programme) => { s with dev := { s.dev with progs := s.dev.progs.set n y } }
    let l := s.dev.line n m
    let line := fun (k : Line) => put { x with delay := { x.delay with lines := x.delay.lines.set m k } }
    let listed := m.val < x.record.members.length ∧ 256 ≤ l.slewCounter
    (listed → l.change = .slewUp → 2 ≤ l.remaining →
      exec (.slewAction n m) s = .next (line { l with slewCounter := 0, remaining := l.remaining - 1 })) ∧
    (listed → l.change = .slewDown → 2 ≤ l.remaining → 2 ≤ l.d → l.headPos + 1 < 1024 →
      exec (.slewAction n m) s = .next (line { l with
        slewCounter := 0, remaining := l.remaining - 1, d := l.d - 1, headPos := l.headPos + 1,
        headIndex := l.headIndex + 1 })) ∧
    (listed → l.change = .slewUp → l.remaining = 1 → (s.dev.prog n).record.state = .active →
      (s.dev.prog n).delay.fade = .none → (∀ k : Ix8, k ≠ m → (s.dev.line n k).change = .steady) →
      (s.dev.prog n).delay.pending = none → (s.dev.alarms.get (.delayShort n)).active = false →
      exec (.slewAction n m) s = .next (line { l with change := .steady, slewCounter := 0, remaining := 0 })) ∧
    (listed → l.change = .slewUp ∨ (l.change = .slewDown ∧ 2 ≤ l.d ∧ l.headPos + 1 < 1024) → l.remaining = 1 →
      x.record.state = .active → x.delay.fade = .none → (∀ k : Ix8, k ≠ m → (s.dev.line n k).change = .steady) →
      ∀ p, x.delay.pending = some p →
        let still : Line := { l with change := .steady, slewCounter := 0, remaining := 0 }
        let moved : Line :=
          if l.change = .slewUp then still
          else { still with d := l.d - 1, headPos := l.headPos + 1, headIndex := l.headIndex + 1 }
        let settled : Delay := { x.delay with lines := x.delay.lines.set m moved, pending := none }
        let ended : Device := { s.dev with progs := s.dev.progs.set n { x with delay := settled } }
        ended.meets n p.mode →
        ∃ d, exec (.slewAction n m) s = .next { s with dev := d } ∧ ended.recalculated d n p.mode p.host) ∧
    let k := x.stage.members.get m
    (x.delay.fade = .gap → 0 < (s.dev.line n m).freeze → (s.dev.line n m).freeze ≤ x.delay.fadeStep →
      exec (.freezeEnd n m) s = .next (put { x with delay := { x.delay with
        lines := x.delay.lines.set m { s.dev.line n m with freeze := 0 } } })) ∧
    (x.delay.fade = .gap → x.delay.gapLength ≤ x.delay.fadeStep →
      exec (.gapEnd n) s = .next (put { x with delay := { x.delay with fade := .fadeIn, fadeStep := 0 } })) ∧
    (x.delay.fade = .gap → x.delay.fadeStep < x.delay.gapLength → exec (.gapEnd n) s = .next s) ∧
    (∀ r, k.ramp = some r → 480 ≤ r.step →
      exec (.appliedGainRampEnd n m) s = .next (put { x with stage := { x.stage with
        members := x.stage.members.set m { k with ramp := none, applied := r.target } } })) ∧
    (∀ r, x.stage.trimRamp = some r → 480 ≤ r.step →
      exec (.trimRampEnd n) s = .next (put { x with stage := { x.stage with trimRamp := none, trim := r.target } }))

/-- R95, R97, R100, R101, R103, R105: the end of FADE_OUT discards from the shrinking lines and gives the growing ones
their freeze counts, the longest being the gap, which is skipped where none grows; the end of FADE_IN ends the change
with every member STEADY, and a pending recalculation is taken at once, with the mode and the host mark folded into
it, or DELAY_SHORT is judged. That the freeze counts, the fade step and the gap length go to 0 there is the model's
choice (log 25). -/
def Obligations.ProgrammeFadeChangesTheLengths : Prop :=
  ∀ (s : State) (n : Ix8), s.dev.calm →
    let x := s.dev.prog n
    let grow := fun (m : Ix8) => (x.delay.lines.get m).dNew - (x.delay.lines.get m).d
    let gap := (x.record.positions.map grow).foldl max 0
    (x.delay.fade = .fadeOut → x.delay.fadeStep = 240 →
      ∃ d, exec (.fadeOutEnd n) s = .next { s with dev := d } ∧
        (d.prog n).delay.fade = (if gap = 0 then .fadeIn else .gap) ∧ (d.prog n).delay.fadeStep = 0 ∧
        (d.prog n).delay.gapLength = gap ∧ (d.prog n).record = x.record ∧ (d.prog n).stage = x.stage ∧
        (∀ m ∈ x.record.positions,
          (d.line n m).d = min (s.dev.line n m).d (s.dev.line n m).dNew ∧ (d.line n m).freeze = grow m ∧
          (d.line n m).dNew = (s.dev.line n m).dNew ∧ (d.line n m).change = .wait) ∧
        d.time = s.dev.time ∧ d.ports = s.dev.ports ∧ d.mem = s.dev.mem ∧ d.map = s.dev.map ∧
        d.alarms = s.dev.alarms ∧ d.link = s.dev.link) ∧
    (x.delay.fade = .fadeIn → x.delay.fadeStep = 240 → x.record.state = .active → x.delay.pending = none →
      ∃ d, exec (.fadeInEnd n) s = .next { s with dev := d } ∧
        (d.prog n).delay.fade = .none ∧ (d.prog n).delay.fadeStep = 0 ∧ (d.prog n).delay.gapLength = 0 ∧
        (∀ m ∈ x.record.positions, d.line n m = { s.dev.line n m with change := .steady, freeze := 0 }) ∧
        ((∀ m ∈ x.record.positions, (s.dev.line n m).clamped = false) → s.dev.hasEntry n = false →
          (d.alarms.get (.delayShort n)).active = false) ∧
        d.pool = s.dev.pool ∧ (d.prog n).record = x.record ∧ (d.prog n).stage = x.stage ∧
        d.time = s.dev.time ∧ d.ports = s.dev.ports ∧ d.mem = s.dev.mem ∧ d.map = s.dev.map ∧ d.link = s.dev.link) ∧
    (x.delay.fade = .fadeIn → x.delay.fadeStep = 240 → x.record.state = .active → ∀ p, x.delay.pending = some p →
      let settled : Delay :=
        { x.delay with
          fade := .none, fadeStep := 0, gapLength := 0, pending := none
          lines := Oct.ofFn fun m =>
            if m.val < x.record.members.length then { s.dev.line n m with change := .steady, freeze := 0 }
            else s.dev.line n m }
      let ended : Device := { s.dev with progs := s.dev.progs.set n { x with delay := settled } }
      ended.meets n p.mode →
      ∃ d, exec (.fadeInEnd n) s = .next { s with dev := d } ∧ ended.recalculated d n p.mode p.host)

/-- R54, R86, R107, R143: the end of the stop fade, before which the command has no effect (log 1): the blocks go back
in the order of the lines, the lines, the schedule and the gains are cleared, and the record rests in STANDBY. -/
def Obligations.StopFadeEndTearsDown : Prop :=
  ∀ (s : State) (n : Ix8), s.dev.calm →
    let x := s.dev.prog n
    let blocks := x.delay.lines.toList.flatMap fun l => l.inUse ++ l.spare
    (x.record.state ≠ .stopping ∨ x.stage.stopStep < 480 → exec (.stopFadeEnd n) s = .next s) ∧
    (x.record.state = .stopping → 480 ≤ x.stage.stopStep → s.dev.hasEntry n = false →
      ∃ d, exec (.stopFadeEnd n) s = .next { s with dev := d } ∧
        d.prog n = { x with
          record := { x.record with state := .standby }
          delay := Delay.reset
          gain := { g := 0, previous := 0, schedule := [] }
          stage := { x.stage with members := Oct.fill StageMember.reset, trimRamp := none, stopStep := 0 } } ∧
        (s.dev.pool.queue = [] → d.pool = { s.dev.pool with free := s.dev.pool.free ++ blocks }) ∧
        (∀ k, k ≠ n → (d.prog k).record = (s.dev.prog k).record) ∧
        d.time = s.dev.time ∧ d.ports = s.dev.ports ∧ d.mem = s.dev.mem ∧ d.map = s.dev.map ∧
        d.alarms = s.dev.alarms ∧ d.link = s.dev.link)

/-- R91, R92, R98, R100: a line of length D is a queue of its last D samples: a normal house sample delivers the head
sample, moves every other sample one place, puts the input at the tail, and leaves D as it was; one that keeps the
head sample, for the action of a slew upwards (log 29) or while the line is frozen, puts the input at the tail alone,
and D rises by one. Each writes the one word of the delay memory at the tail, in the tail block or in the spare at the
head of its list. -/
def Obligations.DelayLineIsAQueue : Prop :=
  ∀ (l : Line) (mem : DelayMemory) (h : HouseIndex) (x : Sample), l.Sound → mem.wf = true →
    let tail := blockWord ((l.inUse ++ l.spare.take 1).getD ((l.headPos + l.d) / 1024) 0) ((l.headPos + l.d) % 1024)
    (1 ≤ l.d →
      let r := l.step mem h x .normal
      r.delivered = some (mem.read (l.wordAt 0)) ∧ r.line.d = l.d ∧ r.line.headIndex = h - BitVec.ofNat 48 l.d ∧
      r.mem.read (r.line.wordAt (l.d - 1)) = x ∧
      (∀ i, i + 1 < l.d → r.mem.read (r.line.wordAt i) = mem.read (l.wordAt (i + 1))) ∧
      r.mem.read tail = x ∧ ∀ a, a ≠ tail → r.mem.read a = mem.read a) ∧
    (l.d = 0 → l.step mem h x .normal =
      { line := { l with headIndex := h }, mem := mem, delivered := some x, back := [] }) ∧
    ∀ w, w = .repeatHead ∨ w = .frozen →
      let r := l.step mem h x w
      r.delivered = (if w = .frozen then none else some (if l.d = 0 then x else mem.read (l.wordAt 0))) ∧
      r.line.d = l.d + 1 ∧ r.line.headIndex = h - BitVec.ofNat 48 l.d ∧ r.back = [] ∧
      r.mem.read (r.line.wordAt l.d) = x ∧
      (∀ i, i < l.d → r.mem.read (r.line.wordAt i) = mem.read (l.wordAt i)) ∧
      r.mem.read tail = x ∧ ∀ a, a ≠ tail → r.mem.read a = mem.read a

/-! ## Checkers and qualified conditions -/

/-- R146, R153, R170, R171: a correct run of 48 takes a checker from HUNT to SYNC with CHECK_LOSS inactive, 8 errors
in its window take it back with CHECK_LOSS active; no other command finds such a change undone (log 42). R146, R148,
R153, R187: a set timer at its limit makes its condition active, latched, counted and timed, the reports of that
sub-block end showing a request it makes, and a clear timer at its limit makes it inactive with the latch and the
count kept. Each change of a condition queues a notice, or brings the pending one up to date in its place, where its
kind has notify enabled. That the expiry is a command of its own is the model's choice (log 24). -/
def Obligations.CheckersAndTimersChangeConditions : Prop :=
  (∀ (s : State) (i : Ix2),
    let c := s.dev.checkers.get i
    let a := Alarm.checkLoss i
    let r := s.dev.alarms.get a
    let notified := r.noticed || (s.dev.alarms.masks.get a.kind).notify
    let goes := fun (command : Instr) (k : Checker) (changes : Prop) (t : AlarmRecord) =>
      ∃ u, exec command s = .next { s with dev := { s.dev with checkers := s.dev.checkers.set i k, alarms := u } } ∧
        (changes → u.get a = t ∧ u.queue = s.dev.alarms.queued a t ∧ u.masks = s.dev.alarms.masks ∧
          ∀ b, b ≠ a → u.get b = s.dev.alarms.get b) ∧
        (¬ changes → u = s.dev.alarms)
    (c.state = .hunt → 48 ≤ c.correctRun →
      goes (.checkerSync i) { c with state := .sync, window := List.replicate 48 false } (r.active = true)
        { r with active := false, setTimer := 0, clearTimer := 0, time := s.dev.time.seconds, noticed := notified,
                 expiry := .none }) ∧
    (¬ (c.state = .hunt ∧ 48 ≤ c.correctRun) → exec (.checkerSync i) s = .next s) ∧
    (c.state = .sync → 8 ≤ c.window.count true →
      goes (.checkerLoss i) { c with state := .hunt, loadCount := 0, correctRun := 0, window := [], delay := none }
        (r.active = false)
        { active := true, latch := true, count := addSat r.count 1, setTimer := 0, clearTimer := 0,
          time := s.dev.time.seconds, noticed := notified, expiry := .none }) ∧
    (¬ (c.state = .sync ∧ 8 ≤ c.window.count true) → exec (.checkerLoss i) s = .next s)) ∧
  ∀ (s : State) (k : Qualified) (i : Ix8),
    let a := qualifiedAlarm k i
    let r := s.dev.alarms.get a
    let notified := r.noticed || (s.dev.alarms.masks.get a.kind).notify
    (r.expiry = .set → r.active = false →
      ∃ d, exec (.setTimerExpiry k i) s = .next { s with dev := d } ∧
        d.alarms.get a = { active := true, latch := true, count := addSat r.count 1, setTimer := 0, clearTimer := 0,
                           time := s.dev.time.seconds, noticed := notified, expiry := .none } ∧
        d.alarms.queue = s.dev.alarms.queued a (d.alarms.get a) ∧
        (∀ b, b ≠ a → d.alarms.get b = s.dev.alarms.get b) ∧
        (∀ n, ∃ c, d.prog n = { s.dev.prog n with ctx := c } ∧
          (k = .loudHigh ∨ k = .loudLow → c = (s.dev.prog n).ctx)) ∧
        d.time = s.dev.time ∧ d.ports = s.dev.ports ∧ d.pool = s.dev.pool ∧ d.mem = s.dev.mem ∧
        d.map = s.dev.map ∧ d.checkers = s.dev.checkers ∧ d.link = { s.dev.link with slots := d.link.slots } ∧
        ∀ n : Ix8, d.link.slots.get n = (s.dev.link.slots.get n).map fun r =>
          if s.dev.time.boundary = .taken ∧ r.h = s.dev.time.h then { r with ctx := (d.prog n).ctx.state } else r) ∧
    (r.expiry = .clear → r.active = true →
      ∃ u, exec (.clearTimerExpiry k i) s = .next { s with dev := { s.dev with alarms := u } } ∧
        u.get a = { r with active := false, setTimer := 0, clearTimer := 0, time := s.dev.time.seconds,
                           noticed := notified, expiry := .none } ∧
        u.queue = s.dev.alarms.queued a (u.get a) ∧
        ∀ b, b ≠ a → u.get b = s.dev.alarms.get b)

/-! ## Figures -/

/-- R2, R14, R64, R117, R119, R122, R136, R165: slot levels, loudness figures, amplitudes and gain factors are the
exact logarithms and powers of the rules, rounded with halves toward plus infinity and clamped. The integrated
loudness comes by the five steps of R122: absent where every count is 0; else the mean of the bins at or above the
gate, which lies 10.0 below the rounded mean of all. A mean within 2^(-30000) of a rounding limit is left out, of
which log 31 holds that there is none. -/
def Obligations.FiguresAreExactLogarithms : Prop :=
  (∀ peak : Nat, 0 < peak → peak ≤ 8388608 →
    levelOf peak = max (-999) (min 0 ⌊200 * Real.logb 10 ((peak : ℝ) / 8388608) + 1 / 2⌋)) ∧
  levelOf 0 = -999 ∧
  (∀ e : Rat, 0 < e → loudnessOf e = max (-999) (min 99 ⌊100 * Real.logb 10 (e : ℝ) + 1 / 2⌋)) ∧
  loudnessOf 0 = -999 ∧
  (∀ level : Int, level ≤ 0 → (amplitudeOf level : Int) = ⌊8388608 * (10 : ℝ) ^ ((level : ℝ) / 200) + 1 / 2⌋) ∧
  (∀ total : Int, total ≤ 2000 → gainFactor total = ⌊1048576 * (10 : ℝ) ^ ((total : ℝ) / 2000) + 1 / 2⌋) ∧
  ∀ bins : List (Nat × Nat), bins.Pairwise (fun a b => a.1 < b.1) → (∀ b ∈ bins, b.1 ≤ 799) →
    let count := fun (l : List (Nat × Nat)) => (l.map Prod.snd).sum
    let energy := fun (l : List (Nat × Nat)) =>
      (l.map fun b => (b.2 : ℝ) * (10 : ℝ) ^ (((b.1 : ℝ) - 700) / 100)).sum / (count l : ℝ)
    let tenths := fun (l : List (Nat × Nat)) => 100 * Real.logb 10 (energy l) + 1 / 2
    let clear := fun (l : List (Nat × Nat)) => ∀ t : ℤ, (2 : ℝ) ^ (-30000 : ℤ) ≤ |tenths l - t|
    let gate := ⌊tenths bins⌋ - 100
    let kept := bins.filter fun b => gate ≤ (b.1 : Int) - 700
    (count bins = 0 → integratedOf bins = none) ∧
    (0 < count bins → clear bins → clear kept → integratedOf bins = some ⌊tenths kept⌋)

/-! ## Invariants of every step -/

/-- R8, R65, R70, R146, R148, R156: every step keeps the ALM pin at the level of the latches and the summary enables,
every active condition latched, and the marks such as the rules leave them: of timers and returns at their limits, of
a boundary, and of a test passed in PENDING. That such marks stand between two commands is the model's choice (logs
24, 4 and 48). -/
def Obligations.StepKeepsPinAndLatches : Prop :=
  (∀ s t : State, s.dev.pinSound → s.dev.latchSound → step s = .next t → t.dev.pinSound ∧ t.dev.latchSound) ∧
    (∀ s t : State, s.dev.marksSound → step s = .next t → t.dev.marksSound) ∧
    ∀ s t : State, s.dev.opensSound → step s = .next t → t.dev.opensSound

/-- Table 1-1, R163, R188: every step keeps REF_LOSS active exactly in HOLDING, and the timebase INTERNAL in
CONFIG. -/
def Obligations.StepKeepsRefLossInHolding : Prop :=
  ∀ s t : State, s.dev.refLossSound → step s = .next t → t.dev.refLossSound

/-- R180, R181, R183, R184, R190: every step keeps at most 4 queued frames, at most 4 BUSY replies and at most one
reply of an executed request; and it leaves no frame waiting that the executor could take, a RESTART that awaits its
reply's end having that reply on the line or in the list. That the executor takes a frame with the command that brings
it, or with the next, is the model's choice (log 15). -/
def Obligations.StepKeepsTheLinkBounds : Prop :=
  (∀ s t : State, s.dev.linkSound → step s = .next t → t.dev.linkSound) ∧
    ∀ s t : State, s.dev.linkServed → s.dev.restartSound → step s = .next t →
      t.dev.linkServed ∧ t.dev.restartSound

/-- R74, R76: every step keeps the P blocks of the pool each in one place, on the free list or in one line, and none
in CONFIG. -/
def Obligations.StepKeepsTheBlocks : Prop :=
  ∀ s t : State, s.dev.blocksSound → step s = .next t → t.dev.blocksSound

/-- Every step keeps the delay memory in canonical form, so that equal memories are equal data. The form is the
model's (log 18). -/
def Obligations.StepKeepsTheMemoryForm : Prop :=
  ∀ s t : State, s.dev.memorySound → step s = .next t → t.dev.memorySound
end

