-- ==== Sys2Proof/Laws/Tables.lean ====
section
/-!
SUPPORT. How the fixed-size tables read back: places of eight, four and two, alarm records and kinds.
-/

namespace Sys2Proof

/-- The place written reads back. -/
@[simp] theorem Oct.get_set_self {α : Type} (o : Oct α) (i : Ix8) (a : α) : (o.set i a).get i = a := by
  fin_cases i <;> rfl

/-- Another place reads as before. -/
theorem Oct.get_set_ne {α : Type} (o : Oct α) {i j : Ix8} (a : α) (h : i ≠ j) : (o.set i a).get j = o.get j := by
  fin_cases i <;> fin_cases j <;> first | exact absurd rfl h | rfl

/-- A place of a table with one place written. -/
theorem Oct.get_set {α : Type} (o : Oct α) (i j : Ix8) (a : α) :
    (o.set i a).get j = if i = j then a else o.get j := by
  by_cases h : i = j
  · subst h; simp
  · simp [h, Oct.get_set_ne o a h]

/-- A place of a table with one place changed. -/
theorem Oct.get_modify {α : Type} (o : Oct α) (i j : Ix8) (f : α → α) :
    (o.modify i f).get j = if i = j then f (o.get i) else o.get j := Oct.get_set o i j _

@[simp] theorem Oct.get_modify_self {α : Type} (o : Oct α) (i : Ix8) (f : α → α) :
    (o.modify i f).get i = f (o.get i) := by simp [Oct.modify]

@[simp] theorem Oct.get_map {α β : Type} (o : Oct α) (f : α → β) (i : Ix8) : (o.map f).get i = f (o.get i) := by
  fin_cases i <;> rfl

@[simp] theorem Oct.get_ofFn {α : Type} (f : Ix8 → α) (i : Ix8) : (Oct.ofFn f).get i = f i := by
  fin_cases i <;> rfl

@[simp] theorem Oct.get_fill {α : Type} (a : α) (i : Ix8) : (Oct.fill a).get i = a := by
  fin_cases i <;> rfl

/-- Two tables that read alike are equal. -/
theorem Oct.ext_get {α : Type} {o p : Oct α} (h : ∀ i, o.get i = p.get i) : o = p := by
  cases o; cases p
  have h0 := h 0; have h1 := h 1; have h2 := h 2; have h3 := h 3
  have h4 := h 4; have h5 := h 5; have h6 := h 6; have h7 := h 7
  simp only [Oct.get] at h0 h1 h2 h3 h4 h5 h6 h7
  simp [*]

/-- Writing what a place holds changes nothing. -/
@[simp] theorem Oct.set_get {α : Type} (o : Oct α) (i : Ix8) : o.set i (o.get i) = o :=
  Oct.ext_get fun j => by
    by_cases h : i = j
    · subst h; simp
    · simp [Oct.get_set, h]

@[simp] theorem Quad.get_set_self {α : Type} (q : Quad α) (i : Ix4) (a : α) : (q.set i a).get i = a := by
  fin_cases i <;> rfl

/-- A slot of a lane with one slot written. -/
theorem Quad.get_set {α : Type} (q : Quad α) (i j : Ix4) (a : α) :
    (q.set i a).get j = if i = j then a else q.get j := by
  fin_cases i <;> fin_cases j <;> rfl

@[simp] theorem Quad.get_map {α β : Type} (q : Quad α) (f : α → β) (i : Ix4) : (q.map f).get i = f (q.get i) := by
  fin_cases i <;> rfl

@[simp] theorem Quad.get_ofFn {α : Type} (f : Ix4 → α) (i : Ix4) : (Quad.ofFn f).get i = f i := by
  fin_cases i <;> rfl

@[simp] theorem Quad.get_fill {α : Type} (a : α) (i : Ix4) : (Quad.fill a).get i = a := by
  fin_cases i <;> rfl

@[simp] theorem Duo.get_set_self {α : Type} (o : Duo α) (i : Ix2) (a : α) : (o.set i a).get i = a := by
  fin_cases i <;> rfl

/-- A checker of the two with one written. -/
theorem Duo.get_set {α : Type} (o : Duo α) (i j : Ix2) (a : α) :
    (o.set i a).get j = if i = j then a else o.get j := by
  fin_cases i <;> fin_cases j <;> rfl

@[simp] theorem Duo.get_fill {α : Type} (a : α) (i : Ix2) : (Duo.fill a).get i = a := by
  fin_cases i <;> rfl

namespace Machine

@[simp] theorem AlarmRecords.get_set_self (r : AlarmRecords) (a : Alarm) (x : AlarmRecord) :
    (r.set a x).get a = x := by
  cases a <;> simp [AlarmRecords.set, AlarmRecords.get]

/-- The records of the other instances stay as they are. -/
theorem AlarmRecords.get_set_ne (r : AlarmRecords) {a b : Alarm} (x : AlarmRecord) (h : a ≠ b) :
    (r.set a x).get b = r.get b := by
  cases a <;> cases b <;>
    first
    | rfl
    | (simp only [AlarmRecords.set, AlarmRecords.get, Oct.get_set, Duo.get_set]
       exact if_neg fun e => h (by rw [e]))
    | exact absurd rfl h

@[simp] theorem PerKind.get_set_self {α : Type} (t : PerKind α) (k : Kind) (x : α) : (t.set k x).get k = x := by
  cases k <;> rfl

/-- The things of the other kinds stay as they are. -/
theorem PerKind.get_set_ne {α : Type} (t : PerKind α) {k j : Kind} (x : α) (h : k ≠ j) :
    (t.set k x).get j = t.get j := by
  cases k <;> cases j <;> first | rfl | exact absurd rfl h

/-- Every instance stands in the list of all 75. -/
theorem mem_allAlarms (a : Alarm) : a ∈ allAlarms := by
  cases a with
  | refLoss => decide
  | checkLoss c => fin_cases c <;> decide
  | unlock p => fin_cases p <;> decide
  | rateRange p => fin_cases p <;> decide
  | slip p => fin_cases p <;> decide
  | silence p => fin_cases p <;> decide
  | loudHigh p => fin_cases p <;> decide
  | loudLow p => fin_cases p <;> decide
  | delayShort p => fin_cases p <;> decide
  | overEvent p => fin_cases p <;> decide
  | changeover p => fin_cases p <;> decide

end Machine

end Sys2Proof
end

