-- ==== Sys2Proof/Laws/Alarms.lean ====
section
/-!
SUPPORT. The alarm unit: what each of its operations leaves in every record, in the enables, and at the pin.
-/

namespace Sys2Proof.Machine

/-! ## Records -/

/-- A record replaced reads back, and every other record reads as before. -/
theorem AlarmRecords.get_set (r : AlarmRecords) (a b : Alarm) (x : AlarmRecord) :
    (r.set a x).get b = if b = a then x else r.get b := by
  by_cases h : b = a
  · subst h; simp
  · rw [AlarmRecords.get_set_ne r x (Ne.symm h), if_neg h]

/-- A kind's enables replaced read back, and every other kind's read as before. -/
theorem PerKind.get_set {α : Type} (t : PerKind α) (k j : Kind) (x : α) :
    (t.set k x).get j = if j = k then x else t.get j := by
  cases k <;> cases j <;> simp [PerKind.set, PerKind.get]

variable (u : AlarmUnit) (a b : Alarm) (x : AlarmRecord) (now : BitVec 32)

theorem AlarmUnit.put_get : (u.put a x).get b = if b = a then x else u.get b := AlarmRecords.get_set _ _ _ _
@[simp] theorem AlarmUnit.put_masks : (u.put a x).masks = u.masks := rfl
@[simp] theorem AlarmUnit.put_queue : (u.put a x).queue = u.queue := rfl

/-- Replacing a record leaves the pin where the records and the enables put it. -/
theorem AlarmUnit.put_pin : (u.put a x).pin = pinLevel (u.put a x).records (u.put a x).masks := rfl

/-! ## The pin -/

/-- The pin level reads each record's latch only. -/
theorem pinLevel_iff (r : AlarmRecords) (m : PerKind Mask) :
    pinLevel r m = true ↔ ∃ a, (m.get a.kind).summary = true ∧ (r.get a).latch = true := by
  simp [pinLevel, mem_allAlarms]

/-- Records with the same latches put the pin at the same level. -/
theorem pinLevel_congr {r q : AlarmRecords} (m : PerKind Mask) (h : ∀ a, (r.get a).latch = (q.get a).latch) :
    pinLevel r m = pinLevel q m := by
  rw [Bool.eq_iff_iff, pinLevel_iff, pinLevel_iff]
  simp only [h]

/-! ## Notices -/

/-- A notice changes the flag of its own record alone. -/
theorem AlarmUnit.notify_get : (u.notify a).get b =
    if b = a then { u.get a with noticed := (u.get a).noticed || (u.masks.get a.kind).notify } else u.get b := by
  have eta : ∀ (r : AlarmRecord) (v : Bool), v = r.noticed → { r with noticed := v } = r := by rintro _ _ rfl; rfl
  simp only [AlarmUnit.notify]
  by_cases e : b = a
  · subst e
    by_cases h : (u.masks.get b.kind).notify = true <;> by_cases k : (u.get b).noticed = true
    · rw [if_pos h, if_pos k, if_pos rfl, eta _ _ (by simp [k])]; rfl
    · rw [if_pos h, if_neg k, if_pos rfl]
      simp [h, AlarmUnit.get, AlarmUnit.put, AlarmUnit.judge]
    all_goals rw [if_neg h, if_pos rfl, eta _ _ (by simp [h])]
  · rw [if_neg e]
    split_ifs
    exacts [rfl, AlarmRecords.get_set_ne _ _ (Ne.symm e), rfl]

@[simp] theorem AlarmUnit.notify_masks : (u.notify a).masks = u.masks := by
  simp only [AlarmUnit.notify]
  split_ifs <;> rfl

/-- A notice keeps the pin judged. -/
theorem AlarmUnit.notify_pin (h : u.pin = pinLevel u.records u.masks) :
    (u.notify a).pin = pinLevel (u.notify a).records (u.notify a).masks := by
  simp only [AlarmUnit.notify]
  split_ifs
  exacts [h, rfl, h]

/-- Dropping a notice clears the flag of its record alone. -/
theorem AlarmUnit.dropNotice_get : (u.dropNotice a).get b =
    if b = a then { u.get a with noticed := false } else u.get b := u.put_get a b _

/-! ## Changes and events (R146, R147, R161, R162) -/

/-- What a condition's activation leaves in every record. -/
theorem AlarmUnit.activate_get : (u.activate now a).get b =
    if b = a ∧ (u.get a).active = false then
      { active := true, latch := true, count := addSat (u.get a).count 1, setTimer := 0, clearTimer := 0, time := now,
        noticed := (u.get a).noticed || (u.masks.get a.kind).notify, expiry := .none }
    else u.get b := by
  by_cases h : (u.get a).active = true
  · simp [AlarmUnit.activate, h]
  · by_cases e : b = a <;> simp_all [AlarmUnit.activate, AlarmUnit.notify_get, AlarmUnit.put_get]

/-- What a condition's deactivation leaves in every record. -/
theorem AlarmUnit.deactivate_get : (u.deactivate now a).get b =
    if b = a ∧ (u.get a).active = true then
      { u.get a with
        active := false, setTimer := 0, clearTimer := 0, time := now, expiry := .none
        noticed := (u.get a).noticed || (u.masks.get a.kind).notify }
    else u.get b := by
  by_cases h : (u.get a).active = true
  · by_cases e : b = a <;> simp_all [AlarmUnit.deactivate, AlarmUnit.notify_get, AlarmUnit.put_get]
  · simp [AlarmUnit.deactivate, h]

/-- What an event leaves in every record. -/
theorem AlarmUnit.occur_get : (u.occur now a).get b =
    if b = a then
      { u.get a with
        latch := true, count := addSat (u.get a).count 1, time := now
        noticed := (u.get a).noticed || (u.masks.get a.kind).notify }
    else u.get b := by
  by_cases e : b = a <;> simp_all [AlarmUnit.occur, AlarmUnit.notify_get, AlarmUnit.put_get]

/-- What a forced deactivation leaves in every record. -/
theorem AlarmUnit.force_get : (u.force now a).get b =
    if b = a then
      { (u.deactivate now a).get a with setTimer := 0, clearTimer := 0, expiry := .none }
    else u.get b := by
  by_cases e : b = a <;> simp_all [AlarmUnit.force, AlarmUnit.put_get, AlarmUnit.deactivate_get]

/-- What wiping a record leaves in every record. -/
theorem AlarmUnit.wipe_get : (u.wipe a).get b = if b = a then .reset else u.get b := by
  by_cases e : b = a <;> simp_all [AlarmUnit.wipe, AlarmUnit.put_get, AlarmUnit.dropNotice_get]

/-- What one judgement leaves in every record. -/
theorem AlarmUnit.qualify_get (setMet clearMet : Bool) (i j : Nat) : (u.qualify a setMet clearMet i j).get b =
    if b = a then (u.get a).qualify setMet clearMet i j else u.get b := u.put_get a b _

/-- What clearing a latch leaves in every record (R159). -/
theorem AlarmUnit.clearLatch_get : (u.clearLatch a).get b =
    if b = a ∧ (u.get a).active = false then { u.get a with latch := false } else u.get b := by
  by_cases h : (u.get a).active = true <;> by_cases e : b = a <;> simp_all [AlarmUnit.clearLatch, AlarmUnit.put_get]

/-! ## The enables and the pin under every operation -/

@[simp] theorem AlarmUnit.dropNotice_masks : (u.dropNotice a).masks = u.masks := rfl

@[simp] theorem AlarmUnit.activate_masks : (u.activate now a).masks = u.masks := by
  simp only [AlarmUnit.activate]
  split_ifs <;> simp [*]

@[simp] theorem AlarmUnit.deactivate_masks : (u.deactivate now a).masks = u.masks := by
  simp only [AlarmUnit.deactivate]
  split_ifs <;> simp [*]

@[simp] theorem AlarmUnit.occur_masks : (u.occur now a).masks = u.masks := by simp [AlarmUnit.occur]

@[simp] theorem AlarmUnit.force_masks : (u.force now a).masks = u.masks := by simp [AlarmUnit.force]

/-- An activation keeps the pin judged. -/
theorem AlarmUnit.activate_pin (h : u.pin = pinLevel u.records u.masks) :
    (u.activate now a).pin = pinLevel (u.activate now a).records (u.activate now a).masks := by
  simp only [AlarmUnit.activate]
  split_ifs
  exacts [h, AlarmUnit.notify_pin _ _ (AlarmUnit.put_pin _ _ _)]

/-- A deactivation keeps the pin judged. -/
theorem AlarmUnit.deactivate_pin (h : u.pin = pinLevel u.records u.masks) :
    (u.deactivate now a).pin = pinLevel (u.deactivate now a).records (u.deactivate now a).masks := by
  simp only [AlarmUnit.deactivate]
  split_ifs
  exacts [AlarmUnit.notify_pin _ _ (AlarmUnit.put_pin _ _ _), h]

/-- An event leaves the pin judged. -/
theorem AlarmUnit.occur_pin : (u.occur now a).pin = pinLevel (u.occur now a).records (u.occur now a).masks :=
  AlarmUnit.notify_pin _ _ (AlarmUnit.put_pin _ _ _)

end Sys2Proof.Machine
end

