-- ==== Sys2Proof/Laws/Boundary.lean ====
section
/-!
SUPPORT. What the steps of the house index and of a boundary make of the timebase, and what the entry into PENDING and
a house sample make of a changeover context, each said once.
-/

namespace Sys2Proof.Machine

/-! ## The house index and its boundaries (R7, R8) -/

variable (t : Timebase)

@[simp] theorem Timebase.advance_h : t.advance.h = t.h + 1 := rfl
@[simp] theorem Timebase.advance_boundary :
    t.advance.boundary = if onSubBlock (t.h + 1) then .due else .none := rfl
@[simp] theorem Timebase.advance_mode : t.advance.mode = t.mode := rfl
@[simp] theorem Timebase.advance_state : t.advance.state = t.state := rfl
@[simp] theorem Timebase.advance_seconds : t.advance.seconds = t.seconds := rfl
@[simp] theorem Timebase.advance_edges : t.advance.edges = t.edges := rfl
@[simp] theorem Timebase.advance_oscillatorPaced : t.advance.oscillatorPaced = t.oscillatorPaced := rfl
@[simp] theorem Timebase.take_h : t.take.h = t.h := rfl
@[simp] theorem Timebase.take_boundary : t.take.boundary = .taken := rfl
@[simp] theorem Timebase.take_mode : t.take.mode = t.mode := rfl
@[simp] theorem Timebase.take_state : t.take.state = t.state := rfl
@[simp] theorem Timebase.take_seconds : t.take.seconds = if onSecond t.h then t.seconds + 1 else t.seconds := rfl
@[simp] theorem Timebase.take_edges : t.take.edges = t.edges := rfl
@[simp] theorem Timebase.take_oscillatorPaced : t.take.oscillatorPaced = t.oscillatorPaced := rfl

theorem onSubBlock_iff (h : HouseIndex) : onSubBlock h = true ↔ h.toNat % 4800 = 0 := by simp [onSubBlock]

theorem onSecond_iff (h : HouseIndex) : onSecond h = true ↔ h.toNat % 48000 = 0 := by simp [onSecond]

/-- A multiple of 48,000 is a multiple of 4,800, so that every second boundary is a sub-block end (R8). -/
theorem onSubBlock_of_onSecond {h : HouseIndex} (s : onSecond h = true) : onSubBlock h = true := by
  rw [onSubBlock_iff]
  have := (onSecond_iff h).mp s
  omega

theorem Timebase.atWrap_iff : t.atWrap = true ↔ t.h = 0 := by simp [Timebase.atWrap]

/-- The short sub-block that the wrap of H closes is fit for no programme (R115, log 49). -/
theorem Device.fit_atWrap {d : Device} (h : d.time.h = 0) (n : Ix8) : d.fit n = false := by
  simp [Device.fit, Timebase.atWrap, h]

theorem Device.boundaryDue_iff (d : Device) : d.boundaryDue = true ↔ d.time.boundary = .due := by
  simp [Device.boundaryDue]

theorem Device.subBlockEnd_due {d : Device} (h : d.time.boundary = .due) : d.subBlockEnd = d.takeBoundary :=
  if_pos (d.boundaryDue_iff.mpr h)

theorem Device.subBlockEnd_not_due {d : Device} (h : d.time.boundary ≠ .due) : d.subBlockEnd = d :=
  if_neg (mt d.boundaryDue_iff.mp h)

/-- A second boundary that is due does what the sub-block end does (R8). -/
theorem Device.secondBoundary_due {d : Device} (h : d.time.boundary = .due) (s : onSecond d.time.h = true) :
    d.secondBoundary = d.subBlockEnd := by
  simp [Device.secondBoundary, Device.subBlockEnd, Device.boundaryDue, h, s]

/-! ## PENDING (R61, R65, R71) -/

variable (c : Context) (s : Settings)

theorem Context.testPasses_iff : c.testPasses s = true ↔ c.quiet = 960 ∨ s.holdLimit * 4800 ≤ c.holdTimer := by
  simp [Context.testPasses]

/-- The entry into PENDING, whole. -/
theorem Context.pend_eq (side : Selection) (origin : Origin) :
    c.pend s side origin = { c with
      state := .pending, target := some (side, origin), holdTimer := 0
      startDue := decide (c.quiet = 960 ∨ s.holdLimit ≤ 0) } := by
  have h : s.holdLimit * 4800 ≤ ((0 : Nat) : Int) ↔ s.holdLimit ≤ 0 := by omega
  simp only [Context.pend, Context.testPasses, Bool.decide_or, h]
  rfl

/-- A house sample in PENDING leaves the mark of a test where one has passed, by the hold limit in force. -/
theorem Context.count_startDue (quiet : Bool) (h : c.state = .pending) :
    (c.count s quiet).startDue = true ↔
      c.startDue = true ∨ (c.count s quiet).quiet = 960 ∨ s.holdLimit * 4800 ≤ (c.count s quiet).holdTimer := by
  simp only [Context.count, h, Bool.or_eq_true, Context.testPasses_iff]

/-- Outside PENDING a house sample leaves the mark as it is. -/
theorem Context.count_startDue_other (quiet : Bool) (h : c.state ≠ .pending) :
    (c.count s quiet).startDue = c.startDue := by
  cases e : c.state with
  | idle => simp only [Context.count, e]
  | pending => exact absurd e h
  | fading => simp only [Context.count, e]

end Sys2Proof.Machine
end

