-- ==== Sys2Proof/Laws/State.lean ====
section
/-!
SUPPORT. What each named update of the part leaves alone, field by field, and what it writes: true by computing.
-/

namespace Sys2Proof.Machine

variable (d : Device)

@[simp] theorem Device.modPort_time (p : Ix8) (f : Port → Port) : (d.modPort p f).time = d.time := rfl
@[simp] theorem Device.modPort_progs (p : Ix8) (f : Port → Port) : (d.modPort p f).progs = d.progs := rfl
@[simp] theorem Device.modPort_pool (p : Ix8) (f : Port → Port) : (d.modPort p f).pool = d.pool := rfl
@[simp] theorem Device.modPort_mem (p : Ix8) (f : Port → Port) : (d.modPort p f).mem = d.mem := rfl
@[simp] theorem Device.modPort_map (p : Ix8) (f : Port → Port) : (d.modPort p f).map = d.map := rfl
@[simp] theorem Device.modPort_formed (p : Ix8) (f : Port → Port) : (d.modPort p f).formed = d.formed := rfl
@[simp] theorem Device.modPort_emitted (p : Ix8) (f : Port → Port) : (d.modPort p f).emitted = d.emitted := rfl
@[simp] theorem Device.modPort_alarms (p : Ix8) (f : Port → Port) : (d.modPort p f).alarms = d.alarms := rfl
@[simp] theorem Device.modPort_checkers (p : Ix8) (f : Port → Port) : (d.modPort p f).checkers = d.checkers := rfl
@[simp] theorem Device.modPort_link (p : Ix8) (f : Port → Port) : (d.modPort p f).link = d.link := rfl
@[simp] theorem Device.modConv_time (p : Ix8) (f : Converter → Converter) : (d.modConv p f).time = d.time := rfl
@[simp] theorem Device.modConv_progs (p : Ix8) (f : Converter → Converter) : (d.modConv p f).progs = d.progs := rfl
@[simp] theorem Device.modConv_pool (p : Ix8) (f : Converter → Converter) : (d.modConv p f).pool = d.pool := rfl
@[simp] theorem Device.modConv_mem (p : Ix8) (f : Converter → Converter) : (d.modConv p f).mem = d.mem := rfl
@[simp] theorem Device.modConv_map (p : Ix8) (f : Converter → Converter) : (d.modConv p f).map = d.map := rfl
@[simp] theorem Device.modConv_formed (p : Ix8) (f : Converter → Converter) : (d.modConv p f).formed = d.formed := rfl
@[simp] theorem Device.modConv_emitted (p : Ix8) (f : Converter → Converter) : (d.modConv p f).emitted = d.emitted := rfl
@[simp] theorem Device.modConv_alarms (p : Ix8) (f : Converter → Converter) : (d.modConv p f).alarms = d.alarms := rfl
@[simp] theorem Device.modConv_checkers (p : Ix8) (f : Converter → Converter) : (d.modConv p f).checkers = d.checkers := rfl
@[simp] theorem Device.modConv_link (p : Ix8) (f : Converter → Converter) : (d.modConv p f).link = d.link := rfl
@[simp] theorem Device.modLane_time (p : Ix8) (f : Lane → Lane) : (d.modLane p f).time = d.time := rfl
@[simp] theorem Device.modLane_progs (p : Ix8) (f : Lane → Lane) : (d.modLane p f).progs = d.progs := rfl
@[simp] theorem Device.modLane_pool (p : Ix8) (f : Lane → Lane) : (d.modLane p f).pool = d.pool := rfl
@[simp] theorem Device.modLane_mem (p : Ix8) (f : Lane → Lane) : (d.modLane p f).mem = d.mem := rfl
@[simp] theorem Device.modLane_map (p : Ix8) (f : Lane → Lane) : (d.modLane p f).map = d.map := rfl
@[simp] theorem Device.modLane_formed (p : Ix8) (f : Lane → Lane) : (d.modLane p f).formed = d.formed := rfl
@[simp] theorem Device.modLane_emitted (p : Ix8) (f : Lane → Lane) : (d.modLane p f).emitted = d.emitted := rfl
@[simp] theorem Device.modLane_alarms (p : Ix8) (f : Lane → Lane) : (d.modLane p f).alarms = d.alarms := rfl
@[simp] theorem Device.modLane_checkers (p : Ix8) (f : Lane → Lane) : (d.modLane p f).checkers = d.checkers := rfl
@[simp] theorem Device.modLane_link (p : Ix8) (f : Lane → Lane) : (d.modLane p f).link = d.link := rfl
@[simp] theorem Device.modProg_time (n : Ix8) (f : Programme → Programme) : (d.modProg n f).time = d.time := rfl
@[simp] theorem Device.modProg_ports (n : Ix8) (f : Programme → Programme) : (d.modProg n f).ports = d.ports := rfl
@[simp] theorem Device.modProg_pool (n : Ix8) (f : Programme → Programme) : (d.modProg n f).pool = d.pool := rfl
@[simp] theorem Device.modProg_mem (n : Ix8) (f : Programme → Programme) : (d.modProg n f).mem = d.mem := rfl
@[simp] theorem Device.modProg_map (n : Ix8) (f : Programme → Programme) : (d.modProg n f).map = d.map := rfl
@[simp] theorem Device.modProg_formed (n : Ix8) (f : Programme → Programme) : (d.modProg n f).formed = d.formed := rfl
@[simp] theorem Device.modProg_emitted (n : Ix8) (f : Programme → Programme) : (d.modProg n f).emitted = d.emitted := rfl
@[simp] theorem Device.modProg_alarms (n : Ix8) (f : Programme → Programme) : (d.modProg n f).alarms = d.alarms := rfl
@[simp] theorem Device.modProg_checkers (n : Ix8) (f : Programme → Programme) : (d.modProg n f).checkers = d.checkers := rfl
@[simp] theorem Device.modProg_link (n : Ix8) (f : Programme → Programme) : (d.modProg n f).link = d.link := rfl
@[simp] theorem Device.modRecord_time (n : Ix8) (f : Record → Record) : (d.modRecord n f).time = d.time := rfl
@[simp] theorem Device.modRecord_ports (n : Ix8) (f : Record → Record) : (d.modRecord n f).ports = d.ports := rfl
@[simp] theorem Device.modRecord_pool (n : Ix8) (f : Record → Record) : (d.modRecord n f).pool = d.pool := rfl
@[simp] theorem Device.modRecord_mem (n : Ix8) (f : Record → Record) : (d.modRecord n f).mem = d.mem := rfl
@[simp] theorem Device.modRecord_map (n : Ix8) (f : Record → Record) : (d.modRecord n f).map = d.map := rfl
@[simp] theorem Device.modRecord_formed (n : Ix8) (f : Record → Record) : (d.modRecord n f).formed = d.formed := rfl
@[simp] theorem Device.modRecord_emitted (n : Ix8) (f : Record → Record) : (d.modRecord n f).emitted = d.emitted := rfl
@[simp] theorem Device.modRecord_alarms (n : Ix8) (f : Record → Record) : (d.modRecord n f).alarms = d.alarms := rfl
@[simp] theorem Device.modRecord_checkers (n : Ix8) (f : Record → Record) : (d.modRecord n f).checkers = d.checkers := rfl
@[simp] theorem Device.modRecord_link (n : Ix8) (f : Record → Record) : (d.modRecord n f).link = d.link := rfl
@[simp] theorem Device.modCtx_time (n : Ix8) (f : Context → Context) : (d.modCtx n f).time = d.time := rfl
@[simp] theorem Device.modCtx_ports (n : Ix8) (f : Context → Context) : (d.modCtx n f).ports = d.ports := rfl
@[simp] theorem Device.modCtx_pool (n : Ix8) (f : Context → Context) : (d.modCtx n f).pool = d.pool := rfl
@[simp] theorem Device.modCtx_mem (n : Ix8) (f : Context → Context) : (d.modCtx n f).mem = d.mem := rfl
@[simp] theorem Device.modCtx_map (n : Ix8) (f : Context → Context) : (d.modCtx n f).map = d.map := rfl
@[simp] theorem Device.modCtx_formed (n : Ix8) (f : Context → Context) : (d.modCtx n f).formed = d.formed := rfl
@[simp] theorem Device.modCtx_emitted (n : Ix8) (f : Context → Context) : (d.modCtx n f).emitted = d.emitted := rfl
@[simp] theorem Device.modCtx_alarms (n : Ix8) (f : Context → Context) : (d.modCtx n f).alarms = d.alarms := rfl
@[simp] theorem Device.modCtx_checkers (n : Ix8) (f : Context → Context) : (d.modCtx n f).checkers = d.checkers := rfl
@[simp] theorem Device.modCtx_link (n : Ix8) (f : Context → Context) : (d.modCtx n f).link = d.link := rfl
@[simp] theorem Device.modDelay_time (n : Ix8) (f : Delay → Delay) : (d.modDelay n f).time = d.time := rfl
@[simp] theorem Device.modDelay_ports (n : Ix8) (f : Delay → Delay) : (d.modDelay n f).ports = d.ports := rfl
@[simp] theorem Device.modDelay_pool (n : Ix8) (f : Delay → Delay) : (d.modDelay n f).pool = d.pool := rfl
@[simp] theorem Device.modDelay_mem (n : Ix8) (f : Delay → Delay) : (d.modDelay n f).mem = d.mem := rfl
@[simp] theorem Device.modDelay_map (n : Ix8) (f : Delay → Delay) : (d.modDelay n f).map = d.map := rfl
@[simp] theorem Device.modDelay_formed (n : Ix8) (f : Delay → Delay) : (d.modDelay n f).formed = d.formed := rfl
@[simp] theorem Device.modDelay_emitted (n : Ix8) (f : Delay → Delay) : (d.modDelay n f).emitted = d.emitted := rfl
@[simp] theorem Device.modDelay_alarms (n : Ix8) (f : Delay → Delay) : (d.modDelay n f).alarms = d.alarms := rfl
@[simp] theorem Device.modDelay_checkers (n : Ix8) (f : Delay → Delay) : (d.modDelay n f).checkers = d.checkers := rfl
@[simp] theorem Device.modDelay_link (n : Ix8) (f : Delay → Delay) : (d.modDelay n f).link = d.link := rfl
@[simp] theorem Device.modLine_time (n m : Ix8) (f : Line → Line) : (d.modLine n m f).time = d.time := rfl
@[simp] theorem Device.modLine_ports (n m : Ix8) (f : Line → Line) : (d.modLine n m f).ports = d.ports := rfl
@[simp] theorem Device.modLine_pool (n m : Ix8) (f : Line → Line) : (d.modLine n m f).pool = d.pool := rfl
@[simp] theorem Device.modLine_mem (n m : Ix8) (f : Line → Line) : (d.modLine n m f).mem = d.mem := rfl
@[simp] theorem Device.modLine_map (n m : Ix8) (f : Line → Line) : (d.modLine n m f).map = d.map := rfl
@[simp] theorem Device.modLine_formed (n m : Ix8) (f : Line → Line) : (d.modLine n m f).formed = d.formed := rfl
@[simp] theorem Device.modLine_emitted (n m : Ix8) (f : Line → Line) : (d.modLine n m f).emitted = d.emitted := rfl
@[simp] theorem Device.modLine_alarms (n m : Ix8) (f : Line → Line) : (d.modLine n m f).alarms = d.alarms := rfl
@[simp] theorem Device.modLine_checkers (n m : Ix8) (f : Line → Line) : (d.modLine n m f).checkers = d.checkers := rfl
@[simp] theorem Device.modLine_link (n m : Ix8) (f : Line → Line) : (d.modLine n m f).link = d.link := rfl
@[simp] theorem Device.modMeter_time (n : Ix8) (f : Meter → Meter) : (d.modMeter n f).time = d.time := rfl
@[simp] theorem Device.modMeter_ports (n : Ix8) (f : Meter → Meter) : (d.modMeter n f).ports = d.ports := rfl
@[simp] theorem Device.modMeter_pool (n : Ix8) (f : Meter → Meter) : (d.modMeter n f).pool = d.pool := rfl
@[simp] theorem Device.modMeter_mem (n : Ix8) (f : Meter → Meter) : (d.modMeter n f).mem = d.mem := rfl
@[simp] theorem Device.modMeter_map (n : Ix8) (f : Meter → Meter) : (d.modMeter n f).map = d.map := rfl
@[simp] theorem Device.modMeter_formed (n : Ix8) (f : Meter → Meter) : (d.modMeter n f).formed = d.formed := rfl
@[simp] theorem Device.modMeter_emitted (n : Ix8) (f : Meter → Meter) : (d.modMeter n f).emitted = d.emitted := rfl
@[simp] theorem Device.modMeter_alarms (n : Ix8) (f : Meter → Meter) : (d.modMeter n f).alarms = d.alarms := rfl
@[simp] theorem Device.modMeter_checkers (n : Ix8) (f : Meter → Meter) : (d.modMeter n f).checkers = d.checkers := rfl
@[simp] theorem Device.modMeter_link (n : Ix8) (f : Meter → Meter) : (d.modMeter n f).link = d.link := rfl
@[simp] theorem Device.modGain_time (n : Ix8) (f : Gain → Gain) : (d.modGain n f).time = d.time := rfl
@[simp] theorem Device.modGain_ports (n : Ix8) (f : Gain → Gain) : (d.modGain n f).ports = d.ports := rfl
@[simp] theorem Device.modGain_pool (n : Ix8) (f : Gain → Gain) : (d.modGain n f).pool = d.pool := rfl
@[simp] theorem Device.modGain_mem (n : Ix8) (f : Gain → Gain) : (d.modGain n f).mem = d.mem := rfl
@[simp] theorem Device.modGain_map (n : Ix8) (f : Gain → Gain) : (d.modGain n f).map = d.map := rfl
@[simp] theorem Device.modGain_formed (n : Ix8) (f : Gain → Gain) : (d.modGain n f).formed = d.formed := rfl
@[simp] theorem Device.modGain_emitted (n : Ix8) (f : Gain → Gain) : (d.modGain n f).emitted = d.emitted := rfl
@[simp] theorem Device.modGain_alarms (n : Ix8) (f : Gain → Gain) : (d.modGain n f).alarms = d.alarms := rfl
@[simp] theorem Device.modGain_checkers (n : Ix8) (f : Gain → Gain) : (d.modGain n f).checkers = d.checkers := rfl
@[simp] theorem Device.modGain_link (n : Ix8) (f : Gain → Gain) : (d.modGain n f).link = d.link := rfl
@[simp] theorem Device.modStage_time (n : Ix8) (f : Stage → Stage) : (d.modStage n f).time = d.time := rfl
@[simp] theorem Device.modStage_ports (n : Ix8) (f : Stage → Stage) : (d.modStage n f).ports = d.ports := rfl
@[simp] theorem Device.modStage_pool (n : Ix8) (f : Stage → Stage) : (d.modStage n f).pool = d.pool := rfl
@[simp] theorem Device.modStage_mem (n : Ix8) (f : Stage → Stage) : (d.modStage n f).mem = d.mem := rfl
@[simp] theorem Device.modStage_map (n : Ix8) (f : Stage → Stage) : (d.modStage n f).map = d.map := rfl
@[simp] theorem Device.modStage_formed (n : Ix8) (f : Stage → Stage) : (d.modStage n f).formed = d.formed := rfl
@[simp] theorem Device.modStage_emitted (n : Ix8) (f : Stage → Stage) : (d.modStage n f).emitted = d.emitted := rfl
@[simp] theorem Device.modStage_alarms (n : Ix8) (f : Stage → Stage) : (d.modStage n f).alarms = d.alarms := rfl
@[simp] theorem Device.modStage_checkers (n : Ix8) (f : Stage → Stage) : (d.modStage n f).checkers = d.checkers := rfl
@[simp] theorem Device.modStage_link (n : Ix8) (f : Stage → Stage) : (d.modStage n f).link = d.link := rfl
@[simp] theorem Device.modGen_time (n : Ix8) (f : Generator → Generator) : (d.modGen n f).time = d.time := rfl
@[simp] theorem Device.modGen_ports (n : Ix8) (f : Generator → Generator) : (d.modGen n f).ports = d.ports := rfl
@[simp] theorem Device.modGen_pool (n : Ix8) (f : Generator → Generator) : (d.modGen n f).pool = d.pool := rfl
@[simp] theorem Device.modGen_mem (n : Ix8) (f : Generator → Generator) : (d.modGen n f).mem = d.mem := rfl
@[simp] theorem Device.modGen_map (n : Ix8) (f : Generator → Generator) : (d.modGen n f).map = d.map := rfl
@[simp] theorem Device.modGen_formed (n : Ix8) (f : Generator → Generator) : (d.modGen n f).formed = d.formed := rfl
@[simp] theorem Device.modGen_emitted (n : Ix8) (f : Generator → Generator) : (d.modGen n f).emitted = d.emitted := rfl
@[simp] theorem Device.modGen_alarms (n : Ix8) (f : Generator → Generator) : (d.modGen n f).alarms = d.alarms := rfl
@[simp] theorem Device.modGen_checkers (n : Ix8) (f : Generator → Generator) : (d.modGen n f).checkers = d.checkers := rfl
@[simp] theorem Device.modGen_link (n : Ix8) (f : Generator → Generator) : (d.modGen n f).link = d.link := rfl
@[simp] theorem Device.modChecker_time (c : Ix2) (f : Checker → Checker) : (d.modChecker c f).time = d.time := rfl
@[simp] theorem Device.modChecker_ports (c : Ix2) (f : Checker → Checker) : (d.modChecker c f).ports = d.ports := rfl
@[simp] theorem Device.modChecker_progs (c : Ix2) (f : Checker → Checker) : (d.modChecker c f).progs = d.progs := rfl
@[simp] theorem Device.modChecker_pool (c : Ix2) (f : Checker → Checker) : (d.modChecker c f).pool = d.pool := rfl
@[simp] theorem Device.modChecker_mem (c : Ix2) (f : Checker → Checker) : (d.modChecker c f).mem = d.mem := rfl
@[simp] theorem Device.modChecker_map (c : Ix2) (f : Checker → Checker) : (d.modChecker c f).map = d.map := rfl
@[simp] theorem Device.modChecker_formed (c : Ix2) (f : Checker → Checker) : (d.modChecker c f).formed = d.formed := rfl
@[simp] theorem Device.modChecker_emitted (c : Ix2) (f : Checker → Checker) : (d.modChecker c f).emitted = d.emitted := rfl
@[simp] theorem Device.modChecker_alarms (c : Ix2) (f : Checker → Checker) : (d.modChecker c f).alarms = d.alarms := rfl
@[simp] theorem Device.modChecker_link (c : Ix2) (f : Checker → Checker) : (d.modChecker c f).link = d.link := rfl
@[simp] theorem Device.modPool_time (f : Pool → Pool) : (d.modPool f).time = d.time := rfl
@[simp] theorem Device.modPool_ports (f : Pool → Pool) : (d.modPool f).ports = d.ports := rfl
@[simp] theorem Device.modPool_progs (f : Pool → Pool) : (d.modPool f).progs = d.progs := rfl
@[simp] theorem Device.modPool_mem (f : Pool → Pool) : (d.modPool f).mem = d.mem := rfl
@[simp] theorem Device.modPool_map (f : Pool → Pool) : (d.modPool f).map = d.map := rfl
@[simp] theorem Device.modPool_formed (f : Pool → Pool) : (d.modPool f).formed = d.formed := rfl
@[simp] theorem Device.modPool_emitted (f : Pool → Pool) : (d.modPool f).emitted = d.emitted := rfl
@[simp] theorem Device.modPool_alarms (f : Pool → Pool) : (d.modPool f).alarms = d.alarms := rfl
@[simp] theorem Device.modPool_checkers (f : Pool → Pool) : (d.modPool f).checkers = d.checkers := rfl
@[simp] theorem Device.modPool_link (f : Pool → Pool) : (d.modPool f).link = d.link := rfl
@[simp] theorem Device.modLink_time (f : Link → Link) : (d.modLink f).time = d.time := rfl
@[simp] theorem Device.modLink_ports (f : Link → Link) : (d.modLink f).ports = d.ports := rfl
@[simp] theorem Device.modLink_progs (f : Link → Link) : (d.modLink f).progs = d.progs := rfl
@[simp] theorem Device.modLink_pool (f : Link → Link) : (d.modLink f).pool = d.pool := rfl
@[simp] theorem Device.modLink_mem (f : Link → Link) : (d.modLink f).mem = d.mem := rfl
@[simp] theorem Device.modLink_map (f : Link → Link) : (d.modLink f).map = d.map := rfl
@[simp] theorem Device.modLink_formed (f : Link → Link) : (d.modLink f).formed = d.formed := rfl
@[simp] theorem Device.modLink_emitted (f : Link → Link) : (d.modLink f).emitted = d.emitted := rfl
@[simp] theorem Device.modLink_alarms (f : Link → Link) : (d.modLink f).alarms = d.alarms := rfl
@[simp] theorem Device.modLink_checkers (f : Link → Link) : (d.modLink f).checkers = d.checkers := rfl
@[simp] theorem Device.modAlarms_time (f : AlarmUnit → AlarmUnit) : (d.modAlarms f).time = d.time := rfl
@[simp] theorem Device.modAlarms_ports (f : AlarmUnit → AlarmUnit) : (d.modAlarms f).ports = d.ports := rfl
@[simp] theorem Device.modAlarms_progs (f : AlarmUnit → AlarmUnit) : (d.modAlarms f).progs = d.progs := rfl
@[simp] theorem Device.modAlarms_pool (f : AlarmUnit → AlarmUnit) : (d.modAlarms f).pool = d.pool := rfl
@[simp] theorem Device.modAlarms_mem (f : AlarmUnit → AlarmUnit) : (d.modAlarms f).mem = d.mem := rfl
@[simp] theorem Device.modAlarms_map (f : AlarmUnit → AlarmUnit) : (d.modAlarms f).map = d.map := rfl
@[simp] theorem Device.modAlarms_formed (f : AlarmUnit → AlarmUnit) : (d.modAlarms f).formed = d.formed := rfl
@[simp] theorem Device.modAlarms_emitted (f : AlarmUnit → AlarmUnit) : (d.modAlarms f).emitted = d.emitted := rfl
@[simp] theorem Device.modAlarms_checkers (f : AlarmUnit → AlarmUnit) : (d.modAlarms f).checkers = d.checkers := rfl
@[simp] theorem Device.modAlarms_link (f : AlarmUnit → AlarmUnit) : (d.modAlarms f).link = d.link := rfl

@[simp] theorem Device.modPool_pool (f : Pool → Pool) : (d.modPool f).pool = f d.pool := rfl
@[simp] theorem Device.modLink_link (f : Link → Link) : (d.modLink f).link = f d.link := rfl
@[simp] theorem Device.modAlarms_alarms (f : AlarmUnit → AlarmUnit) : (d.modAlarms f).alarms = f d.alarms := rfl

/-- The port changed, and the others as before. -/
theorem Device.port_modPort (p q : Ix8) (f : Port → Port) :
    (d.modPort p f).port q = if p = q then f (d.port p) else d.port q := Oct.get_modify _ _ _ _

@[simp] theorem Device.port_modPort_self (p : Ix8) (f : Port → Port) : (d.modPort p f).port p = f (d.port p) :=
  Oct.get_modify_self _ _ _

@[simp] theorem Device.port_modConv_self (p : Ix8) (f : Converter → Converter) :
    (d.modConv p f).port p = { d.port p with conv := f (d.port p).conv } := Oct.get_modify_self _ _ _

@[simp] theorem Device.port_modLane_self (p : Ix8) (f : Lane → Lane) :
    (d.modLane p f).port p = { d.port p with lane := f (d.port p).lane } := Oct.get_modify_self _ _ _

/-- The programme changed, and the others as before. -/
theorem Device.prog_modProg (n k : Ix8) (f : Programme → Programme) :
    (d.modProg n f).prog k = if n = k then f (d.prog n) else d.prog k := Oct.get_modify _ _ _ _

@[simp] theorem Device.prog_modProg_self (n : Ix8) (f : Programme → Programme) :
    (d.modProg n f).prog n = f (d.prog n) := Oct.get_modify_self _ _ _

@[simp] theorem Device.prog_modRecord_self (n : Ix8) (f : Record → Record) :
    (d.modRecord n f).prog n = { d.prog n with record := f (d.prog n).record } := Oct.get_modify_self _ _ _

@[simp] theorem Device.prog_modCtx_self (n : Ix8) (f : Context → Context) :
    (d.modCtx n f).prog n = { d.prog n with ctx := f (d.prog n).ctx } := Oct.get_modify_self _ _ _

@[simp] theorem Device.prog_modDelay_self (n : Ix8) (f : Delay → Delay) :
    (d.modDelay n f).prog n = { d.prog n with delay := f (d.prog n).delay } := Oct.get_modify_self _ _ _

@[simp] theorem Device.prog_modMeter_self (n : Ix8) (f : Meter → Meter) :
    (d.modMeter n f).prog n = { d.prog n with meter := f (d.prog n).meter } := Oct.get_modify_self _ _ _

@[simp] theorem Device.prog_modGain_self (n : Ix8) (f : Gain → Gain) :
    (d.modGain n f).prog n = { d.prog n with gain := f (d.prog n).gain } := Oct.get_modify_self _ _ _

@[simp] theorem Device.prog_modStage_self (n : Ix8) (f : Stage → Stage) :
    (d.modStage n f).prog n = { d.prog n with stage := f (d.prog n).stage } := Oct.get_modify_self _ _ _

@[simp] theorem Device.prog_modGen_self (n : Ix8) (f : Generator → Generator) :
    (d.modGen n f).prog n = { d.prog n with gen := f (d.prog n).gen } := Oct.get_modify_self _ _ _

@[simp] theorem Device.prog_modPort (p n : Ix8) (f) : (d.modPort p f).prog n = d.prog n := rfl
@[simp] theorem Device.prog_modConv (p n : Ix8) (f) : (d.modConv p f).prog n = d.prog n := rfl
@[simp] theorem Device.prog_modLane (p n : Ix8) (f) : (d.modLane p f).prog n = d.prog n := rfl
@[simp] theorem Device.port_modProg (n p : Ix8) (f) : (d.modProg n f).port p = d.port p := rfl
@[simp] theorem Device.port_modRecord (n p : Ix8) (f) : (d.modRecord n f).port p = d.port p := rfl
@[simp] theorem Device.port_modCtx (n p : Ix8) (f) : (d.modCtx n f).port p = d.port p := rfl
@[simp] theorem Device.port_modDelay (n p : Ix8) (f) : (d.modDelay n f).port p = d.port p := rfl
@[simp] theorem Device.port_modMeter (n p : Ix8) (f) : (d.modMeter n f).port p = d.port p := rfl
@[simp] theorem Device.port_modGain (n p : Ix8) (f) : (d.modGain n f).port p = d.port p := rfl
@[simp] theorem Device.port_modStage (n p : Ix8) (f) : (d.modStage n f).port p = d.port p := rfl
@[simp] theorem Device.port_modGen (n p : Ix8) (f) : (d.modGen n f).port p = d.port p := rfl
@[simp] theorem Device.port_modLine (n m p : Ix8) (f) : (d.modLine n m f).port p = d.port p := rfl
@[simp] theorem Device.prog_modPool (n : Ix8) (f) : (d.modPool f).prog n = d.prog n := rfl
@[simp] theorem Device.port_modPool (p : Ix8) (f) : (d.modPool f).port p = d.port p := rfl
@[simp] theorem Device.prog_modLink (n : Ix8) (f) : (d.modLink f).prog n = d.prog n := rfl
@[simp] theorem Device.port_modLink (p : Ix8) (f) : (d.modLink f).port p = d.port p := rfl
@[simp] theorem Device.prog_modAlarms (n : Ix8) (f) : (d.modAlarms f).prog n = d.prog n := rfl
@[simp] theorem Device.port_modAlarms (p : Ix8) (f) : (d.modAlarms f).port p = d.port p := rfl

/-- The line changed. -/
@[simp] theorem Device.line_modLine_self (n m : Ix8) (f : Line → Line) : (d.modLine n m f).line n m = f (d.line n m) := by
  simp [Device.line, Device.modLine]

end Sys2Proof.Machine
end

