-- ==== Sys2Proof/Laws/Engine.lean ====
section
/-!
SUPPORT. What the delay engine and the pool manager can change of the part: the delay engine's state of the programmes,
the pool and the alarm unit, and nothing else (R90 to R107, R78 to R86).
-/

namespace Sys2Proof.Machine

/-- Nothing but delay engine state, the pool and the alarm unit differs. -/
structure Device.EngineOnly (d e : Device) : Prop where
  time : e.time = d.time
  ports : e.ports = d.ports
  mem : e.mem = d.mem
  map : e.map = d.map
  formed : e.formed = d.formed
  emitted : e.emitted = d.emitted
  checkers : e.checkers = d.checkers
  link : e.link = d.link
  prog : ∀ n, e.prog n = { d.prog n with delay := (e.prog n).delay }

namespace Device.EngineOnly

variable {d e f : Device}

theorem refl (d : Device) : d.EngineOnly d := ⟨rfl, rfl, rfl, rfl, rfl, rfl, rfl, rfl, fun _ => rfl⟩

theorem trans (h : d.EngineOnly e) (k : e.EngineOnly f) : d.EngineOnly f :=
  ⟨k.time.trans h.time, k.ports.trans h.ports, k.mem.trans h.mem, k.map.trans h.map, k.formed.trans h.formed,
    k.emitted.trans h.emitted, k.checkers.trans h.checkers, k.link.trans h.link,
    fun n => by rw [k.prog n, h.prog n]⟩

theorem record (h : d.EngineOnly e) (n : Ix8) : (e.prog n).record = (d.prog n).record := by rw [h.prog n]

theorem inState (h : d.EngineOnly e) (n : Ix8) (s : ProgState) : e.inState n s = d.inState n s := by
  simp [Device.inState, h.record n]

theorem active (h : d.EngineOnly e) (n : Ix8) : e.active n = d.active n := h.inState n _

theorem foldl {α : Type} {g : Device → α → Device} (l : List α) (h : ∀ a ∈ l, ∀ d : Device, d.EngineOnly (g d a))
    (d : Device) : d.EngineOnly (l.foldl g d) := by
  induction l generalizing d with
  | nil => exact refl d
  | cons a l ih =>
    exact (h a (by simp) d).trans (ih (fun b hb => h b (by simp [hb])) _)

theorem forEight {g : Device → Ix8 → Device} (h : ∀ n, ∀ d : Device, d.EngineOnly (g d n)) (d : Device) :
    d.EngineOnly (forEight d g) := foldl eight (fun n _ => h n) d

end Device.EngineOnly

open Device.EngineOnly

theorem Device.modPool_engine (d : Device) (g : Pool → Pool) : d.EngineOnly (d.modPool g) :=
  ⟨rfl, rfl, rfl, rfl, rfl, rfl, rfl, rfl, fun _ => rfl⟩

theorem Device.modAlarms_engine (d : Device) (g : AlarmUnit → AlarmUnit) : d.EngineOnly (d.modAlarms g) :=
  ⟨rfl, rfl, rfl, rfl, rfl, rfl, rfl, rfl, fun _ => rfl⟩

theorem Device.modDelay_engine (d : Device) (n : Ix8) (g : Delay → Delay) : d.EngineOnly (d.modDelay n g) :=
  ⟨rfl, rfl, rfl, rfl, rfl, rfl, rfl, rfl, fun k => by
    unfold Device.modDelay
    rw [Device.prog_modProg]
    split
    · next h => subst h; rfl
    · rfl⟩

theorem Device.modLine_engine (d : Device) (n m : Ix8) (g : Line → Line) : d.EngineOnly (d.modLine n m g) := Device.modDelay_engine d n _

/-! ## The pool manager -/

theorem Device.grantHead_engine (d : Device) (own : Option Ix8) (e : PoolEntry) : d.EngineOnly (d.grantHead own e) := by
  unfold Device.grantHead
  exact (Device.modDelay_engine d _ _).trans (Device.modPool_engine _ _)

theorem Device.grantLoop_engine (own : Option Ix8) (fuel : Nat) (d : Device) :
    d.EngineOnly (Device.grantLoop own fuel d) := by
  induction fuel generalizing d with
  | zero => exact refl d
  | succ fuel ih =>
    unfold Device.grantLoop
    split
    · exact refl d
    · split
      · exact (d.grantHead_engine own _).trans (ih _)
      · exact refl d

theorem Device.grantTest_engine (d : Device) (own : Option Ix8) : d.EngineOnly (d.grantTest own) :=
  Device.grantLoop_engine own _ d

theorem Device.withdraw_engine (d : Device) (n : Ix8) : d.EngineOnly (d.withdraw n) :=
  (Device.modPool_engine d _).trans (Device.grantTest_engine _ _)

theorem Device.requestBlocks_engine (d : Device) (n : Ix8) (needs : List Nat) :
    d.EngineOnly (d.requestBlocks n needs).1 := by
  unfold Device.requestBlocks
  split
  · exact (Device.modPool_engine d _).trans (Device.grantTest_engine _ _)
  · exact d.withdraw_engine n

theorem Device.handBack_engine (d : Device) (blocks : List Nat) : d.EngineOnly (d.handBack blocks) := by
  unfold Device.handBack
  split
  · exact refl d
  · exact (Device.modPool_engine d _).trans (Device.grantTest_engine _ _)

/-! ## The delay engine -/

theorem Device.mapLines_engine (d : Device) (n : Ix8) (g : Line → Line) : d.EngineOnly (d.mapLines n g) :=
  Device.EngineOnly.foldl _ (fun m _ e => Device.modLine_engine e n m g) d

theorem Device.requireWhere_engine (d : Device) (n : Ix8) (test : Member → Bool) :
    d.EngineOnly (d.requireWhere n test) := by
  refine Device.EngineOnly.foldl _ (fun x _ e => ?_) d
  split
  · exact Device.modLine_engine e n _ _
  · exact refl e

theorem Device.requireAll_engine (d : Device) (n : Ix8) : d.EngineOnly (d.requireAll n) := d.requireWhere_engine n _

theorem Device.settleBlocks_engine (d : Device) (n : Ix8) (target : Line → Nat) :
    d.EngineOnly (d.settleBlocks n target) := by
  unfold Device.settleBlocks
  simp only
  split
  · exact (d.requestBlocks_engine n _).trans (Device.mapLines_engine _ _ _)
  · exact d.mapLines_engine n _

theorem Device.returnExcess_engine (d : Device) (n : Ix8) : d.EngineOnly (d.returnExcess n) :=
  Device.EngineOnly.foldl _ (fun m _ e => (Device.modLine_engine e n m _).trans (Device.handBack_engine _ _)) d

theorem Device.startFade_engine (d : Device) (n : Ix8) : d.EngineOnly (d.startFade n) :=
  (d.mapLines_engine n _).trans (Device.modDelay_engine _ _ _)

theorem Device.gapMember_engine (d : Device) (n m : Ix8) : d.EngineOnly (d.gapMember n m) := by
  unfold Device.gapMember
  simp only
  split
  · exact (Device.modLine_engine d n m _).trans (Device.handBack_engine _ _)
  · exact Device.modLine_engine d n m _

theorem Device.enterFadeIn_engine (d : Device) (n : Ix8) : d.EngineOnly (d.enterFadeIn n) := Device.modDelay_engine d n _

theorem Device.enterGap_engine (d : Device) (n : Ix8) : d.EngineOnly (d.enterGap n) := by
  unfold Device.enterGap
  simp only
  have h := Device.EngineOnly.foldl (g := fun e m => e.gapMember n m) (d.prog n).record.positions
    (fun m _ e => e.gapMember_engine n m) d
  split
  · exact ((h.trans (Device.mapLines_engine _ n _)).trans (Device.modDelay_engine _ n _)).trans
      (Device.enterFadeIn_engine _ n)
  · exact (h.trans (Device.mapLines_engine _ n _)).trans (Device.modDelay_engine _ n _)

theorem Device.judgeShort_engine (d : Device) (n : Ix8) : d.EngineOnly (d.judgeShort n) := by
  unfold Device.judgeShort
  split
  · exact refl d
  · exact Device.modAlarms_engine d _

theorem Device.reportShort_engine (d : Device) (n : Ix8) : d.EngineOnly (d.reportShort n) := by
  unfold Device.reportShort
  split
  · exact Device.modAlarms_engine d _
  · exact refl d

theorem Device.startChange_engine (d : Device) (n : Ix8) (host : Bool) : d.EngineOnly (d.startChange n host) := by
  unfold Device.startChange
  simp only
  split
  · split
    · exact (Device.modDelay_engine d n _).trans (Device.startFade_engine _ n)
    · exact (Device.modDelay_engine d n _).trans (Device.mapLines_engine _ n _)
  · exact (Device.modDelay_engine d n _).trans (Device.judgeShort_engine _ n)

/-- A recalculation changes delay engine state, the pool and DELAY_SHORT alone (R95). -/
theorem Device.recalculate_engine (d : Device) (n : Ix8) (mode : RecalcMode) (host : Bool) :
    d.EngineOnly (d.recalculate n mode host) :=
  ((d.requireAll_engine n).trans (Device.returnExcess_engine _ n)).trans
    (((Device.settleBlocks_engine _ n _).trans (Device.reportShort_engine _ n)).trans (Device.startChange_engine _ n host))

/-- So does the initial fill (R102). -/
theorem Device.initialFill_engine (d : Device) (n : Ix8) : d.EngineOnly (d.initialFill n) :=
  ((d.requireAll_engine n).trans (Device.modDelay_engine _ n _)).trans
    (((Device.settleBlocks_engine _ n _).trans (Device.reportShort_engine _ n)).trans (Device.enterGap_engine _ n))

theorem Device.fold_engine (d : Device) (n : Ix8) (mode : RecalcMode) (host : Bool) : d.EngineOnly (d.fold n mode host) := by
  have h := ((d.requireAll_engine n).trans (Device.modDelay_engine (d.requireAll n) n fun x =>
    { x with pending := some (foldPending (d.prog n).delay.pending mode host) })).trans (Device.returnExcess_engine _ n)
  unfold Device.fold
  simp only
  split
  · split
    · exact (h.trans (Device.requestBlocks_engine _ n _)).trans (Device.modDelay_engine _ n _)
    · exact h.trans (Device.requestBlocks_engine _ n _)
  · exact h

/-- So does a trigger (R94, R103). -/
theorem Device.trigger_engine (d : Device) (n : Ix8) (mode : RecalcMode) (host : Bool) :
    d.EngineOnly (d.trigger n mode host) := by
  unfold Device.trigger
  split
  · split
    · exact d.fold_engine n mode host
    · exact d.recalculate_engine n mode host
  · exact refl d

theorem Device.targetTrigger_engine (d : Device) (n : Ix8) : d.EngineOnly (d.targetTrigger n) := by
  unfold Device.targetTrigger
  split
  · split
    · exact d.fold_engine n _ _
    · split
      · exact refl d
      · exact d.recalculate_engine n _ _
  · exact refl d

theorem Device.latencyProgramme_engine (d : Device) (p n : Ix8) : d.EngineOnly (d.latencyProgramme p n) := by
  unfold Device.latencyProgramme
  simp only
  split
  · split
    · exact (d.requireWhere_engine n _).trans (Device.fold_engine _ n _ _)
    · split
      · exact (d.requireWhere_engine n _).trans (Device.recalculate_engine _ n _ _)
      · exact (d.requireWhere_engine n _).trans (Device.returnExcess_engine _ n)
  · exact refl d

theorem Device.takeNotice_engine (d : Device) : d.EngineOnly d.takeNotice := by
  unfold Device.takeNotice
  split
  · exact refl d
  · exact (Device.modPool_engine d _).trans (Device.trigger_engine _ _ _ _)

/-- So does the taking of the grant notices (R84). -/
theorem Device.takeNotices_engine (fuel : Nat) (d : Device) : d.EngineOnly (Device.takeNotices fuel d) := by
  induction fuel generalizing d with
  | zero => exact refl d
  | succ fuel ih =>
    unfold Device.takeNotices
    split
    · exact refl d
    · exact d.takeNotice_engine.trans (ih _)

theorem Device.told_engine (d : Device) : d.EngineOnly d.told := Device.takeNotices_engine 64 d

/-- Where no grant notice waits there is nothing to tell (R84). -/
theorem Device.told_of_none {d : Device} (h : d.pool.notices = []) : d.told = d := by
  rw [Device.told, Device.takeNotices, if_pos h]

/-- So does a latency update (R34, R94). -/
theorem Device.latencyUpdate_engine (d : Device) (p : Ix8) : d.EngineOnly (d.latencyUpdate p) :=
  Device.EngineOnly.forEight (fun n e => (e.latencyProgramme_engine p n).trans (Device.told_engine _)) d

theorem Device.changeEnded_engine (d : Device) (n : Ix8) : d.EngineOnly (d.changeEnded n) := by
  unfold Device.changeEnded
  split
  · split
    · exact (Device.modDelay_engine d n _).trans (Device.recalculate_engine _ n _ _)
    · exact d.judgeShort_engine n
  · exact refl d

theorem Device.fadeOutEnd_engine (d : Device) (n : Ix8) : d.EngineOnly (d.fadeOutEnd n) := by
  unfold Device.fadeOutEnd
  split
  · exact d.enterGap_engine n
  · exact refl d

theorem Device.freezeEnd_engine (d : Device) (n m : Ix8) : d.EngineOnly (d.freezeEnd n m) := by
  unfold Device.freezeEnd
  split
  · exact Device.modLine_engine d n m _
  · exact refl d

theorem Device.gapEnd_engine (d : Device) (n : Ix8) : d.EngineOnly (d.gapEnd n) := by
  unfold Device.gapEnd
  split
  · exact d.enterFadeIn_engine n
  · exact refl d

theorem Device.fadeInEnd_engine (d : Device) (n : Ix8) : d.EngineOnly (d.fadeInEnd n) := by
  unfold Device.fadeInEnd
  split
  · exact ((d.mapLines_engine n _).trans (Device.modDelay_engine _ n _)).trans (Device.changeEnded_engine _ n)
  · exact refl d

theorem Device.slewAction_engine (d : Device) (n m : Ix8) : d.EngineOnly (d.slewAction n m) := by
  unfold Device.slewAction
  split
  · simp only
    have h := (((Device.modLine_engine d n m fun l => { (d.line n m).slewAction.1 with change := l.change }).trans
      (Device.handBack_engine _ (d.line n m).slewAction.2)).trans (Device.told_engine _)).trans
        (Device.modLine_engine _ n m fun l => { l with change := (d.line n m).slewAction.1.change })
    split
    · exact h
    · exact h.trans (Device.changeEnded_engine _ n)
  · exact refl d

theorem Device.stopDelay_engine (d : Device) (n : Ix8) : d.EngineOnly (d.stopDelay n) := Device.modDelay_engine d n _

theorem Device.clearDelay_engine (d : Device) (n : Ix8) : d.EngineOnly (d.clearDelay n) :=
  (Device.modDelay_engine d n _).trans (Device.handBack_engine _ _)

end Sys2Proof.Machine
end

