-- ==== Sys2Proof/Laws/Link.lean ====
section
/-!
SUPPORT. The control link in statements: what a request's frame does with the link at rest and with the link held, and
that a request leaves the queue, the reply list, the assembler and the line to the link itself.
-/

namespace Sys2Proof.Machine

variable {d : Device} {s : State}

/-! ## Changing two places of the part -/

/-- Two parts are equal that agree in every field. -/
theorem Device.ext_fields {d e : Device} (h1 : d.time = e.time) (h2 : d.ports = e.ports) (h3 : d.progs = e.progs)
    (h4 : d.pool = e.pool) (h5 : d.mem = e.mem) (h6 : d.map = e.map) (h7 : d.formed = e.formed)
    (h8 : d.emitted = e.emitted) (h9 : d.alarms = e.alarms) (h10 : d.checkers = e.checkers)
    (h11 : d.link = e.link) : d = e := by
  cases d; cases e; simp_all

/-- Changing the link by nothing changes nothing. -/
theorem Device.modLink_eq (f : Link → Link) (h : f d.link = d.link) : d.modLink f = d := by
  cases d; simp_all [Device.modLink]

/-! ## The link at rest -/

/-- A link at rest is calm. -/
theorem Device.linkQuiet.calm (h : d.linkQuiet) : d.calm :=
  ⟨h.2.2.2.2.2, h.2.2.2.2.1.imp_right fun x => .inr ⟨h.2.2.1, x⟩, .inl h.2.1⟩

/-- A held link is calm. -/
theorem Device.linkHeld.calm (h : d.linkHeld) : d.calm := ⟨h.2.2, .inl h.1, .inr h.2.1⟩

/-- A fold of steps that each leave a part as it is leaves it as it is. -/
theorem foldl_same {α : Type} {f : Device → α → Device} (l : List α) (h : ∀ a, f d a = d) : l.foldl f d = d := by
  induction l with
  | nil => rfl
  | cons a l ih => rw [List.foldl_cons, h a, ih]

/-- The checkers of a finished part have no change of state to make. -/
theorem Device.settleCheckers_finished (h : d.finished) : d.settleCheckers = d := by
  refine foldl_same _ fun i => ?_
  have a : d.checkerSync i = d := if_neg fun x => absurd ((h.1 i).1 x.1) (not_lt.mpr x.2)
  have b : d.checkerLoss i = d := if_neg fun x => absurd ((h.1 i).2 x.1) (not_lt.mpr x.2)
  rw [a, b]

/-- Nothing is left of the last house sample, the last sub-block end and the last grants in a finished part. -/
theorem Device.finish_finished (h : d.finished) : d.finish = d := by
  have c := d.settleCheckers_finished h
  obtain ⟨-, h1, h2, h3⟩ := h
  have a : d.finishTimers = d := foldl_same _ fun k => foldl_same _ fun i => by
    simp [Device.setTimerExpiry, Device.clearTimerExpiry, h1]
  have b : forEight d Device.returnExpiry = d := foldl_same _ fun n => by simp [Device.returnExpiry, h2]
  rw [Device.finish, c, a, b, Device.told_of_none h3]

/-- A calm link does nothing of itself. -/
theorem Device.settleLink_calm (h : d.calm) : d.settleLink = d := by
  obtain ⟨-, h1, h2⟩ := h
  have a : d.arbitrate = d := by
    unfold Device.arbitrate
    rcases h1 with h1 | h1 | ⟨h3, h4, h5⟩
    · rw [if_pos (Or.inl h1)]
    · rw [if_pos (Or.inr h1)]
    · simp only [h3, h4, h5]
      split <;> rfl
  rw [Device.settleLink, a, Device.execute]
  rcases h2 with h2 | h2
  · rw [h2]
  · split
    · rfl
    · simp [h2]

/-- A calm part has nothing to catch up with. -/
theorem Device.catchUp_calm (h : d.calm) : d.catchUp = d := by
  rw [Device.catchUp, Device.finish_finished h.1, Device.settleLink_calm h]

/-- A command of a calm part does its own work at once. -/
theorem State.prompt_calm {s : State} (h : s.dev.calm) (f : Device → Device) :
    s.prompt f = .next { s with dev := f s.dev } := by
  rw [State.prompt, State.update, Device.catchUp_calm h]

/-- With the link at rest a complete frame is executed at once, and its reply is the reply list. -/
theorem Device.completeFrame_quiet (h : d.linkQuiet) (body : List Byte) :
    d.completeFrame body =
      (d.performBody body).1.modLink fun l => { l with replies := l.replies ++ [replyTo body (d.performBody body).2] } := by
  have q := h.calm
  obtain ⟨h1, h2, h3, h4, -, -⟩ := h
  have e : ((d.modLink fun l => { l.offer body with assembler := .awaitStart }).modLink
      fun l => { l with queue := ([] : List (List Byte)) }) = d := by
    obtain ⟨t, po, pr, pl, m, mp, fo, em, al, ch, l⟩ := d
    obtain ⟨pa, as_, er, qu, re, li, rs, su, sl⟩ := l
    simp only at h1 h2 h3 h4
    subst h1 h2 h3 h4
    rfl
  rw [Device.completeFrame, Device.catchUp_calm q, Device.execute]
  have o : (d.modLink fun l => { l.offer body with assembler := .awaitStart }).link.queue = [body] := by
    simp [Link.offer, h2]
  have r : (d.modLink fun l => { l.offer body with assembler := .awaitStart }).link.ready = true := by
    simp [Link.offer, Link.ready, h2, h3, h4]
  rw [o]
  simp only [r, if_true]
  rw [e]

/-- With the link at rest a frame of a fitting body is executed at once. -/
theorem Device.requestFrame_quiet (h : d.linkQuiet) {body : List Byte} (b : bodyFits body = true) :
    d.requestFrame body =
      (d.performBody body).1.modLink fun l => { l with replies := l.replies ++ [replyTo body (d.performBody body).2] } := by
  rw [Device.requestFrame, if_pos b, Device.completeFrame_quiet h]

/-! ## Requests and the link -/

/-- What every request leaves alone: the queue, the reply list, the assembler and the line, the house index and the
second count, the delay memory and what the output lanes emit. -/
structure Device.RequestFrame (d e : Device) : Prop where
  queue : e.link.queue = d.link.queue
  replies : e.link.replies = d.link.replies
  assembler : e.link.assembler = d.link.assembler
  line : e.link.line = d.link.line
  h : e.time.h = d.time.h
  seconds : e.time.seconds = d.time.seconds
  boundary : e.time.boundary = d.time.boundary
  mem : e.mem = d.mem
  formed : e.formed = d.formed
  emitted : e.emitted = d.emitted

namespace Device.RequestFrame

variable {d e f : Device}

theorem refl (d : Device) : d.RequestFrame d := ⟨rfl, rfl, rfl, rfl, rfl, rfl, rfl, rfl, rfl, rfl⟩

theorem trans (h : d.RequestFrame e) (k : e.RequestFrame f) : d.RequestFrame f :=
  ⟨k.queue.trans h.queue, k.replies.trans h.replies, k.assembler.trans h.assembler, k.line.trans h.line,
    k.h.trans h.h, k.seconds.trans h.seconds, k.boundary.trans h.boundary, k.mem.trans h.mem,
    k.formed.trans h.formed, k.emitted.trans h.emitted⟩

theorem ofEngine (h : d.EngineOnly e) : d.RequestFrame e :=
  ⟨by rw [h.link], by rw [h.link], by rw [h.link], by rw [h.link], by rw [h.time], by rw [h.time], by rw [h.time],
    h.mem, h.formed, h.emitted⟩

theorem foldl {α : Type} {g : Device → α → Device} (l : List α) (h : ∀ a, ∀ d : Device, d.RequestFrame (g d a))
    (d : Device) : d.RequestFrame (l.foldl g d) := by
  induction l generalizing d with
  | nil => exact refl d
  | cons a l ih => exact (h a d).trans (ih _)

end Device.RequestFrame

open Device.RequestFrame

theorem Device.modAlarms_frame (d : Device) (g : AlarmUnit → AlarmUnit) : d.RequestFrame (d.modAlarms g) :=
  ofEngine (d.modAlarms_engine g)

theorem Device.modProg_frame (d : Device) (n : Ix8) (g : Programme → Programme) : d.RequestFrame (d.modProg n g) :=
  ⟨rfl, rfl, rfl, rfl, rfl, rfl, rfl, rfl, rfl, rfl⟩

theorem Device.modRecord_frame (d : Device) (n : Ix8) (g : Record → Record) : d.RequestFrame (d.modRecord n g) :=
  d.modProg_frame n _

theorem Device.modCtx_frame (d : Device) (n : Ix8) (g : Context → Context) : d.RequestFrame (d.modCtx n g) :=
  d.modProg_frame n _

theorem Device.modMeter_frame (d : Device) (n : Ix8) (g : Meter → Meter) : d.RequestFrame (d.modMeter n g) :=
  d.modProg_frame n _

theorem Device.modGain_frame (d : Device) (n : Ix8) (g : Gain → Gain) : d.RequestFrame (d.modGain n g) :=
  d.modProg_frame n _

theorem Device.modStage_frame (d : Device) (n : Ix8) (g : Stage → Stage) : d.RequestFrame (d.modStage n g) :=
  d.modProg_frame n _

theorem Device.modGen_frame (d : Device) (n : Ix8) (g : Generator → Generator) : d.RequestFrame (d.modGen n g) :=
  d.modProg_frame n _

theorem Device.modPort_frame (d : Device) (p : Ix8) (g : Port → Port) : d.RequestFrame (d.modPort p g) :=
  ⟨rfl, rfl, rfl, rfl, rfl, rfl, rfl, rfl, rfl, rfl⟩

theorem Device.modChecker_frame (d : Device) (c : Ix2) (g : Checker → Checker) : d.RequestFrame (d.modChecker c g) :=
  ⟨rfl, rfl, rfl, rfl, rfl, rfl, rfl, rfl, rfl, rfl⟩

theorem Device.rehunt_frame (d : Device) (i : Ix2) : d.RequestFrame (d.rehunt i) := by
  unfold Device.rehunt
  split
  · exact refl d
  · exact d.modChecker_frame i _
  · exact (d.modChecker_frame i _).trans (Device.modAlarms_frame _ _)

theorem Device.putMap_frame (d : Device) (q : Ix8) (k : Ix4) (x : MapEntry) : d.RequestFrame (d.putMap q k x) := by
  unfold Device.putMap
  split
  · exact refl d
  · have h : d.RequestFrame { d with map := d.map.set q ((d.map.get q).set k x) } :=
      ⟨rfl, rfl, rfl, rfl, rfl, rfl, rfl, rfl, rfl, rfl⟩
    refine h.trans (Device.RequestFrame.foldl two (fun i e => ?_) _)
    split
    · exact e.rehunt_frame i
    · exact refl e

theorem Device.silenceWhere_frame (d : Device) (test : MapEntry → Bool) : d.RequestFrame (d.silenceWhere test) := by
  refine Device.RequestFrame.foldl eight (fun q e => Device.RequestFrame.foldl four (fun k f => ?_) e) d
  split
  · exact f.putMap_frame q k _
  · exact refl f

theorem Device.force_frame (d : Device) (a : Alarm) : d.RequestFrame (d.force a) := d.modAlarms_frame _

theorem Device.setPort_frame (d : Device) (p : Ix8) (on : Bool) (x : LaneSource) : d.RequestFrame (d.setPort p on x) := by
  unfold Device.setPort Device.disablePort Device.startPort
  simp only
  split
  · split
    · exact refl d
    · exact d.modPort_frame p _
  · split
    · exact ((d.modPort_frame p _).trans (Device.force_frame _ _)).trans (Device.force_frame _ _)
    · exact d.modPort_frame p _

theorem Device.raiseRefLoss_frame (d : Device) : d.RequestFrame d.raiseRefLoss := by
  unfold Device.raiseRefLoss
  split
  · exact d.modAlarms_frame _
  · exact refl d

theorem Device.applySetup_frame (d : Device) (n : Ix8) (f : BitVec 24) : d.RequestFrame (d.applySetup n f) := by
  unfold Device.applySetup
  have one : ∀ (c : Bool) (e g : Device), e.RequestFrame g → e.RequestFrame (if c = true then g else e) := by
    intro c e g h
    cases c
    · exact refl e
    · exact h
  exact ((one _ d _ (d.modGain_frame n _)).trans (one _ _ _ (Device.modStage_frame _ n _))).trans
    (one _ _ _ (ofEngine (Device.targetTrigger_engine _ n)))

theorem Device.setup_frame (d : Device) (n : Ix8) (f : BitVec 24) (b : SettingsBlock) (l : LoudMode) (c : ChangeMode) :
    d.RequestFrame (d.setup n f b l c) := by
  unfold Device.setup
  have one : ∀ (c : Bool) (e g : Device), e.RequestFrame g → e.RequestFrame (if c = true then g else e) := by
    intro c e g h
    cases c
    · exact refl e
    · exact h
  exact ((d.modRecord_frame n _).trans (one _ _ _ (Device.modCtx_frame _ n _))).trans
    (one _ _ _ (Device.applySetup_frame _ n _))

theorem Device.runProgramme_frame (d : Device) (n : Ix8) : d.RequestFrame (d.runProgramme n) := by
  unfold Device.runProgramme
  exact ((d.modProg_frame n _).trans (ofEngine (Device.initialFill_engine _ n))).trans (Device.modAlarms_frame _ _)

theorem Device.stopProgramme_frame (d : Device) (n : Ix8) : d.RequestFrame (d.stopProgramme n) := by
  unfold Device.stopProgramme
  have a := (d.modRecord_frame n fun r => { r with state := .stopping }).trans (ofEngine (Device.withdraw_engine _ n))
  have b := (a.trans (Device.modCtx_frame _ n Context.stop)).trans (ofEngine (Device.stopDelay_engine _ n))
  have c := b.trans (RequestFrame.foldl (conditionsOf n) (fun a e => e.force_frame a) _)
  exact (c.trans (Device.modMeter_frame _ n Meter.stop)).trans (Device.modStage_frame _ n _)

theorem Device.deleteProgramme_frame (d : Device) (n : Ix8) : d.RequestFrame (d.deleteProgramme n) := by
  unfold Device.deleteProgramme
  have a := (d.modProg_frame n fun x => { x with record := .reset, ctx := .reset, meter := .reset }).trans
    (Device.silenceWhere_frame _ fun e => e.names n 0)
  exact a.trans (Device.modAlarms_frame _ _)

/-- Every request carried out leaves the frame. -/
theorem Device.carryOut_frame (d : Device) (r : Request) : d.RequestFrame (d.carryOut r).1 := by
  cases r <;> simp only [Device.carryOut]
  case ident => exact refl d
  case start a b =>
    unfold Device.requestStart
    split
    · next size m _ _ =>
      have h : d.RequestFrame { d with
          pool := Pool.formed size, time := d.time.choose m, link := { d.link with part := .run } } :=
        ⟨rfl, rfl, rfl, rfl, rfl, rfl, rfl, rfl, rfl, rfl⟩
      exact h.trans (Device.raiseRefLoss_frame _)
    · exact refl d
  case restart => exact ⟨rfl, rfl, rfl, rfl, rfl, rfl, rfl, rfl, rfl, rfl⟩
  case status => exact refl d
  case port p a b c =>
    unfold Device.requestPort
    split
    · dsimp only; exact d.setPort_frame _ _ _
    · exact refl d
  case portq =>
    unfold Device.requestPortq
    split
    · exact refl d
    · split <;> exact refl d
  case define a b ms =>
    unfold Device.requestDefine
    split
    · simp only
      split
      · exact refl d
      · split
        · exact refl d
        · split
          · dsimp only [Device.define]
            exact (d.modRecord_frame _ _).trans (Device.silenceWhere_frame _ _)
          · exact refl d
    · exact refl d
  case setup a f b =>
    unfold Device.requestSetup
    split
    · exact refl d
    · simp only
      split
      · split
        · exact refl d
        · exact d.setup_frame _ _ _ _ _
      · exact refl d
  case run a =>
    unfold Device.requestRun
    split
    · exact refl d
    · split
      · exact refl d
      · exact refl d
      · exact refl d
      · split
        · exact refl d
        · exact d.runProgramme_frame _
  case stop a =>
    unfold Device.requestStop
    split
    · exact refl d
    · split
      · exact refl d
      · exact refl d
      · exact refl d
      · exact d.stopProgramme_frame _
  case delete a =>
    unfold Device.requestDelete
    split
    · exact refl d
    · split
      · exact d.deleteProgramme_frame _
      · exact refl d
  case progq =>
    unfold Device.requestProgq
    split
    · exact refl d
    · split <;> exact refl d
  case switch a b =>
    unfold Device.requestSwitch
    split
    · split
      · split
        · dsimp only; exact d.modCtx_frame _ _
        · exact refl d
      · exact refl d
    · exact refl d
  case lreset a =>
    unfold Device.requestLreset
    split
    · exact refl d
    · split
      · exact d.modMeter_frame _ _
      · exact refl d
  case route =>
    unfold Device.requestRoute
    split
    · split
      · exact d.putMap_frame _ _ _
      · exact refl d
    · exact refl d
  case routeq => exact refl d
  case poolq => exact refl d
  case amask =>
    unfold Device.requestAmask
    split
    · dsimp only; exact d.modAlarms_frame _
    · exact refl d
  case aquery => unfold Device.requestAquery; split <;> exact refl d
  case aclear =>
    unfold Device.requestAclear
    split
    · dsimp only; exact d.modAlarms_frame _
    · exact refl d
  case counts => exact ⟨rfl, rfl, rfl, rfl, rfl, rfl, rfl, rfl, rfl, rfl⟩
  case meter =>
    unfold Device.requestMeter
    split
    · exact ⟨rfl, rfl, rfl, rfl, rfl, rfl, rfl, rfl, rfl, rfl⟩
    · exact refl d
  case mstop => exact ⟨rfl, rfl, rfl, rfl, rfl, rfl, rfl, rfl, rfl, rfl⟩
  case tgen =>
    unfold Device.requestTgen
    split
    · dsimp only; exact d.modGen_frame _ _
    · exact refl d
  case tcheck =>
    unfold Device.requestTcheck
    split
    · dsimp only [Device.disableChecker, Device.force]
      exact (d.modChecker_frame _ _).trans (Device.modAlarms_frame _ _)
    · split
      · dsimp only [Device.enableChecker, Device.activate]
        exact (d.modChecker_frame _ _).trans (Device.modAlarms_frame _ _)
      · exact refl d
    · exact refl d
  case tcheckq =>
    unfold Device.requestTcheckq
    split
    · exact refl d
    · split <;> exact refl d

/-- The body of every complete frame leaves the frame. -/
theorem Device.performBody_frame (d : Device) (body : List Byte) : d.RequestFrame (d.performBody body).1 := by
  unfold Device.performBody
  split
  · exact refl d
  · unfold Device.perform
    split
    · exact refl d
    · exact d.carryOut_frame _

/-- With the link at rest a fitting frame leaves the reply of its body as the whole reply list. -/
theorem Device.requestFrame_answered (h : d.linkQuiet) {body : List Byte} (b : bodyFits body = true) (s : State) :
    { s with dev := d.requestFrame body } =
      s.answered (d.performBody body).1 (replyTo body (d.performBody body).2) := by
  rw [Device.requestFrame_quiet h b]
  have r : (d.performBody body).1.link.replies = [] := (d.performBody_frame body).replies.trans h.2.2.1
  simp [State.answered, Device.modLink, r]

end Sys2Proof.Machine
end

