-- ==== Sys2Proof/Laws/Memory.lean ====
section
/-!
SUPPORT. The delay memory: a read after a write, and the canonical form, which every write keeps.
-/

namespace Sys2Proof.Machine

/-! ## Canonical form -/

/-- Every cell of a written list was listed before or is the word written. -/
theorem mem_writeCells {l : List (Nat × Sample)} {a : Nat} {x : Sample} {c : Nat × Sample}
    (h : c ∈ writeCells l a x) : c ∈ l ∨ c = (a, x) := by
  induction l with
  | nil => unfold writeCells at h; split at h <;> simp_all
  | cons e l ih =>
    unfold writeCells at h
    split_ifs at h with h1 h2 h3 h4
    · exact .inl h
    · rcases List.mem_cons.1 h with h | h
      exacts [.inr h, .inl h]
    · exact .inl (List.mem_cons_of_mem _ h)
    · rcases List.mem_cons.1 h with h | h
      exacts [.inr h, .inl (List.mem_cons_of_mem _ h)]
    · rcases List.mem_cons.1 h with h | h
      · exact .inl (h ▸ List.mem_cons_self)
      · exact (ih h).imp_left (List.mem_cons_of_mem _)

/-- What canonical form says of a list with a head. -/
theorem cellsWf_cons {e : Nat × Sample} {l : List (Nat × Sample)} :
    cellsWf (e :: l) = true ↔ e.2 ≠ unlistedWord ∧ (∀ c ∈ l, e.1 < c.1) ∧ cellsWf l = true := by
  simp [cellsWf, and_assoc]

/-- A write keeps the canonical form. -/
theorem writeCells_wf {l : List (Nat × Sample)} (h : cellsWf l = true) (a : Nat) (x : Sample) :
    cellsWf (writeCells l a x) = true := by
  induction l with
  | nil =>
    unfold writeCells
    split_ifs with hx
    · rfl
    · exact cellsWf_cons.2 ⟨hx, by simp, rfl⟩
  | cons e l ih =>
    obtain ⟨h1, h2, h3⟩ := cellsWf_cons.1 h
    unfold writeCells
    split_ifs with ha hx he hx
    · exact h
    · refine cellsWf_cons.2 ⟨hx, fun c hc => ?_, h⟩
      rcases List.mem_cons.1 hc with rfl | hc
      exacts [ha, ha.trans (h2 c hc)]
    · exact h3
    · exact cellsWf_cons.2 ⟨hx, fun c hc => he ▸ h2 c hc, h3⟩
    · refine cellsWf_cons.2 ⟨h1, fun c hc => ?_, ih h3⟩
      rcases mem_writeCells hc with hc | rfl
      exacts [h2 c hc, by omega]

/-- A write of the memory keeps its canonical form. -/
theorem DelayMemory.write_wf {m : DelayMemory} (h : m.wf = true) (a : Nat) (x : Sample) : (m.write a x).wf = true :=
  writeCells_wf h a x

/-- The memory after a power-on reset is in canonical form. -/
theorem reset_memory_wf : State.reset.dev.mem.wf = true := rfl

/-! ## Read after write -/

/-- A word below every listed address reads as an unlisted word. -/
theorem readCells_low {l : List (Nat × Sample)} {a : Nat} (h : ∀ c ∈ l, a < c.1) : readCells l a = unlistedWord := by
  induction l with
  | nil => rfl
  | cons e l ih =>
    unfold readCells
    rw [if_neg (h e List.mem_cons_self).ne', ih fun c hc => h c (List.mem_cons_of_mem _ hc)]

/-- The word written reads back, and every other word reads as before. -/
theorem readCells_writeCells {l : List (Nat × Sample)} (h : cellsWf l = true) (a : Nat) (x : Sample) (b : Nat) :
    readCells (writeCells l a x) b = if b = a then x else readCells l b := by
  induction l with
  | nil => by_cases hx : x = unlistedWord <;> simp [writeCells, readCells, hx, eq_comm]
  | cons e l ih =>
    obtain ⟨-, h2, h3⟩ := cellsWf_cons.1 h
    have low : a ≤ e.1 → readCells l a = unlistedWord := fun q => readCells_low fun c hc => q.trans_lt (h2 c hc)
    unfold writeCells
    split_ifs with ha hx hb hb he hx hb hb hb
    · subst hb; simp [readCells, ha.ne', low ha.le, hx]
    · rfl
    · subst hb; simp [readCells]
    · simp [readCells, Ne.symm hb]
    · subst hb; rw [low he.ge, hx]
    · subst he; simp [readCells, Ne.symm hb]
    · subst hb; simp [readCells]
    · subst he; simp [readCells, Ne.symm hb]
    · subst hb; simp [readCells, he, ih h3]
    · simp only [readCells, ih h3, if_neg hb]

/-- The word written reads back, and every other word reads as before. -/
theorem DelayMemory.read_write {m : DelayMemory} (h : m.wf = true) (a : Nat) (x : Sample) (b : Nat) :
    (m.write a x).read b = if b = a then x else m.read b := readCells_writeCells h a x b

end Sys2Proof.Machine
end

