-- ==== Sys2Proof/Laws/Numeric.lean ====
section
/-!
SUPPORT. The exact arithmetic: what the search, the clamp, the rounding and the comparison of powers of ten answer.
-/

namespace Sys2Proof.Machine

/-- The search answers a number at which the test holds and after which it fails; of a test that, once failed, fails
from there on, there is one such number. -/
theorem greatest_spec {test : Int → Bool} (bits : Nat) {lo : Int} (low : test lo = true)
    (high : test (lo + 2 ^ bits) = false) :
    lo ≤ greatest test bits lo ∧ greatest test bits lo < lo + 2 ^ bits ∧ test (greatest test bits lo) = true ∧
      test (greatest test bits lo + 1) = false := by
  induction bits generalizing lo with
  | zero => simp_all [greatest]
  | succ k ih =>
    have two : (2 : Int) ^ (k + 1) = 2 ^ k + 2 ^ k := by ring
    have pos : (0 : Int) < 2 ^ k := by positivity
    unfold greatest
    split_ifs with h
    · obtain ⟨h1, h2, h3, h4⟩ := ih h (by rw [← high]; congr 1; omega)
      exact ⟨by omega, by omega, h3, h4⟩
    · obtain ⟨h1, h2, h3, h4⟩ := ih low (by simpa using h)
      exact ⟨by omega, by omega, h3, h4⟩

/-- The clamp is the least of the upper bound and the greatest of the lower bound and the value. -/
theorem clampInt_eq {v a b : Int} (h : a ≤ b) : clampInt v a b = max a (min b v) := by
  unfold clampInt
  split_ifs <;> omega

/-- The rounding of a quotient is the floor of the quotient and a half. -/
theorem roundDiv_eq {a b : Int} (h : 0 < b) : roundDiv a b = ⌊(a : ℚ) / b + 1 / 2⌋ := by
  have e : (a : ℚ) / b + 1 / 2 = ((2 * a + b : Int) : ℚ) / ((2 * b).toNat : Nat) := by
    have n : ((2 * b).toNat : ℚ) = 2 * b := by
      have : ((2 * b).toNat : Int) = 2 * b := Int.toNat_of_nonneg (by omega)
      exact_mod_cast this
    have z : (b : ℚ) ≠ 0 := by exact_mod_cast h.ne'
    rw [n]; push_cast; field_simp
  rw [e, Rat.floor_intCast_div_natCast, Int.toNat_of_nonneg (by omega), roundDiv]

/-- The comparison of powers of ten is a comparison of real numbers. -/
theorem tenTimesLe_iff (t : Int) (a b : Nat) : tenTimesLe t a b = true ↔ (10 : ℝ) ^ t * a ≤ b := by
  rw [tenTimesLe, decide_eq_true_iff]
  rcases le_total 0 t with h | h
  · obtain ⟨n, rfl⟩ := Int.eq_ofNat_of_zero_le h
    simp only [Int.toNat_natCast, Int.toNat_neg_natCast, pow_zero, mul_one, zpow_natCast]
    exact_mod_cast Iff.rfl
  · obtain ⟨n, rfl⟩ : ∃ n : Nat, t = -n := ⟨(-t).toNat, by omega⟩
    simp only [Int.toNat_neg_natCast, neg_neg, Int.toNat_natCast, pow_zero, one_mul, zpow_neg, zpow_natCast]
    rw [inv_mul_le_iff₀ (by positivity), mul_comm]
    exact_mod_cast Iff.rfl

end Sys2Proof.Machine
end

