-- ==== Sys2Proof/Laws/Operands.lean ====
section
/-!
SUPPORT. How multi-byte fields, request types and member lists read back (R193, Tables 11-5 and 11-6).
-/

namespace Sys2Proof.Machine

/-- Every type code names its type. -/
@[simp] theorem typeOf_typeCode (t : ReqType) : typeOf (typeCode t) = some t := by
  cases t <;> rfl

/-- Two bytes of a field put together again. -/
theorem be16_parts (v : BitVec 16) : be16 (v.extractLsb' 8 8) (v.extractLsb' 0 8) = v := by
  apply BitVec.eq_of_getLsbD_eq
  intro i hi
  change BitVec.getLsbD (w := 8 + 8) (v.extractLsb' 8 8 ++ v.extractLsb' 0 8) i = _
  simp only [BitVec.getLsbD_append, BitVec.getLsbD_extractLsb']
  by_cases a : i < 8
  · simp [a]
  · simp [a, show i - 8 < 8 by omega, show 8 + (i - 8) = i by omega]

/-- Three bytes of a field put together again. -/
theorem be24_parts (v : BitVec 24) :
    be24 (v.extractLsb' 16 8) (v.extractLsb' 8 8) (v.extractLsb' 0 8) = v := by
  apply BitVec.eq_of_getLsbD_eq
  intro i hi
  change BitVec.getLsbD (w := 8 + 8 + 8) (v.extractLsb' 16 8 ++ v.extractLsb' 8 8 ++ v.extractLsb' 0 8) i = _
  simp only [BitVec.getLsbD_append, BitVec.getLsbD_extractLsb']
  by_cases a : i < 8
  · simp [a]
  · by_cases b : i - 8 < 8
    · simp [a, b, show 8 + (i - 8) = i by omega]
    · simp [a, b, show i - 8 - 8 < 8 by omega, show 16 + (i - 8 - 8) = i by omega]

/-- Four bytes of a field put together again. -/
theorem be32_parts (v : BitVec 32) :
    be32 (v.extractLsb' 24 8) (v.extractLsb' 16 8) (v.extractLsb' 8 8) (v.extractLsb' 0 8) = v := by
  apply BitVec.eq_of_getLsbD_eq
  intro i hi
  change BitVec.getLsbD (w := 8 + 8 + 8 + 8)
    (v.extractLsb' 24 8 ++ v.extractLsb' 16 8 ++ v.extractLsb' 8 8 ++ v.extractLsb' 0 8) i = _
  simp only [BitVec.getLsbD_append, BitVec.getLsbD_extractLsb']
  by_cases a : i < 8
  · simp [a]
  · by_cases b : i - 8 < 8
    · simp [a, b, show 8 + (i - 8) = i by omega]
    · by_cases c : i - 8 - 8 < 8
      · simp [a, b, c, show 16 + (i - 8 - 8) = i by omega]
      · simp [a, b, c, show i - 8 - 8 - 8 < 8 by omega, show 24 + (i - 8 - 8 - 8) = i by omega]

/-- The bytes of a settings block, one by one (Table 11-7a). -/
theorem writeBlock_bytes (b : SettingsBlock) : writeBlock b =
  [b.delayTarget.extractLsb' 24 8, b.delayTarget.extractLsb' 16 8, b.delayTarget.extractLsb' 8 8, b.delayTarget.extractLsb' 0 8, b.loudnessMode,
   b.loudnessTarget.extractLsb' 8 8, b.loudnessTarget.extractLsb' 0 8, b.maxBoost.extractLsb' 8 8, b.maxBoost.extractLsb' 0 8,
   b.maxCut.extractLsb' 8 8, b.maxCut.extractLsb' 0 8, b.slew.extractLsb' 8 8, b.slew.extractLsb' 0 8, b.trim.extractLsb' 8 8, b.trim.extractLsb' 0 8,
   b.resetOnChangeover, b.changeoverMode, b.gapLevel.extractLsb' 8 8, b.gapLevel.extractLsb' 0 8, b.holdLimit.extractLsb' 8 8, b.holdLimit.extractLsb' 0 8,
   b.returnTime.extractLsb' 8 8, b.returnTime.extractLsb' 0 8, b.silenceLevel.extractLsb' 8 8, b.silenceLevel.extractLsb' 0 8,
   b.silenceSetTime.extractLsb' 8 8, b.silenceSetTime.extractLsb' 0 8, b.silenceClearTime.extractLsb' 8 8, b.silenceClearTime.extractLsb' 0 8,
   b.loudnessWindow.extractLsb' 8 8, b.loudnessWindow.extractLsb' 0 8, b.loudnessTime.extractLsb' 8 8, b.loudnessTime.extractLsb' 0 8,
   b.overLevel.extractLsb' 8 8, b.overLevel.extractLsb' 0 8] := by
  simp only [writeBlock, put32, put16, List.cons_append, List.nil_append]

/-- The settings block written reads back (Table 11-7a). -/
theorem readBlock_writeBlock (b : SettingsBlock) : readBlock (writeBlock b) = b := by
  rw [writeBlock_bytes]
  simp only [readBlock, byteAt, List.getD_cons_zero, List.getD_cons_succ, be16_parts, be32_parts]

/-- A settings block is 35 bytes (Table 11-7a). -/
theorem length_writeBlock (b : SettingsBlock) : (writeBlock b).length = 35 := by
  rw [writeBlock_bytes]
  rfl

/-- The members written read back. -/
theorem readMembers_writeMembers (ms : List MemberField) : readMembers ms.length (writeMembers ms) = some ms := by
  induction ms with
  | nil => rfl
  | cons m r ih => simp [readMembers, writeMembers, ih]

/-- Three bytes a member. -/
theorem length_writeMembers (ms : List MemberField) : (writeMembers ms).length = 3 * ms.length := by
  induction ms with
  | nil => rfl
  | cons m r ih => simp [writeMembers, ih]; omega

end Sys2Proof.Machine
end

