-- ==== Sys2Proof/Laws/Requests.lean ====
section
/-!
SUPPORT. How the bytes of a request name places and flags, and what a request command does with the link at rest.
-/

namespace Sys2Proof.Machine

/-! ## Bytes that name something, and bytes that name nothing -/

@[simp] theorem ix8?_byteOf (p : Ix8) : ix8? (byteOf p.val).toNat = some p := by fin_cases p <;> rfl
@[simp] theorem ix4?_byteOf (k : Ix4) : ix4? (byteOf k.val).toNat = some k := by fin_cases k <;> rfl
@[simp] theorem ix2?_byteOf (i : Ix2) : ix2? (byteOf i.val).toNat = some i := by fin_cases i <;> rfl

theorem ix8?_none {n : Nat} (h : 7 < n) : ix8? n = none := dif_neg (by omega)
theorem ix4?_none {n : Nat} (h : 3 < n) : ix4? n = none := dif_neg (by omega)
theorem ix2?_none {n : Nat} (h : 1 < n) : ix2? n = none := dif_neg (by omega)

theorem byteOf_ne_ff8 (p : Ix8) : byteOf p.val ≠ 0xFF := by fin_cases p <;> decide
theorem byteOf_ne_ff2 (i : Ix2) : byteOf i.val ≠ 0xFF := by fin_cases i <;> decide

@[simp] theorem flag?_boolByte (b : Bool) : flag? (boolByte b) = some b := by cases b <;> rfl
@[simp] theorem flag?_zero : flag? 0 = some false := rfl
@[simp] theorem flag?_one : flag? 1 = some true := rfl

theorem ne_of_toNat_lt {x y : Byte} (h : y.toNat < x.toNat) : x ≠ y := by rintro rfl; omega

theorem flag?_none {b : Byte} (h : 1 < b.toNat) : flag? b = none := by
  unfold flag?
  rw [if_neg (ne_of_toNat_lt (y := 0) (by simp; omega)), if_neg (ne_of_toNat_lt (y := 1) h)]

@[simp] theorem portFlag_boolByte (b : Bool) : portFlag (boolByte b) = b := by cases b <;> rfl
@[simp] theorem portFlag_zero : portFlag 0 = false := rfl
@[simp] theorem portFlag_one : portFlag 1 = true := rfl

/-- An enable byte of PORT that R15 gives no meaning is open (log 17). -/
theorem portFlag_open {b : Byte} (h : 1 < b.toNat) : portFlag b = Config.portEnable b := by
  rw [portFlag, flag?_none h, Option.getD_none]

/-! ## Request commands -/

variable {s : State}

/-- A request command is the frame of its request (log 14). -/
theorem exec_request {i : Instr} {tag : Byte} {r : Request} (h : i.request = some (tag, r)) :
    exec i s = .next { s with dev := s.dev.requestFrame (requestBody tag r) } := by
  cases i <;> simp [Instr.request] at h <;> obtain ⟨rfl, rfl⟩ := h <;> rfl

/-- The body of a well-formed request fits a frame. -/
theorem bodyFits_request {i : Instr} {tag : Byte} {r : Request} (h : i.request = some (tag, r))
    (w : i.wellFormed = true) : bodyFits (requestBody tag r) = true := by
  cases i <;> simp [Instr.request] at h <;> obtain ⟨rfl, rfl⟩ := h <;>
    simp [bodyFits, requestBody, writeFields, put24, put16, length_writeBlock]
  simp [Instr.wellFormed, fitsFrame] at w
  simp [length_writeMembers]
  omega

/-- With the link at rest, a well-formed request whose body reads back is carried out at once and answered. -/
theorem exec_request_quiet {i : Instr} {tag : Byte} {r : Request} (h : i.request = some (tag, r))
    (w : i.wellFormed = true) (q : s.dev.linkQuiet) (b : readBody (requestBody tag r) = .ok r) :
    exec i s = .next (s.answered (s.dev.perform r).1
      ((s.dev.perform r).2.reply (typeCode (requestType r)) tag
        (requestType r == .restart && (s.dev.perform r).2.status == .ok))) := by
  rw [exec_request h, Device.requestFrame_answered q (bodyFits_request h w)]
  have p : s.dev.performBody (requestBody tag r) = s.dev.perform r := by rw [Device.performBody, b]
  rw [p]
  simp [replyTo, requestBody, bodyType, bodyTag, byteAt]

/-- In RUN a request other than START goes to its own rule (R188). -/
theorem Device.perform_run {d : Device} {r : Request} (p : d.link.part = .run) (n : requestType r ≠ .start) :
    d.perform r = d.carryOut r := by
  unfold Device.perform
  rw [p]
  cases r <;> first | rfl | exact absurd rfl n

end Sys2Proof.Machine
end

