-- ==== Sys2Proof/Tests/Slice0.lean ====
section
/-!
SUPPORT. Tests of the model. The expected values are those of the tables and worked cases of spec/, or are worked out
from its rules by hand; each test names its source. The second half holds one witness for each statement that has
hypotheses: a state and operands that meet them, clause by clause.
-/

namespace Sys2Proof.Tests

open Sys2Proof Sys2Proof.Machine

set_option Elab.async false

/-! ## States to test on -/

/-- The part in RUN with a pool of eight blocks, its reference INTERNAL, and nothing else done. -/
def lab : Device :=
  { Device.reset with
    time := { Timebase.reset with mode := some .internal }
    pool := Pool.formed 8
    link := { Link.reset with part := .run } }

/-- The laboratory part with one programme in place of programme 0. -/
def labProg (x : Programme) : Device := { lab with progs := lab.progs.set 0 x }

/-- The laboratory part with one port in place of port 0. -/
def labPort (x : Port) : Device := { lab with ports := lab.ports.set 0 x }

/-- The laboratory part with another control link. -/
def labLink (l : Link) : Device := { lab with link := l }

/-- A programme in a state, with one member that has a backup. -/
def withMember (p : ProgState) : Programme :=
  { Programme.reset with
    record := { Record.reset with state := p, members := [⟨.front, ⟨0, 0⟩, some ⟨1, 0⟩⟩] } }

/-- A converter of a port that is enabled. -/
def labConv (c : Converter) (l : LaneState) : Device :=
  labPort { Port.reset with conv := c, lane := { Lane.reset with enabled := true, state := l } }

/-- A figure of the part after one command. -/
def after {α : Type} (i : Instr) (d : Device) (f : Device → α) : Option α :=
  match exec i { pending := [], dev := d } with
  | .next t => some (f t.dev)
  | .fault _ => none
  | .refused _ => none

/-- The status of the one reply that a command leaves. -/
def replied (i : Instr) (d : Device) : Option (List Status) := after i d fun e => e.link.replies.map Reply.status

/-- Port 0 after a lane's time limit, before the house sample at 4,800, whose sub-block end is taken; its last marker
came at a house index. -/
def darkAt (last : HouseIndex) : Option Port :=
  after (.laneDarkTimeout 0)
    { labPort { Port.reset with lane := { Lane.reset with enabled := true, state := .framing, lastMarker := last } }
    with time := { lab.time with h := 4800, boundary := .taken } }
    (fun e => e.port 0)

/-! ## Well-formedness -/

theorem test_wellFormed_body_of_one_byte : (Instr.frameReceived [0] 0).wellFormed = false := by decide
theorem test_wellFormed_body_of_251_bytes : (Instr.frameReceived (List.replicate 251 0) 0).wellFormed = false := by
  decide +kernel
theorem test_wellFormed_known_type : (Instr.unknownType 0x01 0 []).wellFormed = false := by decide
theorem test_wellFormed_unknown_type_of_251_bytes :
    (Instr.unknownType 0x7F 0 (List.replicate 249 0)).wellFormed = false := by decide +kernel
theorem test_wellFormed_define_of_82_members :
    (Instr.define 0 0 0 (List.replicate 82 ⟨0, 0, 0⟩)).wellFormed = false := by decide +kernel
theorem test_wellFormed_define_of_81_members :
    (Instr.define 0 0 0 (List.replicate 81 ⟨0, 0, 0⟩)).wellFormed = true := by decide +kernel

/-- The table gives no bits: no word spells a command, and a fetch word changes nothing. -/
theorem test_no_word_spells_a_command :
    decodeTableWord 16 0x0001 = none ∧ State.reset.withFetchWord 16 0x0001 = State.reset := ⟨rfl, rfl⟩

/-! ## Figures -/

/-- R177: the CRC of the bytes 0x31 to 0x39. -/
theorem test_crc : crcOf [0x31, 0x32, 0x33, 0x34, 0x35, 0x36, 0x37, 0x38, 0x39] = 0x29B1 := by
  decide +kernel

/-- Table 1-5. -/
theorem test_levels :
    [8388608, 8388607, 4194304, 1000000, 86, 85, 84, 1, 0].map levelOf =
      [0, 0, -60, -185, -998, -999, -999, -999, -999] := by decide +kernel

/-- Table 4-3, and the amplitude of -20.0 dBFS (Table 10-1). -/
theorem test_amplitudes : [-300, -500, -700, -200].map amplitudeOf = [265271, 26527, 2653, 838861] := by
  decide +kernel

/-- Table 8-2. -/
theorem test_gain_factors :
    [-4000, -600, -10, 0, 200, 2000].map gainFactor = [10486, 525533, 1036573, 1048576, 1320079, 10485760] := by
  decide +kernel

/-- Section 8.5. -/
theorem test_output_arithmetic :
    gained 4000000 1036573 = 3954212 ∧ gained 8388607 1320079 = 10560631 ∧ overflows 10560631 = true := by
  decide +kernel

/-- Table 2-3: the limits of a measurement and the rates at them. -/
theorem test_rate_limits :
    inRange 503316 = false ∧ inRange 503317 = true ∧ inRange 1797558 = true ∧ inRange 1797559 = false ∧
      rateOf 503317 = 34952497 ∧ rateOf 1797558 = 9786714 := by decide

/-- Table 2-5. -/
theorem test_latencies :
    [1572864, 1141307, 1048576, 524288].map rateOf = [11184811, 15414070, 16777216, 33554432] ∧
      [11184811, 15414070, 16777216, 33554432].map (latencyFor 32) = [60, 44, 40, 20] := by decide

/-- Section 2.11.2: the first tracking interval. -/
theorem test_tracking :
    rateOf 1141308 = 15414057 ∧ jumps 15414057 15414070 = false ∧
      15414070 + roundDiv (15414057 - 15414070) 8 = 15414068 ∧ servo 15414068 35 = 15414836 ∧
      latencyFor 35 15414068 = 47 := by decide

/-- Table 6-1. -/
theorem test_required_lengths :
    requiredLength 4800 40 = 4736 ∧ requiredLength 64 40 = 0 ∧ requiredLength 50 40 = 0 ∧
      requiredLength 480000 20 = 479956 ∧ requiredLength 480000 44 = 479932 := by decide

/-- Section 5.9: block needs. -/
theorem test_block_needs : [0, 200000, 300000, 20000].map blockNeed = [0, 197, 294, 21] := by decide

/-- Section 7.9: the gated loudness of two histograms. -/
theorem test_integrated :
    integratedOf [(300, 1), (470, 6), (500, 3)] = some (-218) ∧ integratedOf [(50, 20)] = some (-650) ∧
      integratedOf [] = none := by decide +kernel

/-- R165: from all ones the sequence goes on with zeros (1 XOR 1). -/
theorem test_sequence : sequenceStep (BitVec.allOnes 23) = 0x7FFFFE := by decide

/-! ## One step of a command -/

/-- R192, Table 11-2: IDENT is answered in CONFIG. -/
theorem test_ident :
    after (.ident 7) Device.reset (fun e => e.link.replies.flatMap Reply.bodies) =
      some [[0x81, 7, 0, 0, 0x80, 0x44, 0x32, 0x08, 0x01, 8, 8, 0x10, 0x00]] := by decide +kernel

/-- R188: POOLQ is refused in CONFIG, and START in RUN. -/
theorem test_part_state :
    replied (.poolq 0) Device.reset = some [.refused .notStarted] ∧
      replied (.start 0 0 0) lab = some [.refused .wrongState] := by decide +kernel

/-- R189, R74, R4: START with code 2 and WORD. -/
theorem test_start :
    after (.start 3 2 0) Device.reset (fun e => (e.pool.free.length, e.time.state, e.alarms.pin)) =
      some (4096, .holding, true) := by decide +kernel
theorem test_start_reply :
    after (.start 3 2 0) Device.reset (fun e => e.link.replies.flatMap Reply.bodies) =
      some [[0x82, 3, 0, 0, 0x80, 0x10, 0x00, 0, 2]] := by decide +kernel

/-- R190: the RESTART reply on its way to the line is followed by the restart. -/
theorem test_restart :
    after .transmitLineFree (labLink { lab.link with line := some ⟨[], true⟩, restart := .awaiting })
      (fun e => (e.link.line, e.link.restart)) = some (none, .due) := by decide +kernel
/-- R184, R190: a RESTART reply just formed on an idle line is on its way, and its end is followed by the restart. -/
theorem test_restart_reply_just_formed :
    after .transmitLineFree
      (labLink { lab.link with replies := [{ okReply 0x83 0 [] with isRestart := true }], restart := .awaiting })
      (fun e => (e.link.replies, e.link.line, e.link.restart)) = some ([], none, .due) := by decide +kernel
theorem test_restart_performed :
    after .restartPerformed (labLink { lab.link with restart := .due }) (fun e => (e.link.part, e.pool.free)) =
      some (.run, [0, 1, 2, 3, 4, 5, 6, 7]) := by decide +kernel

/-- R192: a line reset leaves CONFIG and no pool. -/
theorem test_line_reset : after .lineReset lab (fun e => (e.link.part, e.pool.size)) = some (.config, 0) := by
  decide +kernel
theorem test_power_on_reset : after .powerOnReset lab (fun e => decide (e = Device.reset)) = some true := by
  decide +kernel

/-- R176, R178: 0xA5 starts a frame, and a length of 251 does not go on. -/
theorem test_received_byte : after (.receivedByte 0xA5 false) lab (fun e => e.link.assembler) = some .awaitLength := by
  decide +kernel
theorem test_received_length :
    after (.receivedByte 251 false) (labLink { lab.link with assembler := .awaitLength })
      (fun e => (e.link.assembler, e.link.errors)) = some (.awaitStart, 1) := by decide +kernel

/-- R178: the time limit abandons the frame without counting it. -/
theorem test_inter_byte_timeout :
    after .interByteTimeout (labLink { lab.link with assembler := .awaitLength })
      (fun e => (e.link.assembler, e.link.errors)) = some (.awaitStart, 0) := by decide +kernel

/-- R179: a bad CRC; R181: a length that is not the type's. -/
theorem test_bad_crc :
    after (.frameReceived [0x01, 0] 0) lab (fun e => (e.link.errors, e.link.replies)) = some (1, []) := by
  decide +kernel
theorem test_bad_length :
    replied (.frameReceived [0x01, 0, 0] (frameCrc [0x01, 0, 0])) lab = some [.refused .badLength] := by decide +kernel

/-- Table 11-4: a type above 0x7F is answered under 0xFF. -/
theorem test_unknown_type :
    after (.unknownType 0x80 9 []) lab (fun e => e.link.replies.flatMap Reply.bodies) = some [[0xFF, 9, 2, 1, 0x80]] := by
  decide +kernel

/-- R17, R16: PORT enables a port, and disables one. -/
theorem test_port_enable :
    after (.port 0 0 1 1 7) lab (fun e => ((e.port 0).lane.source, (e.port 0).conv.state)) = some (.loop 7, .seek) := by
  decide +kernel
theorem test_port_disable :
    after (.port 0 0 0 0 0) (labConv { Converter.reset with state := .locked, lc := 44 } .framed)
      (fun e => ((e.port 0).lane.enabled, (e.port 0).conv.state, (e.port 0).conv.lc)) = some (false, .off, 44) := by
  decide +kernel

/-- R18: PORTQ of a port beyond the last. -/
theorem test_portq : replied (.portq 0 8) lab = some [.refused .badValue] := by decide +kernel

/-- R46: the backup of a member is not its primary, nor a source of another programme. -/
theorem test_define :
    after (.define 0 3 0 [⟨1, 5, 0xFF⟩]) lab (fun e => (e.prog 3).record.members) =
      some [⟨.surround, ⟨1, 1⟩, none⟩] := by decide +kernel
theorem test_define_source_in_use :
    replied (.define 0 3 0 [⟨0, 4, 0xFF⟩]) (labProg (withMember .standby)) = some [.refused .sourceInUse] := by
  decide +kernel

/-- R48: a delay target beyond 480,000 is stored as 480,000 and answered CLAMPED. -/
theorem test_setup :
    after (.setup 0 0 1 { SettingsBlock.mk 480001 0 0 0 0 0 0 0 0 0 0 0 0 0 0 0 0 0 with slew := 7 })
      (labProg (withMember .standby))
      (fun e => ((e.prog 0).record.settings.delayTarget, (e.prog 0).record.settings.slew,
        e.link.replies.map Reply.status)) = some (480000, 10, [.clamped]) := by decide +kernel

/-- R71: a hold limit stored by SETUP is not compared with the hold timer before the next house sample. -/
theorem test_setup_hold_limit :
    after (.setup 0 0 1024 (SettingsBlock.mk 0 0 0 0 0 0 0 0 0 0 0 0 0 0 0 0 0 0))
      (labProg { withMember .active with ctx := { Context.reset with state := .pending, holdTimer := 5 } })
      (fun e => ((e.prog 0).record.settings.holdLimit, (e.prog 0).crossfadeDue)) = some (0, false) := by decide +kernel

/-- R102, R90: a first fill to T - 40 - 24 over two blocks, and one to 0. -/
theorem test_run :
    after (.run 0 0)
      (labProg { withMember .standby with
        record := { (withMember .standby).record with settings := { Settings.default with delayTarget := 1000 } } })
      (fun e => ((e.prog 0).delay.fade, (e.prog 0).delay.gapLength, (e.line 0 0).spare, e.pool.free)) =
      some (.gap, 936, [0, 1], [2, 3, 4, 5, 6, 7]) := by decide +kernel
theorem test_run_bypass :
    after (.run 0 0) (labProg (withMember .standby)) (fun e => ((e.prog 0).record.state, (e.prog 0).delay.fade)) =
      some (.active, .fadeIn) := by decide +kernel

/-- R52, R55, R56: STOP in FREE, DELETE in ACTIVE, PROGQ beyond the last programme. -/
theorem test_stop : replied (.stop 0 0) lab = some [.refused .wrongState] := by decide +kernel
/-- R148, R164: a STOP after the sub-block end at which a set timer reaches its limit finds the condition set. -/
theorem test_stop_after_a_set_timer :
    after (.stop 0 0)
      { labProg (withMember .active) with
        alarms := lab.alarms.put (.silence 0) { AlarmRecord.reset with setTimer := 10, expiry := .set } }
      (fun e =>
        let r := e.alarms.get (.silence 0)
        (r.active, r.latch, r.count)) = some (false, true, 1) := by decide +kernel
theorem test_delete : replied (.delete 0 0) (labProg (withMember .active)) = some [.refused .wrongState] := by
  decide +kernel
theorem test_progq : replied (.progq 0 8) lab = some [.refused .badValue] := by decide +kernel

/-- R61: a SWITCH in IDLE; R60: one of a programme without backups. -/
theorem test_switch :
    after (.switch 0 0 1) (labProg (withMember .active)) (fun e => ((e.prog 0).ctx.state, (e.prog 0).ctx.target)) =
      some (.pending, some (.backup, .host)) := by decide +kernel
theorem test_switch_no_backup :
    replied (.switch 0 0 1) (labProg { Programme.reset with
      record := { Record.reset with state := .active, members := [⟨.low, ⟨0, 0⟩, none⟩] } }) =
      some [.refused .noBackup] := by decide +kernel

/-- R121: LRESET clears the below-gate count with the bins. -/
theorem test_lreset :
    after (.lreset 0 0)
      (labProg { withMember .active with meter := { Meter.reset with bins := [(470, 6)], belowGate := 4 } })
      (fun e => ((e.prog 0).meter.bins, (e.prog 0).meter.belowGate)) = some ([], 0) := by decide +kernel

/-- R140: ROUTE to a member that does not exist, and to one that does. -/
theorem test_route :
    after (.route 0 7 3 1 0 0) (labProg (withMember .standby)) (fun e => (e.map.get 7).get 3) =
      some (.member 0 0) := by decide +kernel
theorem test_route_no_member :
    replied (.route 0 7 3 1 0 1) (labProg (withMember .standby)) = some [.refused .noSuchProg] := by decide +kernel

/-- R155: AMASK of kind 10 alone; R158: a selection of checker 2. -/
theorem test_amask :
    after (.amask 0 10 0 1) lab (fun e => (e.alarms.masks.refLoss, e.alarms.masks.checkLoss)) =
      some (⟨false, true⟩, ⟨true, true⟩) := by decide +kernel
theorem test_aquery : replied (.aquery 0 9 2) lab = some [.refused .badValue] := by decide +kernel

/-- R159: ACLEAR leaves the latch of an active condition set. -/
theorem test_aclear :
    after (.aclear 0 0xFF 0xFF) (({ lab with time := { lab.time with state := .holding } } : Device).raiseRefLoss)
      (fun e => ((e.alarms.get .refLoss).latch, e.alarms.pin)) = some (true, true) := by decide +kernel

/-- R160: COUNTS clears the link error count. -/
theorem test_counts : after (.counts 0) (labLink { lab.link with errors := 5 }) (fun e => e.link.errors) = some 0 := by
  decide +kernel

/-- R185: METER with a count of 0 is one report, CLAMPED; MSTOP of all programmes. -/
theorem test_meter :
    after (.meter 0 1 1 0) lab (fun e => (e.link.subscriptions.get 0, e.link.replies.map Reply.status)) =
      some (.count 1, [.clamped]) := by decide +kernel
theorem test_mstop :
    after (.mstop 0 0xFF) (labLink { lab.link with subscriptions := Oct.fill .continuous })
      (fun e => e.link.subscriptions.get 7) = some .none := by decide +kernel

/-- R168: a level of 0 is stored as -6.0; R173: a checker takes its slot. -/
theorem test_tgen :
    after (.tgen 0 0 1 0) lab (fun e => ((e.prog 0).gen.level, e.link.replies.map Reply.status)) =
      some (-60, [.clamped]) := by decide +kernel
theorem test_tcheck :
    after (.tcheck 0 1 1 3 2) lab (fun e => ((e.checkers.get 1).watched, (e.alarms.get (.checkLoss 1)).active)) =
      some (some (3, 2), true) := by decide +kernel

set_option maxRecDepth 2000 in
/-- R7, R8: the house sample 47,999 steps H onto a second boundary, which is taken before the next one. -/
theorem test_house_sample :
    after (.houseSample (.oscillator 1000)) { lab with time := { lab.time with h := 47999 } }
        (fun e => (e.time.h, e.time.boundary, e.time.seconds)) = some (48000, .due, 0) ∧
      after (.houseSample (.oscillator 1000)) { lab with time := { lab.time with h := 48000, boundary := .due } }
        (fun e => (e.time.h, e.time.boundary, e.time.seconds)) = some (48001, .none, 1) := by decide +kernel
set_option maxRecDepth 2000 in
/-- R8, R167: the first house sample after a reset works at H = 0, which is no boundary. -/
theorem test_first_house_sample :
    after (.houseSample (.oscillator 1000))
      (labProg { Programme.reset with gen := { Generator.reset with on := true } })
      (fun e => (e.time.h, (e.prog 0).gen.epochs)) = some (1, []) := by decide +kernel
/-- R190, R6: a restart that is due comes before the edge at REF, which then finds HOLDING and makes no sample. -/
theorem test_restart_before_pace :
    after (.houseSample (.refEdge 1000))
      { lab with
        time := { lab.time with mode := some .word, state := .external, h := 5 }
        link := { lab.link with restart := .due } }
      (fun e => (e.time.state, e.time.h, e.time.edges)) = some (.holding, 0, 1) := by decide +kernel
theorem test_sub_block_end :
    after .subBlockEnd
      { labPort { Port.reset with peaks := ⟨4194304, 86, 0, 1000000⟩ }
        with time := { lab.time with h := 4800, boundary := .due } }
      (fun e => ((e.port 0).levels, (e.port 0).peaks)) = some (⟨-60, -998, -999, -185⟩, ⟨0, 0, 0, 0⟩) := by
  decide +kernel

/-- R5: 4,776 edges are present, 4,775 are not. -/
theorem test_presence_window :
    after .presenceWindowEnd
      { lab with time := { lab.time with mode := some .word, state := .holding, edges := 4776 } }
      (fun e => e.time.state) = some .external := by decide +kernel
theorem test_absence_window :
    after .presenceWindowEnd
      { lab with time := { lab.time with mode := some .word, state := .external, edges := 4775 } }
      (fun e => (e.time.state, e.alarms.pin)) = some (.holding, true) := by decide +kernel

/-- Section 2.11.1: the interval end that takes converter 2 into SETTLE. -/
theorem test_interval_end :
    after (.intervalEnd 0)
      (labConv { Converter.reset with state := .measure, ended := some ⟨1141307, 32⟩ } .framed)
      (fun e => ((e.port 0).conv.state, (e.port 0).conv.sEst, (e.port 0).conv.lc, (e.port 0).conv.coeffs)) =
      some (.settle, 15414070, 44, .wide) := by decide +kernel

/-- R10: at a sub-block boundary the 48 house samples made since the last marker are counted. -/
theorem test_lane_dark_at_a_boundary :
    (darkAt 4753).map Port.lane = some { Lane.reset with enabled := true, state := .framing, lastMarker := 4753 } ∧
      (darkAt 4752).map (fun x => x.lane.state) = some .dark := by decide +kernel

/-- R10: a lane that is due to go DARK is DARK before a pattern arrives, which then is the first of a new proof. -/
theorem test_arrival_on_a_lane_due_dark :
    after (.frameArrival 0 ⟨true, false, ⟨⟨1, true⟩, ⟨2, true⟩, ⟨3, true⟩, ⟨4, true⟩⟩, 0⟩)
      { labPort { Port.reset with
          lane := { Lane.reset with enabled := true, state := .framed, good := 8, expects := true } }
        with time := { lab.time with h := 48 } }
      (fun e => ((e.port 0).lane.state, (e.port 0).lane.good, (e.port 0).lane.lastMarker)) = some (.framing, 1, 48) := by
  decide +kernel

/-- R170, R171: a TCHECKQ after the house sample that completes a run of 48 shows SYNC, and one after the eighth error
HUNT. -/
theorem test_checker_state_at_once :
    after (.tcheckq 0 0xFF)
      { lab with checkers := ⟨{ Checker.reset with state := .hunt, watched := some (0, 0), correctRun := 48 },
          { Checker.reset with state := .sync, watched := some (0, 1), window := List.replicate 8 true }⟩ }
      (fun e => (e.link.replies.flatMap Reply.bodies).map fun b => (b[7]?, b[22]?)) = some [(some 2, some 1)] := by
  decide +kernel

/-- R66: the mix at step 240 is the mean, halves toward plus infinity. -/
theorem test_mix : mix 240 100 201 = 151 ∧ mix 480 100 201 = 201 ∧ mix 0 (-3) 201 = -3 := by decide

/-- R54: the blocks of a stopped programme go back in the order of its lines. -/
theorem test_stop_fade_end :
    after (.stopFadeEnd 0)
      { labProg { withMember .stopping with
          delay := { Delay.reset with lines := Oct.fill { Line.reset with inUse := [3], spare := [1] } }
          stage := { Stage.reset with stopStep := 480 } } with
        pool := { lab.pool with free := [0] } }
      (fun e => ((e.prog 0).record.state, e.pool.free)) =
      some (.standby, [0, 3, 1, 3, 1, 3, 1, 3, 1, 3, 1, 3, 1, 3, 1, 3, 1]) := by decide +kernel

/-! ## Witnesses: states and operands that meet the hypotheses of the statements, clause by clause -/

/-- No checker changes its state, no timer is at its limit, no return is due and no grant notice waits, as a check. -/
def isFinished (d : Device) : Bool :=
  decide (∀ i : Ix2, ((d.checkers.get i).state = .hunt → (d.checkers.get i).correctRun < 48) ∧
      ((d.checkers.get i).state = .sync → (d.checkers.get i).window.count true < 8)) &&
    allAlarms.all (fun a => decide ((d.alarms.get a).expiry = .none)) &&
    decide ((∀ n : Ix8, (d.prog n).ctx.returnDue = false) ∧ d.pool.notices = [])

/-- Nothing is left for the timers, the pool, the arbiter or the executor, as a check. -/
def isCalm (d : Device) : Bool :=
  isFinished d && decide ((d.link.line.isSome = true ∨ d.link.restart = .due ∨
    (d.link.replies = [] ∧ d.alarms.queue = [] ∧ d.link.firstReport = none)) ∧
      (d.link.queue = [] ∨ d.link.ready = false))

theorem finished_of {d : Device} (h : isFinished d = true) : d.finished := by
  simp only [isFinished, Bool.and_eq_true, List.all_eq_true, decide_eq_true_eq] at h
  exact ⟨h.1.1, fun a => h.1.2 a (mem_allAlarms a), h.2⟩

theorem calm_of {d : Device} (h : isCalm d = true) : d.calm := by
  simp only [isCalm, Bool.and_eq_true, decide_eq_true_eq] at h
  exact ⟨finished_of h.1, h.2⟩

/-- A timer's mark stands on a qualified condition as the rules leave it, and a return is due in BACKUP, as a check.
-/
def isMarked (d : Device) : Bool :=
  allAlarms.all (fun a =>
    let r := d.alarms.get a
    decide (r.expiry = .none) ||
      ([Qualified.unlock, .silence, .loudHigh, .loudLow].any fun k =>
        eight.any fun i => decide (a = qualifiedAlarm k i)) &&
        decide ((r.expiry = .set → r.active = false) ∧ (r.expiry = .clear → r.active = true))) &&
    decide (∀ n : Ix8, (d.prog n).ctx.returnDue = true → (d.prog n).ctx.selection = .backup)

theorem marks_of {d : Device} (h : isMarked d = true) : d.marksSound := by
  simp only [isMarked, Bool.and_eq_true, List.all_eq_true, decide_eq_true_eq] at h
  refine ⟨fun a => ?_, h.2⟩
  have one := h.1 a (mem_allAlarms a)
  simp only [Bool.or_eq_true, Bool.and_eq_true, List.any_eq_true, decide_eq_true_eq] at one
  exact one.imp id fun ⟨⟨k, _, i, _, named⟩, set⟩ => ⟨⟨k, i, named⟩, set⟩

/-- The members of a programme hold what a recalculation calls for, as a check. -/
def isMeeting (d : Device) (n : Ix8) (mode : RecalcMode) : Bool :=
  decide (d.hasEntry n = false ∧ (d.prog n).record.members.length ≤ 8) &&
    eight.all fun m => match (d.prog n).record.members[m.val]? with
      | some z => decide (needOf (aimed mode (d.requiredOf n z) (d.line n m).d) ≤ (d.line n m).held)
      | none => true

theorem meets_of {d : Device} {n : Ix8} {mode : RecalcMode} (h : isMeeting d n mode = true) : d.meets n mode := by
  simp only [isMeeting, Bool.and_eq_true, List.all_eq_true, decide_eq_true_eq] at h
  refine ⟨h.1.1, h.1.2, fun m z listed => ?_⟩
  have one := h.2 m (by fin_cases m <;> decide)
  rw [listed] at one
  exact of_decide_eq_true one

/-- No event of a converter is due before a further frame, as a check. -/
def isUndisturbed (c : Converter) : Bool :=
  decide (c.ended = none ∧ (c.underrunWait = true → c.fifo.length < 32) ∧ (c.state = .settle → c.lockCount < 4) ∧
    (c.state = .holdover → c.fade ≠ .fadeOut 0 ∧ (c.fade = .none → c.fifo.length < 32)))

theorem undisturbed_iff (c : Converter) : c.undisturbed ↔ isUndisturbed c = true := by
  unfold Converter.undisturbed isUndisturbed
  exact decide_eq_true_iff.symm

theorem lab_finished : lab.finished := finished_of (by decide +kernel)

theorem reset_finished : Device.reset.finished := finished_of (by decide +kernel)

/-- A part whose link is the laboratory's, that has no notice waiting and is finished, is at rest in RUN. -/
theorem ready {d : Device} (h : d.link = lab.link) (q : d.alarms.queue = [])
    (f : isFinished d = true := by decide +kernel) : d.readyInRun := by
  unfold Device.readyInRun Device.linkQuiet
  rw [h]
  exact ⟨⟨rfl, rfl, rfl, rfl, .inr ⟨q, rfl⟩, finished_of f⟩, rfl⟩

theorem reset_quiet : Device.reset.linkQuiet := ⟨rfl, rfl, rfl, rfl, .inr ⟨rfl, rfl⟩, reset_finished⟩

/-- A line that carries a notice, and one that carries the reply of a RESTART. -/
def busyLine : Transmission := ⟨[[0xA5]], false⟩
def restartLine : Transmission := ⟨[[0xA5]], true⟩

/-- A link held by an executed reply, with so many frames and BUSY replies waiting. -/
def heldLink (frames busy : Nat) : Link :=
  { lab.link with
    line := some busyLine
    queue := List.replicate frames [0x01, 0]
    replies := okReply 0x81 0 [] :: List.replicate busy (busyReply 0x01 0) }

theorem held (frames busy : Nat) : (labLink (heldLink frames busy)).linkHeld := ⟨rfl, rfl, lab_finished⟩

theorem witness_StepRunsTheFrontCommand : (Instr.ident 7).request = some (7, .ident) := rfl

/-- A part at whose last sub-block end the set timer of SILENCE reached its limit. -/
def late : Device :=
  { labProg (withMember .active) with
    alarms := lab.alarms.put (.silence 0) { AlarmRecord.reset with setTimer := 10, expiry := .set } }

theorem witness_RequestBodiesReadBack :
    (∀ n m l, Request.define 0 0 (List.replicate 81 ⟨0, 0, 0⟩) = .define n m l → l.length ≤ 81) ∧
      2 ≤ [(0x01 : Byte), 7].length ∧ readBody [0x01, 7] = .ok .ident := by
  refine ⟨fun n m l h => ?_, by decide, by rfl⟩
  cases h
  decide

theorem witness_FrameBytesAreTheFrame :
    fitsFrame [(0x01 : Byte), 0xA5].length = true ∧ fitsFrame (List.replicate 250 (0xA5 : Byte)).length = true ∧
      lab.link.assembler = .awaitStart ∧ (0xA4 : Byte) ≠ 0xA5 := by decide +kernel

theorem witness_AssemblerTakesBytes :
    lab.link.assembler = .awaitStart ∧
      (labLink { lab.link with assembler := .awaitLength }).link.assembler ≠ .awaitStart ∧
      (2 ≤ (2 : Byte).toNat ∧ (250 : Byte).toNat ≤ 250) ∧ ((1 : Byte).toNat < 2 ∧ 250 < (251 : Byte).toNat) ∧
      (labLink { lab.link with assembler := .inBody 2 [] }).link.assembler = .inBody 2 [] ∧
      ([] : List Byte).length + 1 < 2 ∧ 2 ≤ [(0 : Byte)].length + 1 ∧
      (labLink { lab.link with assembler := .awaitCheck [1, 0] none }).link.assembler = .awaitCheck [1, 0] none := by
  decide +kernel

theorem witness_CompletedFramesAreJudgedAndQueued :
    fitsFrame [(0x01 : Byte), 0].length = true ∧ 0 ≠ frameCrc [0x01, 0] ∧
      ((labLink (heldLink 3 0)).linkHeld ∧ (labLink (heldLink 3 0)).link.queue.length < 4) ∧
      ((labLink (heldLink 4 3)).linkHeld ∧ (labLink (heldLink 4 3)).link.queue.length = 4 ∧
        (labLink (heldLink 4 3)).link.busyCount < 4) ∧
      ((labLink (heldLink 4 4)).linkHeld ∧ (labLink (heldLink 4 4)).link.queue.length = 4 ∧
        4 ≤ (labLink (heldLink 4 4)).link.busyCount) ∧
      lab.linkQuiet ∧ readBody [0x01, 0, 0] = .error .badLength :=
  ⟨by decide, by decide +kernel, ⟨held 3 0, by decide +kernel⟩, ⟨held 4 3, by decide +kernel, by decide +kernel⟩,
    ⟨held 4 4, by decide +kernel, by decide +kernel⟩, (ready rfl rfl).1, by rfl⟩

theorem witness_EveryRequestIsAnsweredOnce :
    (Instr.run 5 8).request = some (5, .run 8) ∧ (Instr.run 5 8).wellFormed = true ∧ lab.linkQuiet ∧
      replied (.run 5 8) lab = some [.refused .badValue] := ⟨rfl, rfl, (ready rfl rfl).1, by decide +kernel⟩

theorem witness_TypeLengthAndPartStateAreChecked :
    lab.linkQuiet ∧ (List.replicate 248 (0 : Byte)).length ≤ 248 ∧ (∀ t, typeCode t ≠ 0x7F) ∧ (∀ t, typeCode t ≠ 0x80) ∧
      [(0 : Byte)].length + 2 ≠ tableLength .start [0] ∧
      [(0 : Byte), 0, 1, 0, 0].length + 2 ≠ tableLength .define [0, 0, 1, 0, 0] ∧
      (Device.reset.linkQuiet ∧ Device.reset.link.part = .config ∧ requestType .poolq ≠ .ident ∧
        requestType .poolq ≠ .status ∧ requestType .poolq ≠ .start) ∧
      (Instr.start 0 0 0).request = some (0, .start 0 0) ∧ (Instr.start 0 0 0).wellFormed = true ∧
      lab.link.part = .run ∧ requestType (.start 0 0) = .start :=
  ⟨(ready rfl rfl).1, by decide +kernel, by intro t; cases t <;> decide, by intro t; cases t <;> decide, by decide,
    by decide, ⟨reset_quiet, rfl, by decide, by decide, by decide⟩, rfl, rfl, rfl, rfl⟩

/-- A notice and a report that wait. -/
def someNotice : Notice := ⟨.slip 0, false, 1, 0, 1⟩
def someReport : Report := ⟨3, 4800, none, none, none, 0, .primary, .host, .idle, false, false, false, false, false, []⟩

theorem witness_FreeLineTakesByPriority :
    (∀ l : Link, (labLink l).finished) ∧
      ({ lab.link with line := some restartLine } : Link).line = some restartLine ∧ restartLine.isRestart = true ∧
      busyLine.isRestart = false ∧ lab.link.line = none ∧ lab.alarms.queue = [] ∧ lab.link.queue = [] ∧ lab.link.restart ≠ .due ∧
      (labLink (heldLink 0 1)).link.replies = okReply 0x81 0 [] :: [busyReply 0x01 0] ∧
      lab.link.replies = [] ∧
      ({ lab with alarms := { lab.alarms with queue := [someNotice] } } : Device).alarms.queue = [someNotice] ∧
      ((Oct.fill none).set 3 (some someReport)).get 3 = some someReport ∧
      (∀ k : Ix8, k < 3 → ((Oct.fill none).set 3 (some someReport)).get k = none) ∧
      (∀ k : Ix8, lab.link.slots.get k = none) ∧
      (∀ b ∈ [busyReply 0x01 0], b.executed = false) ∧ (heldLink 4 1).queue = [0x01, 0] :: List.replicate 3 [0x01, 0] :=
  ⟨fun _ => lab_finished, by decide +kernel⟩

theorem witness_QueriesReportAndChangeNothing :
    Device.reset.linkQuiet ∧ lab.linkQuiet ∧ lab.readyInRun ∧ (7 < (8 : Byte).toNat ∧ (8 : Byte) ≠ 0xFF) ∧
      (7 < (254 : Byte).toNat ∧ (254 : Byte) ≠ 0xFF) ∧ (1 < (2 : Byte).toNat ∧ (2 : Byte) ≠ 0xFF) ∧
      (List.replicate 8 (⟨.front, ⟨0, 0⟩, none⟩ : Member)).length ≤ 8 ∧
      isSelection 0 7 ∧ isSelection 9 1 ∧ isSelection 10 0 ∧ isSelection 10 0xFF ∧ isSelection 0xFF 0xFF ∧
      ¬ isSelection 0 8 ∧ ¬ isSelection 9 2 ∧ ¬ isSelection 10 1 ∧ ¬ isSelection 11 0 ∧ ¬ isSelection 0xFF 0 := by
  refine ⟨reset_quiet, (ready rfl rfl).1, ready rfl rfl, by decide, by decide, by decide, by decide, ?_⟩
  unfold isSelection
  decide +kernel

theorem witness_SelectionsNameInstances :
    (∀ a : Alarm, ¬ ((0 : Byte).toNat = a.kind.code ∧ ((8 : Byte).toNat = a.number ∨ (8 : Byte) = 0xFF))) ∧
      ¬ ((0 : Byte) = 0xFF ∧ (8 : Byte) = 0xFF) := by
  have none_named : ∀ a ∈ allAlarms,
      ¬ ((0 : Byte).toNat = a.kind.code ∧ ((8 : Byte).toNat = a.number ∨ (8 : Byte) = 0xFF)) := by
    decide +kernel
  exact ⟨fun a => none_named a (mem_allAlarms a), by decide⟩

theorem witness_StartAndRestartFormThePool :
    Device.reset.linkQuiet ∧ Device.reset.link.part = .config ∧
      ((2 : Byte) = 0 ∧ 4096 = 1024 ∨ (2 : Byte) = 1 ∧ 4096 = 2048 ∨ (2 : Byte) = 2 ∧ 4096 = 4096) ∧
      ((0 : Byte) = 0 ∧ RefMode.word = .word) ∧ ((1 : Byte) = 1 ∧ RefMode.internal = .internal) ∧
      2 < (3 : Byte).toNat ∧ 1 < (2 : Byte).toNat ∧ lab.readyInRun ∧
      (labLink { lab.link with restart := .due }).link.restart = .due ∧ lab.time.mode = some .internal :=
  ⟨reset_quiet, rfl, by decide, by decide, by decide, by decide, by decide, ready rfl rfl, rfl, rfl⟩

theorem witness_PortSetsEnableAndSource :
    lab.readyInRun ∧ namesLaneSource 0 9 .pins ∧ namesLaneSource 1 7 (.loop 7) ∧
      (labConv .reset .framed).readyInRun ∧ ((labConv .reset .framed).port 0).lane.enabled = true ∧
      ((labConv .reset .framed).port 0).lane.source = .pins ∧ (lab.port 0).lane.enabled = false ∧
      7 < (8 : Byte).toNat ∧ 1 < (2 : Byte).toNat :=
  ⟨ready rfl rfl, .inl ⟨rfl, rfl⟩, .inr ⟨rfl, 7, rfl, rfl⟩, ready rfl rfl, rfl, rfl, rfl, by decide, by decide⟩

/-- Member fields with so many members, each of its own source. -/
def fieldsOf (n : Nat) : List MemberField := (List.range n).map fun i => ⟨0, BitVec.ofNat 8 i, 0xFF⟩

/-- The laboratory part with programme 0 in STANDBY, two map entries that name its members, and a checker on each. -/
def mapped (p : ProgState) : Device :=
  { labProg (withMember p) with
    map := lab.map.set 0 ⟨.member 0 0, .member 0 7, .test 0, .silence⟩
    checkers := ⟨{ Checker.reset with state := .sync, watched := some (0, 0) },
      { Checker.reset with state := .sync, watched := some (0, 1) }⟩ }

/-- The members that fields name. -/
def membersOf (l : List MemberField) : List Member := (members? l).getD []

/-- The fields of a DEFINE name members, one by one, as a check. -/
def isNaming (l : List MemberField) (given : List Member) : Bool :=
  decide (l.length = given.length) && (l.zip given).all fun x =>
    decide (x.1.role = codeIn [Role.front, .surround, .low] x.2.role ∧ x.1.primary = sourceByte x.2.primary ∧
      x.1.backup = x.2.backup.elim 0xFF sourceByte)

theorem names_of {l : List MemberField} {given : List Member} (h : isNaming l given = true) :
    List.Forall₂ namesMember l given := by
  simp only [isNaming, Bool.and_eq_true, List.all_eq_true, decide_eq_true_eq] at h
  refine List.forall₂_iff_zip.2 ⟨h.1, fun {f z} listed => ?_⟩
  have one := h.2 (f, z) listed
  refine ⟨one.1, one.2.1, one.2.2.trans ?_⟩
  cases z.backup <;> rfl

/-- A role code of 3 names no member. -/
theorem role_code_three_names_nothing : ¬ ∃ given, List.Forall₂ namesMember [⟨3, 0, 0xFF⟩] given := by
  rintro ⟨_, named⟩
  cases named with
  | @cons _ z _ _ named _ =>
    have role := named.1
    revert role
    cases z.role <;> decide

theorem witness_DefineChecksAndStoresTheList :
    lab.readyInRun ∧ (fieldsOf 9).length ≤ 81 ∧ 7 < (8 : Byte).toNat ∧ 1 < (2 : Byte).toNat ∧
      (¬ ∃ given, List.Forall₂ namesMember [⟨3, 0, 0xFF⟩] given) ∧
      List.Forall₂ namesMember (List.replicate 81 ⟨0, 31, 0⟩) (List.replicate 81 ⟨.front, ⟨7, 3⟩, some ⟨0, 0⟩⟩) ∧
      ((labProg (withMember .active)).readyInRun ∧ ((labProg (withMember .active)).prog 0).record.state = .active) ∧
      List.Forall₂ namesMember (fieldsOf 9) (membersOf (fieldsOf 9)) ∧ 8 < (membersOf (fieldsOf 9)).length ∧
      (let d := labProg (withMember .standby)
       (d.prog 0).record.members.length + (membersOf [⟨0, 0, 0xFF⟩]).length ≤ 8 ∧
         ¬ d.mayName 0 true (membersOf [⟨0, 0, 0xFF⟩]) ∧ d.mayName 0 false (membersOf [⟨0, 0, 0xFF⟩]) ∧
         ¬ d.mayName 1 false (membersOf [⟨0, 4, 0xFF⟩]) ∧ ¬ d.mayName 1 false (membersOf [⟨0, 9, 9⟩])) ∧
      (let d := mapped .standby
       d.readyInRun ∧ (d.prog 0).record.state = .standby ∧
         List.Forall₂ namesMember (fieldsOf 7) (membersOf (fieldsOf 7)) ∧
         d.mayName 0 false (membersOf (fieldsOf 7)) ∧ d.mayName 0 true (membersOf [⟨0, 31, 30⟩]) ∧
         (membersOf (fieldsOf 7)).length ≤ 8 ∧ isMemberFrom 0 7 ((d.map.get 0).get 1) ∧
         ¬ isMemberFrom 0 7 ((d.map.get 0).get 0) ∧ (d.checkers.get 1).watched = some (0, 1) ∧
         (d.checkers.get 1).state ≠ .idle) ∧
      (lab.prog 0).record.state = .free := by
  refine ⟨ready rfl rfl, by decide, by decide, by decide, role_code_three_names_nothing,
    names_of (by decide +kernel), ⟨ready rfl rfl, rfl⟩, names_of (by decide +kernel),
    by decide +kernel, ?_, ⟨ready rfl rfl, rfl, names_of (by decide +kernel), ?_, ?_, by decide +kernel,
    ⟨7, rfl, by decide⟩, fun ⟨m, h, k⟩ => by cases h; revert k; decide, rfl, by decide +kernel⟩, rfl⟩ <;>
  · unfold Device.mayName
    decide +kernel

/-- A settings block of zeros. -/
def zeros : SettingsBlock := ⟨0, 0, 0, 0, 0, 0, 0, 0, 0, 0, 0, 0, 0, 0, 0, 0, 0, 0⟩

theorem witness_SetupInStandbyStoresSettings :
    (labProg (withMember .standby)).readyInRun ∧ ((labProg (withMember .standby)).prog 0).record.state = .standby ∧
      namesModes 0x102 { zeros with loudnessMode := 2, changeoverMode := 2 } .correct .autoReturn ∧
      namesModes 1 { zeros with loudnessMode := 3 } .off .manual ∧
      fieldsInRange 1 { zeros with delayTarget := 480000 } ∧ ¬ fieldsInRange 1 { zeros with delayTarget := 480001 } ∧
      fieldsInRange 0x80 { zeros with resetOnChangeover := 1 } ∧
      ¬ fieldsInRange 0x80 { zeros with resetOnChangeover := 2 } := by
  refine ⟨ready rfl rfl, rfl, ?_⟩
  unfold namesModes fieldsInRange
  decide +kernel

theorem witness_SetupRunAndRouteChecks :
    lab.readyInRun ∧ 7 < (8 : Byte).toNat ∧ ((2 : BitVec 24).getLsbD 1 = true ∧ 2 < (3 : Byte).toNat) ∧
      ((0x100 : BitVec 24).getLsbD 8 = true ∧ 2 < (3 : Byte).toNat) ∧ (lab.prog 0).record.state = .free ∧
      ((labProg (withMember .stopping)).readyInRun ∧
        ((labProg (withMember .stopping)).prog 0).record.state = .stopping) ∧
      ((labProg (withMember .active)).readyInRun ∧ ((labProg (withMember .active)).prog 0).record.state = .active) ∧
      ((labProg { Programme.reset with record := { Record.reset with state := .standby } }).readyInRun ∧
        ((labProg { Programme.reset with record := { Record.reset with state := .standby } }).prog 0).record.members =
          []) ∧
      3 < (4 : Byte).toNat ∧ 2 < (3 : Byte).toNat ∧ ((2 : Byte) ≠ 0 ∧ 7 < (8 : Byte).toNat) ∧
      ((1 : Byte) = 1 ∧ 7 < (8 : Byte).toNat) :=
  ⟨ready rfl rfl, by decide, by decide, by decide, rfl, ⟨ready rfl rfl, rfl⟩, ⟨ready rfl rfl, rfl⟩,
    ⟨ready rfl rfl, rfl⟩, by decide, by decide, by decide, by decide⟩

/-- An ACTIVE programme with a programme fade in progress. -/
def fading : Programme := { withMember .active with delay := { Delay.reset with fade := .fadeOut, fadeStep := 240 } }

theorem witness_SetupInActiveReachesTheBlocks :
    (labProg fading).readyInRun ∧ ((labProg fading).prog 0).record.state = .active ∧
      namesModes 0x5B { zeros with loudnessMode := 1 } .measure .manual ∧
      ((0x5B : BitVec 24).getLsbD 0 = true ∧ (0x5B : BitVec 24).getLsbD 3 = true ∧ (0x5B : BitVec 24).getLsbD 6 = true) ∧
      (labProg fading).changing 0 = true ∧
      (let d := labProg (withMember .active)
       d.readyInRun ∧ (d.prog 0).record.state = .active ∧ d.changing 0 = false ∧ (0x48 : BitVec 24).getLsbD 0 = false ∧
         (0x6A : BitVec 24).getLsbD 0 = false ∧
         ((d.prog 0).record.settings.storing 1 zeros .off .manual).delayTarget = (d.prog 0).delay.tLines) := by
  refine ⟨ready rfl rfl, rfl, ?_, by decide, by decide +kernel, ready rfl rfl, rfl, ?_⟩
  · unfold namesModes
    decide +kernel
  · decide +kernel

/-- An ACTIVE programme at rest whose one line has a length, with the delay target it was made for. -/
def steady (d : Nat) (target : Int) : Programme :=
  { withMember .active with
    delay := { Delay.reset with
      tLines := target
      lines := Delay.reset.lines.set 0 { Line.reset with d := d, dReq := d, dNew := d, inUse := [6], spare := [7] } } }

/-- The part with that programme, so many blocks free. -/
def steadyWith (free d : Nat) (target : Int) : Device :=
  { labProg (steady d target) with pool := { Pool.formed 8 with free := List.range free } }

/-- The part with that programme, six blocks free. -/
def steadyLab (d : Nat) (target : Int) : Device := steadyWith 6 d target

/-- Slews by one and by 48 samples, programme fades for a member and for the target alone, and no member to change; a
target that the whole pool is too small for, granted limited at once or waiting. -/
theorem witness_NewDelayTargetStartsAChange :
    (let d := steadyLab 10 74
     let line := d.line 0 0
     let z : Member := ⟨.front, ⟨0, 0⟩, some ⟨1, 0⟩⟩
     let req := fun (target : Int) => (d.required target (z.on (d.prog 0).ctx.selection)).toNat
     d.readyInRun ∧ (d.prog 0).record.state = .active ∧ namesModes 1 zeros .off .manual ∧
       (1 : BitVec 24).getLsbD 0 = true ∧ d.changing 0 = false ∧ (d.prog 0).delay.tLines = 74 ∧
       (d.prog 0).record.members[(0 : Ix8).val]? = some z ∧ (d.prog 0).record.members.length ≤ 8 ∧
       d.pool.queue = [] ∧ needOf (req 122) - line.held ≤ d.pool.free.length ∧
       needOf (req 123) - line.held ≤ d.pool.free.length ∧
       d.pool.free.length + d.heldBy 0 ≤ d.pool.size ∧ line.d = 10 ∧
       req 75 = 11 ∧ req 73 = 9 ∧ req 122 = 58 ∧ req 123 = 59 ∧
       (let count := min (needOf (req 20000) - line.held) (d.pool.size - d.heldBy 0)
        d.pool.free.length < needOf (req 20000) - line.held ∧ count ≤ d.pool.free.length)) ∧
      (let d := steadyLab 0 10
       d.required 20 ⟨0, 0⟩ = 0 ∧ d.required 60 ⟨0, 0⟩ = 0 ∧ (20 - 10 : Int).natAbs ≤ 48 ∧ 48 < (60 - 10 : Int).natAbs ∧
         d.readyInRun ∧ d.changing 0 = false) ∧
      (let d := steadyWith 3 10 74
       let short := needOf (d.required 20000 ⟨0, 0⟩).toNat - (d.line 0 0).held
       d.readyInRun ∧ d.pool.queue = [] ∧ d.pool.free.length + d.heldBy 0 ≤ d.pool.size ∧ (d.line 0 0).d ≠ 0 ∧
         d.pool.free.length < short ∧ d.pool.free.length < min short (d.pool.size - d.heldBy 0)) := by
  refine ⟨⟨ready rfl rfl, rfl, ?_, by decide, by decide +kernel⟩, ⟨?_, ?_, ?_, ?_, ready rfl rfl, by decide +kernel⟩,
    ready rfl rfl, by decide +kernel⟩
  · unfold namesModes
    decide
  all_goals decide +kernel

/-- A programme in STANDBY with a delay target. -/
def waiting (target : Int) : Programme :=
  { withMember .standby with
    record := { (withMember .standby).record with settings := { Settings.default with delayTarget := target } } }

/-- The part with that programme, so many of its eight blocks free and a queue of requests. -/
def filling (target : Int) (free : Nat) (queue : List PoolEntry) : Device :=
  { labProg (waiting target) with pool := { Pool.formed 8 with free := List.range free, queue := queue } }

/-- What the programme of that part lacks. -/
def lacking (d : Device) : Nat := needOf (d.required (d.prog 0).record.settings.delayTarget ⟨0, 0⟩).toNat

/-- Blocks enough at once; too few in the whole pool; too few free; and a request that waits already, before a fill
that needs blocks and before one that needs none. -/
theorem witness_RunStartsTheInitialFill :
    (∀ target free queue, (filling target free queue).readyInRun) ∧
      (let x := (filling 1000 8 []).prog 0
       x.record.state = .standby ∧ x.record.members ≠ [] ∧ x.record.members.length ≤ 8 ∧ x.delay = Delay.reset ∧
         x.record.members[(0 : Ix8).val]? = some ⟨.front, ⟨0, 0⟩, some ⟨1, 0⟩⟩) ∧
      (let d := filling 1000 8 []
       d.hasEntry 0 = false ∧ d.pool.free.length ≤ d.pool.size ∧ lacking d = 2 ∧ lacking d ≤ d.pool.free.length) ∧
      (let d := filling 20000 8 []
       lacking d = 21 ∧ min (lacking d) d.pool.size ≤ d.pool.free.length) ∧
      (let d := filling 20000 3 []
       d.pool.free.length < min (lacking d) d.pool.size) ∧
      (let d := filling 1000 8 [⟨1, 9, false⟩]
       d.hasEntry 0 = false ∧ (∀ q ∈ d.pool.queue.head?, d.pool.free.length < q.count) ∧ d.pool.queue ≠ [] ∧
         0 < min (lacking d) d.pool.size) ∧
      lacking (filling 0 8 [⟨1, 9, false⟩]) = 0 := by
  refine ⟨fun _ _ _ => ⟨⟨rfl, rfl, rfl, rfl, .inr ⟨rfl, rfl⟩, lab_finished.1, lab_finished.2.1,
    fun n => by fin_cases n <;> rfl, rfl⟩, rfl⟩, ?_⟩
  decide +kernel

theorem witness_StopEntersStopping :
    (labProg (withMember .active)).readyInRun ∧ ((labProg (withMember .active)).prog 0).record.state = .active ∧
      (lab.prog 0).record.state = .free ∧ ((labProg (withMember .standby)).prog 0).record.state = .standby ∧
      ((labProg (withMember .stopping)).prog 0).record.state = .stopping ∧ 7 < (8 : Byte).toNat :=
  ⟨ready rfl rfl, rfl, rfl, rfl, rfl, by decide⟩

theorem witness_DeleteFreesTheRecord :
    (mapped .standby).readyInRun ∧ ((mapped .standby).prog 0).record.state = .standby ∧
      (mapped .active).readyInRun ∧ ((mapped .active).prog 0).record.state ≠ .standby ∧
      7 < (8 : Byte).toNat := ⟨ready rfl rfl, rfl, ready rfl rfl, by decide +kernel, by decide⟩

/-- An ACTIVE programme with a changeover context. -/
def changing (c : Context) : Programme := { withMember .active with ctx := c }

/-- An ACTIVE programme whose one member has no backup. -/
def noBackup : Programme :=
  { Programme.reset with record := { Record.reset with state := .active, members := [⟨.low, ⟨0, 0⟩, none⟩] } }

theorem witness_SwitchChecksAndActsByTheState :
    lab.readyInRun ∧ 7 < (8 : Byte).toNat ∧ 1 < (2 : Byte).toNat ∧ (lab.prog 7).record.state ≠ .active ∧
      ((labProg noBackup).readyInRun ∧ ((labProg noBackup).prog 0).record.state = .active ∧
        ∀ m ∈ ((labProg noBackup).prog 0).record.members, m.backup = none) ∧
      (∃ m ∈ (changing .reset).record.members, m.backup ≠ none) ∧
      ((labProg (changing { Context.reset with quiet := 960 })).readyInRun ∧ (changing .reset).record.state = .active ∧
        (changing .reset).ctx.state = .idle ∧ Selection.primary = (changing .reset).ctx.selection ∧
        Selection.backup ≠ (changing .reset).ctx.selection ∧
        (changing { Context.reset with quiet := 960 }).ctx.quiet = 960) ∧
      ((labProg (changing { Context.reset with state := .pending, target := some (.backup, .auto) })).readyInRun ∧
        (changing { Context.reset with state := .pending }).ctx.state = .pending ∧
        Selection.primary = (changing { Context.reset with state := .pending }).ctx.selection ∧
        Selection.backup ≠ (changing { Context.reset with state := .pending }).ctx.selection) ∧
      (labProg (changing { Context.reset with state := .fading })).readyInRun ∧
      (changing { Context.reset with state := .fading }).ctx.state = .fading :=
  ⟨ready rfl rfl, by decide, by decide, by decide +kernel, ⟨ready rfl rfl, rfl, by decide +kernel⟩, by decide +kernel,
    ⟨ready rfl rfl, rfl, rfl, rfl, by decide +kernel, rfl⟩, ⟨ready rfl rfl, rfl, rfl, by decide +kernel⟩,
    ready rfl rfl, rfl⟩

theorem witness_LresetIsTakenInActive :
    7 < (8 : Byte).toNat ∧ ((labProg noBackup).prog 7).record.state ≠ .active ∧
      ((labProg noBackup).prog 0).record.state = .active := ⟨by decide, by decide +kernel, rfl⟩

theorem witness_RouteStoresTheEntry :
    (mapped .standby).readyInRun ∧
      ((1 : Byte) = 1 ∧ (0 : Byte) = byteOf (0 : Ix8).val ∧ (7 : Byte) = byteOf (7 : Ix8).val) ∧
      ¬ 7 < ((mapped .standby).prog 0).record.members.length ∧
      (((mapped .standby).prog 0).record.state ≠ .free ∧ 0 < ((mapped .standby).prog 0).record.members.length) ∧
      MapEntry.member 0 0 = ((mapped .standby).map.get 0).get 0 ∧
      MapEntry.test 7 ≠ ((mapped .standby).map.get 0).get 0 ∧
      ((mapped .standby).checkers.get 0).watched = some (0, 0) ∧ ((mapped .standby).checkers.get 0).state = .sync ∧
      ((mapped .standby).checkers.get 1).watched ≠ some (0, 0) :=
  ⟨ready rfl rfl, by decide, by decide +kernel, by decide +kernel, rfl, by decide +kernel, rfl, rfl, by decide +kernel⟩

/-- The laboratory part with REF_LOSS active and SLIP of port 0 latched. -/
def alarmed : Device :=
  { lab with alarms := { ((AlarmUnit.reset.activate 3 .refLoss).occur 4 (.slip 0)) with queue := [] } }

theorem witness_AmaskAndAclearActOnTheSelected :
    lab.readyInRun ∧ (10 : Byte).toNat ≤ 10 ∧ (0xFF : Byte) = 0xFF ∧ (10 < (11 : Byte).toNat ∧ (254 : Byte) ≠ 0xFF) ∧
      1 < (2 : Byte).toNat ∧ Kind.refLoss.code = (10 : Byte).toNat ∧ ¬ Kind.slip.code = (10 : Byte).toNat ∧
      alarmed.readyInRun ∧ isSelection 0xFF 0xFF ∧ (∃ a ∈ namedBy 0xFF 0xFF, (alarmed.alarms.get a).active = false) ∧
      Alarm.slip 0 ∈ namedBy 0xFF 0xFF ∧ (alarmed.alarms.get (.slip 0)).latch = true ∧
      (alarmed.alarms.get .refLoss).active = true := by
  refine ⟨ready rfl rfl, by decide, rfl, by decide, by decide, by decide, by decide, ready rfl rfl, ?_⟩
  unfold isSelection
  decide +kernel

theorem witness_CountsAndLresetClear :
    lab.readyInRun ∧ lab.pinSound ∧ (labProg noBackup).readyInRun ∧ 7 < (8 : Byte).toNat ∧
      ((labProg noBackup).prog 7).record.state ≠ .active ∧ ((labProg noBackup).prog 0).record.state = .active :=
  ⟨ready rfl rfl, by unfold Device.pinSound; decide +kernel, ready rfl rfl, by decide, by decide +kernel, rfl⟩

theorem witness_MeterAndMstopSubscribe : lab.readyInRun ∧ 1 < (2 : Byte).toNat := ⟨ready rfl rfl, by decide⟩

theorem witness_TgenAndTcheckAct :
    lab.readyInRun ∧ 7 < (8 : Byte).toNat ∧ 1 < (2 : Byte).toNat ∧ (1 : Byte) = 1 ∧ 3 < (4 : Byte).toNat :=
  ⟨ready rfl rfl, by decide, by decide, rfl, by decide⟩

/-- The laboratory part with another timebase. -/
def timed (t : Timebase) : Device := { lab with time := t }

/-- The timebase in WORD mode in a state, with so many edges counted. -/
def wordTime (t : TimeState) (edges : Nat) : Timebase :=
  { Timebase.reset with mode := some .word, state := t, edges := edges }

theorem witness_PresenceWindowDecidesTheState :
    (∀ t, (timed t).calm) ∧
    ((wordTime .holding 4776).mode = some .word ∧ (wordTime .holding 4776).state = .holding ∧
      4776 ≤ (wordTime .holding 4776).edges ∧ (wordTime .holding 4824).edges ≤ 4824) ∧
    ((wordTime .external 4825).state = .external ∧
      ¬ (4776 ≤ (wordTime .external 4825).edges ∧ (wordTime .external 4825).edges ≤ 4824)) ∧
    (wordTime .internal 0).state = .internal ∧ Timebase.reset.mode ≠ some .word := by
  refine ⟨fun t => (calm_of (by decide +kernel) : lab.calm), ?_⟩
  decide +kernel

/-- A part whose RESTART is due. -/
def restarting : Device := labLink { lab.link with restart := .due }

theorem witness_HouseSampleAdvancesHOrIsIgnored :
    restarting.link.restart = .due ∧ lab.link.restart ≠ .due ∧ lab.time.state ≠ .external ∧ (499 : Nat) < 500 ∧
      ((wordTime .external 0).state = .external ∧ (1499 : Nat) < 1500 ∧ (wordTime .external 0).oscillatorPaced = false) ∧
      (lab.time.state ≠ .external ∧ (999 : Nat) < 1000) ∧ lab.time.takes (.oscillator 1000) ∧
      (wordTime .external 0).takes (.oscillator 1500) ∧ (wordTime .external 0).takes (.refEdge 500) ∧
      lab.linkServed ∧ (labLink (heldLink 1 0)).linkServed :=
  ⟨rfl, by decide +kernel, by decide +kernel, by decide, ⟨rfl, by decide, rfl⟩, ⟨by decide +kernel, by decide⟩,
    ⟨1000, .inl ⟨rfl, le_refl _, .inl (by decide +kernel)⟩⟩, ⟨1500, .inr (.inl ⟨rfl, le_refl _⟩)⟩,
    ⟨500, .inr (.inr ⟨rfl, le_refl _, rfl⟩)⟩, .inl rfl, .inr (.inl ⟨rfl, rfl⟩)⟩

/-- The pace of the laboratory's house samples, which makes one there. -/
def tick : Pace := .oscillator 1000

theorem tick_makes : lab.link.restart ≠ .due ∧ lab.time.takes tick :=
  ⟨by decide +kernel, 1000, .inl ⟨rfl, le_refl _, .inl (by decide +kernel)⟩⟩

/-- A converter with so many frames in its FIFO. -/
def fed (frames : Nat) (c : Converter) : Converter := { c with fifo := List.replicate frames ⟨1, 2, 3, 4⟩ }

/-- What the next house sample finds at the port whose converter this is. -/
def opening (c : Converter) : Port := ((labConv c .framed).opened tick).port 0

/-- Port 0 looped to output lane 2, which has emitted a frame, with a lane receiver and a converter. -/
def looped (l : Lane) (c : Converter) : Device :=
  { labPort { Port.reset with lane := { l with enabled := true, source := .loop 2 }, conv := c } with
    emitted := some (Oct.fill (Quad.fill ⟨7, true⟩)) }

/-- What the next house sample finds at that port. -/
def loopOpening (l : Lane) (c : Converter) : Port := ((looped l c).opened tick).port 0

/-- A lane that counts good markers. -/
def proving (good : Nat) : Lane := { Lane.reset with state := .framing, expects := true, good := good }

set_option maxRecDepth 2000 in
/-- The arrivals of a looped port: its first frame, a good marker before the eighth, the eighth in SEEK and in
HOLDOVER, and one on a FRAMED lane. -/
theorem witness_HouseSampleConverts_looped :
    (lab.link.restart ≠ .due ∧ lab.time.takes tick) ∧
      ((looped .reset .reset).opened tick).emitted = some (Oct.fill (Quad.fill ⟨7, true⟩)) ∧
      ((lab.opened tick).emitted = none ∧ ((lab.opened tick).time.h + 1 - Lane.reset.lastMarker).toNat < 48) ∧
      (let x := loopOpening .reset { Converter.reset with state := .seek }
       x.lane.enabled = true ∧ x.lane.source = .loop 2 ∧ x.lane.state = .dark ∧ x.lane.lastMarker = 0 ∧
         x.lane.expects = false ∧ x.conv.undisturbed) ∧
      (let x := loopOpening (proving 6) .reset
       x.lane.expects = true ∧ x.lane.state ≠ .framed ∧ x.lane.good < 7 ∧ x.conv.undisturbed) ∧
      (let x := loopOpening (proving 7) { Converter.reset with state := .seek }
       x.lane.expects = true ∧ x.lane.state ≠ .framed ∧ 7 ≤ x.lane.good ∧ x.conv.state = .seek ∧ x.conv.undisturbed) ∧
      (let x := loopOpening (proving 7) { Converter.reset with state := .holdover }
       x.lane.good = 7 ∧ x.conv.state = .holdover ∧ x.conv.fade = .none ∧ x.conv.undisturbed) ∧
      (let x := loopOpening { proving 8 with state := .framed } (fed 9 { Converter.reset with state := .locked })
       x.lane.expects = true ∧ x.lane.state = .framed ∧ x.conv.state = .locked ∧ x.conv.fade = .none ∧
         x.conv.fifo.length = 9 ∧ x.conv.undisturbed) := by
  refine ⟨tick_makes, ?_⟩
  simp only [undisturbed_iff]
  decide +kernel

set_option maxRecDepth 2000 in
/-- One whole step takes a converter at the nominal rate to its ninth frame. -/
theorem witness_HouseSampleConverts :
    (lab.link.restart ≠ .due ∧ lab.time.takes tick) ∧
      (opening { Converter.reset with state := .seek }).conv.state = .seek ∧
      (let c := (opening { Converter.reset with state := .locked, underrunWait := true }).conv
       c.state = .locked ∧ c.underrunWait = true) ∧
      (let c := (opening (fed 8 { Converter.reset with state := .settle })).conv
       let whole := (c.fraction + c.sApp).toNat / 16777216
       c.state = .settle ∧ c.underrunWait = false ∧ c.fifo.length < whole + 8) ∧
      (let c := (opening (fed 9 { Converter.reset with state := .locked, fade := .fadeIn 63 true })).conv
       let whole := (c.fraction + c.sApp).toNat / 16777216
       c.state = .locked ∧ c.underrunWait = false ∧ ¬ c.fifo.length < whole + 8 ∧ c.fade = .fadeIn 63 true) ∧
      (let c := (opening (fed 9 { Converter.reset with state := .locked })).conv
       c.state = .locked ∧ c.fade = .none) ∧
      (let c := (opening (fed 9 { Converter.reset with state := .holdover, fade := .fadeOut 1 })).conv
       let whole := (c.fraction + c.sApp).toNat / 16777216
       c.state = .holdover ∧ c.fade = .fadeOut (0 + 1) ∧ c.starved = false ∧ ¬ c.fifo.length < whole + 8) ∧
      (let c := (opening (fed 0 { Converter.reset with state := .holdover, fade := .fadeOut 64, starved := true })).conv
       c.state = .holdover ∧ c.fade = .fadeOut (63 + 1) ∧ c.starved = true) ∧
      (let c := (opening (fed 0 { Converter.reset with state := .holdover })).conv
       c.state = .holdover ∧ c.fade = .none) ∧
      (opening .reset).lane.source = .pins := by
  refine ⟨tick_makes, ?_⟩
  unfold opening
  decide +kernel

/-- What the next house sample finds, programme 0 having one member, whose line is given, with a fade context. -/
def passing (l : Line) (f : FadeCtx) : Device :=
  (labProg { withMember .active with
    meter := { Meter.reset with mode := .measure }
    delay := { Delay.reset with lines := Delay.reset.lines.set 0 l, fade := f, gapLength := 5 } }).opened tick

/-- What HouseSamplePassesAMember asks of the part so opened: a sounding programme, and sound and passing lines. -/
def linesReady (e : Device) : Prop :=
  (e.prog 0).record.state = .active ∧
    (e.prog 0).record.members[(0 : Ix8).val]? = some ⟨.front, ⟨0, 0⟩, some ⟨1, 0⟩⟩ ∧
    (e.line 0 0).Sound ∧ e.mem.wf = true ∧ (e.prog 0).record.members.length = 1 ∧
    (∀ p : Ix8, (e.port p).lane.enabled = false) ∧
    ∀ k j : Ix8, (k, j) ≠ (0, 0) → (e.prog k).record.state = .active ∨ (e.prog k).record.state = .stopping →
      j.val < (e.prog k).record.members.length → e.passes k j

/-- The same as a check, where programme 0 alone has a state other than FREE, and one member. -/
def isLinesReady (e : Device) : Bool :=
  decide ((e.prog 0).record.state = .active ∧
    (e.prog 0).record.members = [⟨.front, ⟨0, 0⟩, some ⟨1, 0⟩⟩]) &&
  decide ((e.line 0 0).headPos < 1024 ∧ ((e.line 0 0).inUse ++ (e.line 0 0).spare).Nodup ∧
    (e.line 0 0).inUse.length = ((e.line 0 0).headPos + (e.line 0 0).d + 1023) / 1024 ∧
    (((e.line 0 0).headPos + (e.line 0 0).d) / 1024 < (e.line 0 0).inUse.length ∨ (e.line 0 0).spare ≠ [])) &&
  e.mem.wf && decide (∀ p : Ix8, (e.port p).lane.enabled = false) &&
  decide (∀ k : Ix8, k ≠ 0 → (e.prog k).record.state = .free)

theorem linesReady_of {e : Device} (h : isLinesReady e = true) : linesReady e := by
  simp only [isLinesReady, Bool.and_eq_true, decide_eq_true_eq] at h
  obtain ⟨⟨⟨⟨⟨active, members⟩, sound⟩, wf⟩, ports⟩, others⟩ := h
  refine ⟨active, by rw [members]; rfl, sound, wf, by rw [members]; rfl, ports, fun k j other state below => ?_⟩
  by_cases first : k = 0
  · subst first
    rw [members] at below
    exact absurd (congrArg (Prod.mk 0) (Fin.ext (Nat.lt_one_iff.1 below))) other
  · rw [others k first] at state
    exact absurd state (by decide)

set_option maxRecDepth 2000 in
/-- A line in normal running, one whose slew upwards acts at this house sample, a frozen one and an empty one. -/
theorem witness_HouseSamplePassesAMember :
    (lab.link.restart ≠ .due ∧ lab.time.takes tick) ∧
      (let e := passing { Line.reset with inUse := [0], d := 2 } .none
       linesReady e ∧ (e.line 0 0).d = 2 ∧ (e.prog 0).meter.mode ≠ .off) ∧
      (let e := passing { Line.reset with
          inUse := [0], d := 2, dNew := 4, change := .slewUp, slewCounter := 255, remaining := 2 } .none
       linesReady e ∧ (e.prog 0).delay.fade = .none ∧ (e.line 0 0).change = .slewUp ∧ (e.line 0 0).slewCounter = 255) ∧
      (let e := passing { Line.reset with spare := [0], dNew := 5, change := .wait, freeze := 5 } .gap
       linesReady e ∧ (e.prog 0).delay.fade = .gap ∧ (e.line 0 0).freeze = 5 ∧ (e.prog 0).delay.fadeStep + 1 ≤ 5) ∧
      (let e := passing { Line.reset with spare := [0] } .none
       linesReady e ∧ (e.line 0 0).d = 0) := by
  refine ⟨tick_makes, ?_⟩
  exact ⟨⟨linesReady_of (by decide +kernel), by decide +kernel⟩, ⟨linesReady_of (by decide +kernel), by decide +kernel⟩,
    ⟨linesReady_of (by decide +kernel), by decide +kernel⟩, ⟨linesReady_of (by decide +kernel), by decide +kernel⟩⟩

set_option maxRecDepth 2000 in
theorem witness_HouseSampleStepsGeneratorsCheckersAndContexts :
    (lab.link.restart ≠ .due ∧ lab.time.takes tick) ∧
      (let e := ({ labProg { withMember .active with gen := { Generator.reset with on := true } } with
          checkers := ⟨{ Checker.reset with state := .hunt, watched := some (0, 0), loadCount := 22 },
            { Checker.reset with state := .sync, watched := some (7, 3) }⟩ } : Device).opened tick
       (e.prog 0).gen.on = true ∧ (e.prog 1).gen.on = false ∧
         ((e.checkers.get 0).watched = some (0, 0) ∧ (e.checkers.get 0).state = .hunt ∧
           (e.checkers.get 0).loadCount < 23) ∧
         ((e.checkers.get 1).watched = some (7, 3) ∧ (e.checkers.get 1).state = .sync) ∧
         (e.prog 0).record.state = .active ∧ (e.prog 1).record.state ≠ .active) ∧
      (let e := ({ lab with
          checkers := ⟨{ Checker.reset with state := .hunt, watched := some (0, 0), loadCount := 23 }, .reset⟩ } :
            Device).opened tick
       (e.checkers.get 0).state = .hunt ∧ 23 ≤ (e.checkers.get 0).loadCount ∧ (e.checkers.get 1).state = .idle) ∧
      (let x := ((labProg (changing { Context.reset with state := .pending, holdTimer := 95999 })).opened tick).prog 0
       x.record.state = .active ∧ x.ctx.state = .pending ∧ x.ctx.startDue = false ∧
         x.record.settings.holdLimit * 4800 ≤ ((min (x.ctx.holdTimer + 1) 480000 : Nat) : Int)) := by
  refine ⟨tick_makes, ?_⟩
  decide +kernel

theorem witness_SubBlockEndClosesTheLevels :
    (∀ t, (timed t).calm) ∧
      ({ lab.time with h := 48000, boundary := .due } : Timebase).boundary = .due ∧
      ({ lab.time with h := 48000, boundary := .due } : Timebase).h.toNat % 48000 = 0 ∧ lab.time.boundary ≠ .due ∧
      ¬ ({ lab.time with h := 4800, boundary := .due } : Timebase).h.toNat % 48000 = 0 := by
  refine ⟨fun t => (calm_of (by decide +kernel) : lab.calm), ?_⟩
  decide +kernel

/-- A part whose H has stepped onto a sub-block boundary, programme 0 ACTIVE and subscribed. -/
def reporting (x : Subscription) : Device :=
  { labProg (withMember .active) with
    time := { lab.time with h := 4800, boundary := .due }
    link := { lab.link with subscriptions := lab.link.subscriptions.set 0 x } }

theorem witness_SubBlockEndFormsReports :
    (∀ x, (reporting x).calm) ∧
    (reporting .continuous).time.boundary = .due ∧
      ((reporting .continuous).prog 0).record.state = .active ∧
      (reporting .continuous).link.subscriptions.get 0 = .continuous ∧
      (reporting (.count 2)).link.subscriptions.get 0 = .count (0 + 2) ∧
      (reporting (.count 1)).link.subscriptions.get 0 = .count 1 ∧
      ((reporting .continuous).prog 1).record.state ≠ .active := by
  refine ⟨fun x => (calm_of (by decide +kernel) : (labProg (withMember .active)).calm), ?_⟩
  decide +kernel

/-- A part whose H has stepped onto a sub-block boundary, with a programme in place of programme 0. -/
def closing (x : Programme) : Device := { labProg x with time := { lab.time with h := 4800, boundary := .due } }

/-- An ACTIVE programme with a loudness mode and a list of energies. -/
def measured (mode : LoudMode) (l : List EnergyEntry) : Programme :=
  { withMember .active with
    record := { (withMember .active).record with settings := { Settings.default with loudnessMode := mode } }
    meter := { Meter.reset with energies := l } }

theorem witness_SubBlockEndClosesMetersAndGains :
    (let d := closing (measured .correct (List.replicate 12 ⟨1 / 10, true⟩))
     d.calm ∧ d.time.boundary = .due ∧ (d.prog 0).record.state = .active ∧
       (d.prog 1).record.state ≠ .active ∧ (d.prog 0).record.settings.loudnessMode = .correct) ∧
      (after .subBlockEnd (closing (measured .correct (List.replicate 12 ⟨1 / 10, true⟩)))
        (fun e => ((e.prog 0).meter.momentary, (e.prog 0).meter.shortTerm))) = some (none, some (-100)) ∧
      (closing (measured .off [])).calm ∧ (closing (measured .measure [])).calm ∧
      [(300, 1), (470, 6)].Pairwise (fun a b : Nat × Nat => a.1 < b.1) := by
  refine ⟨⟨calm_of (by decide +kernel), ?_⟩, ?_, calm_of (by decide +kernel), calm_of (by decide +kernel), ?_⟩ <;>
  decide +kernel

/-- What M and the histogram become at the sub-block end at a house index, where three valid energies of 0 and that of
the one member, whose converter has converted throughout, make four. -/
def fourth (h : HouseIndex) (energy : Rat) : Option (Option Int × List (Nat × Nat) × Nat) :=
  let x := measured .measure (List.replicate 3 ⟨0, true⟩)
  let member : MeterMember := { x.meter.members.get 0 with energy := energy }
  let d := closing { x with
    meter := { x.meter with
      activeThroughout := true, runningThroughout := true, members := x.meter.members.set 0 member } }
  after .subBlockEnd
    { d with
      ports := d.ports.set 0 { Port.reset with conv := { Converter.reset with throughout := true } }
      time := { d.time with h := h } }
    (fun e => ((e.prog 0).meter.momentary, (e.prog 0).meter.bins, (e.prog 0).meter.belowGate))

/-- R117, R119: four energies whose mean is a tenth give -10.0, counted in bin 600; four of 0 are below the gate. -/
theorem witness_SubBlockEndClosesMetersAndGains_momentary :
    fourth 4800 1920 = some (some (-100), [(600, 1)], 0) ∧ fourth 4800 0 = some (some (-999), [], 1) := by
  decide +kernel

/-- R115: the sub-block that the wrap of H closes is invalid, which leaves M absent and nothing to count. -/
theorem witness_SubBlockEndClosesMetersAndGains_wrap : fourth 0 1920 = some (none, [], 0) := by decide +kernel

/-- A programme under AUTO_RETURN with a changeover context. -/
def returning (c : Context) : Programme :=
  { withMember .active with
    record := { (withMember .active).record with settings := { Settings.default with changeoverMode := .autoReturn } }
    ctx := c }

/-- The part on a boundary, that programme in place of programme 0 and both its sides healthy. -/
def bothHealthy (c : Context) : Device :=
  let sounding := { Port.reset with conv := { Converter.reset with state := .locked }, peaks := ⟨8388608, 0, 0, 0⟩ }
  { closing (returning c) with ports := (lab.ports.set 0 sounding).set 1 sounding }

theorem witness_SubBlockEndJudgesTheSides :
    (let d := bothHealthy { Context.reset with selection := .backup, selectedBy := .auto, returnTimer := 299 }
     d.calm ∧ d.time.boundary = .due ∧ (d.prog 0).record.state = .active ∧
       (d.prog 1).record.state ≠ .active ∧ (d.prog 0).record.settings.changeoverMode = .autoReturn ∧
       (d.prog 0).ctx.selection = .backup ∧ (d.prog 0).ctx.selectedBy = .auto ∧ (d.prog 0).ctx.state = .idle ∧
       (d.port 0).conv.state = .locked ∧ (d.prog 0).record.settings.silenceLevel ≤ levelOf ((d.port 0).peaks.get 0) ∧
       (d.prog 0).record.settings.returnTime * 10 = 299 + 1) ∧
      (let d := { bothHealthy .reset with
          alarms := lab.alarms.put (.silence 0) { AlarmRecord.reset with active := true, latch := true } }
       d.calm ∧ (d.alarms.get (.silence 0)).active = true ∧ (d.prog 0).ctx.selection = .primary ∧
         (d.prog 0).record.settings.changeoverMode ≠ .manual ∧ (d.port 1).conv.state = .locked ∧
         (d.prog 0).record.settings.silenceLevel ≤ levelOf ((d.port 1).peaks.get 0)) := by
  refine ⟨⟨calm_of (by decide +kernel), ?_⟩, calm_of (by decide +kernel), ?_⟩ <;> decide +kernel

theorem witness_SubBlockEndQualifiesConditions :
    (let d := { closing (withMember .active) with
        ports := lab.ports.set 0 { Port.reset with lane := { Lane.reset with enabled := true } }
        alarms := lab.alarms.put (.silence 0) { AlarmRecord.reset with active := true, latch := true } }
     d.calm ∧ d.time.boundary = .due ∧ (d.port 0).lane.enabled = true ∧
       (d.port 1).lane.enabled = false ∧ (d.alarms.get (.unlock 0)).active = false ∧
       (d.port 0).conv.state ≠ .locked ∧ (d.alarms.get (.silence 0)).active = true ∧
       (d.prog 0).record.state = .active ∧ (d.prog 1).record.state ≠ .active ∧
       Alarm.refLoss.kind ≠ .unlock ∧ Alarm.refLoss.kind ≠ .silence) := by
  refine ⟨calm_of (by decide +kernel), ?_⟩
  decide +kernel

/-- Port 0 enabled at its pins with a lane receiver and a converter. -/
def labLane (l : Lane) (c : Converter) : Device :=
  labPort { Port.reset with lane := { l with enabled := true }, conv := c }

/-- A frame with a marker at the expected position, and one without any. -/
def goodFrame : LaneInput := ⟨true, false, ⟨⟨1, true⟩, ⟨2, true⟩, ⟨3, false⟩, ⟨4, true⟩⟩, 255⟩
def badFrame : LaneInput := ⟨false, false, ⟨⟨1, true⟩, ⟨2, true⟩, ⟨3, false⟩, ⟨4, true⟩⟩, 0⟩

theorem witness_FrameArrivalProvesTheFraming :
    (∀ l c, (labLane l c).calm) ∧
    (lab.port 0).lane.enabled = false ∧
      (let x := (labLane Lane.reset { Converter.reset with state := .seek }).port 0
       x.lane.enabled = true ∧ x.lane.source = .pins ∧ x.conv.state = .seek ∧ x.conv.undisturbed ∧
         x.lane.state = .dark ∧ x.lane.expects = false ∧ x.conv.fifo.length < 32) ∧
      (let d := { labLane { Lane.reset with state := .framing, expects := true, good := 3 } .reset with
          time := { lab.time with h := 48 } }
       let x := d.port 0
       d.calm ∧ x.lane.state = .framing ∧ ¬ (d.time.h - x.lane.lastMarker).toNat < 48 ∧ x.conv.undisturbed) ∧
      (let x := (labLane { Lane.reset with state := .framing, expects := true, good := 6 } .reset).port 0
       x.lane.state = .framing ∧ (lab.time.h - x.lane.lastMarker).toNat < 48 ∧ x.lane.expects = true ∧ x.lane.good < 7) ∧
      (let x := (labLane { Lane.reset with state := .framing, expects := true, good := 7 } .reset).port 0
       x.lane.state ≠ .framed ∧ x.lane.expects = true ∧ 7 ≤ x.lane.good) ∧
      (let c := { Converter.reset with state := .holdover }
       c.state = .holdover ∧ c.undisturbed) ∧
      goodFrame.atExpected = true ∧ badFrame.atExpected = false ∧ (goodFrame.atExpected ∨ goodFrame.elsewhere) := by
  refine ⟨fun l c => (calm_of (by decide +kernel) : lab.calm), by decide +kernel, ?_,
    ⟨(calm_of (by decide +kernel) : lab.calm), ?_⟩, ?_⟩ <;>
  · try simp only [undisturbed_iff]
    decide +kernel

/-- Port 0 on a FRAMED lane after so many bad markers, with a converter. -/
def framed (bad : Nat) (c : Converter) : Device :=
  labLane { Lane.reset with state := .framed, expects := true, bad := bad } c

theorem witness_FrameArrivalOffersTheFrame :
    (∀ bad c, (framed bad c).calm) ∧
      (let x := (framed 0 (fed 63 { Converter.reset with state := .settle, lockCount := 3 })).port 0
       x.lane.enabled = true ∧ x.lane.source = .pins ∧ x.lane.state = .framed ∧ x.lane.expects = true ∧
         (lab.time.h - x.lane.lastMarker).toNat < 48 ∧ x.conv.undisturbed ∧ x.conv.state = .settle ∧
         x.conv.fifo.length < 64) ∧
      (let c := ((framed 0 (fed 64 { Converter.reset with state := .locked })).port 0).conv
       c.undisturbed ∧ c.state = .locked ∧ 64 ≤ c.fifo.length) ∧
      (let d := { framed 0 (fed 64 { Converter.reset with state := .locked }) with
          progs := lab.progs.set 0 (withMember .active) }
       d.calm ∧ (d.prog 0).record.state = .active ∧
         ∃ z ∈ (d.prog 0).record.members, (z.on (d.prog 0).ctx.selection).port = 0) ∧
      (∀ n : Ix8, (lab.prog n).record.state ≠ .active) ∧
      (let c := ((framed 0 (fed 31 { Converter.reset with state := .locked, underrunWait := true })).port 0).conv
       c.undisturbed ∧ c.underrunWait = true ∧ c.fifo.length = 31) ∧
      (let c := ((framed 0 (fed 31 { Converter.reset with state := .holdover, holdTimer := 48000 })).port 0).conv
       c.undisturbed ∧ c.state = .holdover ∧ c.fade = .none ∧ c.holdTimer = 48000) ∧
      (let c := ((framed 0 { Converter.reset with state := .holdover, fade := .fadeOut 1 }).port 0).conv
       c.undisturbed ∧ c.state = .holdover ∧ c.fade ≠ .none) ∧
      (((framed 1 .reset).port 0).lane.bad < 2 ∧ 2 ≤ ((framed 2 .reset).port 0).lane.bad) ∧
      (let d := { framed 0 { Converter.reset with state := .locked } with time := { lab.time with h := 48 } }
       d.calm ∧ 48 ≤ (d.time.h - (d.port 0).lane.lastMarker).toNat ∧ (d.port 0).conv.undisturbed) ∧
      ((framed 0 { Converter.reset with state := .seek }).port 0).conv.undisturbed ∧
      ((framed 0 { Converter.reset with state := .measure }).port 0).conv.undisturbed ∧
      goodFrame.atExpected = true ∧ badFrame.atExpected = false := by
  refine ⟨fun bad c => (calm_of (by decide +kernel) : lab.calm), ?_, ?_,
    ⟨(calm_of (by decide +kernel) : (labProg (withMember .active)).calm), ?_⟩, ?_, ?_, ?_, ?_, ?_,
    ⟨(calm_of (by decide +kernel) : lab.calm), ?_⟩, ?_⟩ <;>
  · try simp only [undisturbed_iff]
    decide +kernel

/-- A part at house index 48, its port 0 on a lane in a state, with a converter. -/
def darkening (l : LaneState) (c : Converter) : Device :=
  { labLane { Lane.reset with state := l } c with time := { lab.time with h := 48 } }

theorem witness_DarkLaneStopsTheConverter :
    (∀ l c, (darkening l c).calm) ∧
    (let x := (darkening .framing { Converter.reset with state := .seek }).port 0
     x.lane.enabled = true ∧ x.lane.state ≠ .dark ∧ x.lane.state = .framing ∧ x.conv.state = .seek ∧
       x.conv.undisturbed) ∧
      48 ≤ ((darkening .framed .reset).time.h - ((darkening .framed .reset).port 0).lane.lastMarker).toNat ∧
      (∀ t ∈ [ConvState.measure, .settle, .locked], ∀ fade ∈ [Fade.none, .fadeIn 3 false],
        let c := ((darkening .framed { Converter.reset with state := t, fade := fade }).port 0).conv
        c.state = t ∧ c.undisturbed) ∧
      (∀ timer ∈ [48000, 47999],
        let c := ((darkening .framed { Converter.reset with state := .holdover, holdTimer := timer }).port 0).conv
        c.state = .holdover ∧ c.holdTimer = timer ∧ c.undisturbed) ∧
      ((darkening .framed .reset).port 0).lane.state = .framed ∧
      ¬ ((darkening .dark .reset).port 0).lane.state ≠ .dark := by
  refine ⟨fun l c => (calm_of (by decide +kernel) : lab.calm), ?_⟩
  simp only [undisturbed_iff]
  decide +kernel

theorem witness_IntervalEndMeasuresTheRate :
    (∀ c l, (labConv c l).calm) ∧
    (lab.port 0).conv.ended = none ∧
      (let c := ((labConv { Converter.reset with state := .measure, ended := some ⟨503317, 32⟩ } .framed).port 0).conv
       c.ended = some ⟨503317, 32⟩ ∧ c.state = .measure ∧ 503317 ≤ 503317 ∧ 503317 ≤ 1797558) ∧
      (let c := ((labConv { Converter.reset with state := .measure, ended := some ⟨1797559, 32⟩ } .framed).port 0).conv
       c.state = .measure ∧ ¬ (503317 ≤ 1797559 ∧ 1797559 ≤ 1797558)) ∧
      (let c := ((labConv { Converter.reset with state := .locked, ended := some ⟨503316, 32⟩ } .framed).port 0).conv
       c.ended = some ⟨503316, 32⟩ ∧ c.state = .locked ∧ ¬ (503317 ≤ 503316 ∧ 503316 ≤ 1797558)) := by
  refine ⟨fun c l => (calm_of (by decide +kernel) : lab.calm), ?_⟩
  decide +kernel

/-- An ACTIVE programme on port 0 whose delay target is 1,000 and whose one line has a length, with a fade context,
and the end of a nominal interval at a fill of 36 waiting, which gives Lc 44 and a required length of 932. -/
def following (d : Nat) (f : FadeCtx) : Device :=
  let x := steady d 1000
  { labConv { Converter.reset with state := .settle, lockCount := 3, ended := some ⟨1048576, 36⟩ } .framed with
    progs := lab.progs.set 0 { x with
      record := { x.record with settings := { Settings.default with delayTarget := 1000 } }
      delay := { x.delay with fade := f } } }

/-- The required length that the interval end gives that programme, and whether its line holds what it calls for. -/
def followed (d : Nat) (f : FadeCtx) : Option (Nat × Bool) :=
  after (.intervalEnd 0) (following d f) fun e =>
    let told : Device := { following d f with ports := e.ports }
    (told.requiredOf 0 ⟨.front, ⟨0, 0⟩, some ⟨1, 0⟩⟩, isMeeting told 0 .deadband)

/-- An interval at the nominal rate with the fill at its first limit, and a jump with the fill beyond its second; and
a programme on the port whose required length lies 2 or more from its D, less, and one that is changing. -/
theorem witness_IntervalEndTracksTheRate :
    (∀ c l, (labConv c l).calm) ∧
      (let x := { Converter.reset with state := .settle, lockCount := 3, ended := some ⟨1048576, 36⟩ }
       let c := ((labConv x .framed).port 0).conv
       c.ended = some ⟨1048576, 36⟩ ∧ c.state = .settle ∧ 503317 ≤ 1048576 ∧ 1048576 ≤ 1797558 ∧
         ((36 : Int) - 32).natAbs ≤ 4) ∧
      (let c := ((labConv { Converter.reset with state := .locked, ended := some ⟨1047000, 45⟩ } .framed).port 0).conv
       c.state = .locked ∧ 12 < ((45 : Int) - 32).natAbs ∧
         c.sEst / 1024 < (((2 * 17592186044416 + 1047000) / (2 * 1047000) - c.sEst).natAbs : Int)) ∧
      (followed 930 .none = some (932, true) ∧ followed 931 .none = some (932, true) ∧
        followed 930 .fadeOut = some (932, true)) ∧
      ((following 930 .none).calm ∧ (following 930 .none).pool.queue = [] ∧
        (∀ k : Ix8, k ≠ 0 → ((following 930 .none).prog k).record.state ≠ .active) ∧
        ((following 930 .none).prog 0).record.state = .active ∧ (following 930 .none).changing 0 = false ∧
        (following 930 .fadeOut).changing 0 = true) := by
  refine ⟨fun c l => (calm_of (by decide +kernel) : lab.calm), ?_, ?_, ?_, calm_of (by decide +kernel), ?_⟩ <;>
  decide +kernel

/-- A converter with 32 frames in its FIFO. -/
def refilled (c : Converter) : Device := labConv { c with fifo := List.replicate 32 ⟨1, 2, 3, 4⟩ } .framed

theorem witness_ConverterEventsRunOut :
    (∀ c l, (labConv c l).calm) ∧
    (let c := ((labConv { Converter.reset with state := .settle, lockCount := 4 } .framed).port 0).conv
     c.state = .settle ∧ 4 ≤ c.lockCount) ∧
      (((labConv { Converter.reset with fade := .fadeIn 64 true } .framed).port 0).conv.fade = .fadeIn 64 true ∧
        64 ≤ 64) ∧
      (let c := ((labConv { Converter.reset with state := .holdover, fade := .fadeOut 0 } .framed).port 0).conv
       c.state = .holdover ∧ c.fade = .fadeOut 0) ∧
      (let x := (labConv { Converter.reset with state := .holdover, holdTimer := 48000 } .framing).port 0
       x.conv.state = .holdover ∧ 48000 ≤ x.conv.holdTimer ∧ x.lane.state ≠ .framed) ∧
      32 ≤ ((refilled { Converter.reset with underrunWait := true }).port 0).conv.fifo.length ∧
      ((refilled { Converter.reset with underrunWait := true }).port 0).conv.underrunWait = true ∧
      (let x := (refilled { Converter.reset with state := .holdover }).port 0
       32 ≤ x.conv.fifo.length ∧ x.conv.state = .holdover ∧ x.conv.fade = .none ∧ x.lane.state = .framed) := by
  refine ⟨fun c l => (calm_of (by decide +kernel) : lab.calm), ?_⟩
  decide +kernel

theorem witness_CrossfadeStartAndReturn :
    (let x := changing { Context.reset with state := .pending, quiet := 960, startDue := true }
     x.record.state = .active ∧ x.ctx.state = .pending ∧ x.ctx.startDue = true) ∧
      (changing { Context.reset with state := .pending, quiet := 959, holdTimer := 95999 }).ctx.startDue = false ∧
      (let x := changing { Context.reset with returnDue := true }
       x.record.state = .active ∧ x.ctx.returnDue = true ∧ x.ctx.state = .idle) ∧
      (let x := changing { Context.reset with state := .pending, returnDue := true }
       x.ctx.returnDue = true ∧ ¬ (x.record.state = .active ∧ x.ctx.state = .idle)) ∧
      (changing .reset).ctx.returnDue = false ∧
      (labProg (changing { Context.reset with state := .pending, quiet := 960, startDue := true })).calm ∧
      (labProg (changing { Context.reset with state := .pending, quiet := 959, holdTimer := 95999 })).calm := by
  refine ⟨?_, ?_, ?_, ?_, ?_, calm_of (by decide +kernel), calm_of (by decide +kernel)⟩ <;> decide +kernel

/-- An ACTIVE programme whose crossfade to BACKUP is complete, with a fade context. -/
def completing (f : FadeCtx) : Device :=
  let x := changing
    { Context.reset with state := .fading, fadeStep := 480, target := some (.backup, .auto), next := some .primary }
  labProg { x with delay := { x.delay with fade := f } }

theorem witness_CrossfadeCompletionFlipsTheSelection :
    (let d := completing .none
     let x := d.prog 0
     x.record.state = .active ∧ x.ctx.state = .fading ∧ 480 ≤ x.ctx.fadeStep ∧ x.ctx.target = some (.backup, .auto) ∧
       x.ctx.next = some .primary ∧ Selection.primary ≠ .backup ∧ x.meter.resetFlag = false ∧
       x.record.members[(0 : Ix8).val]? = some ⟨.front, ⟨0, 0⟩, some ⟨1, 0⟩⟩ ∧ d.calm ∧ d.changing 0 = false) ∧
      after (.crossfadeCompletion 0) (completing .none) (fun e =>
        isMeeting (labProg { (completing .none).prog 0 with ctx := (e.prog 0).ctx }) 0 .deadband) = some true ∧
      (completing .fadeOut).calm ∧ (completing .fadeOut).changing 0 = true ∧
      (completing .fadeOut).hasEntry 0 = false := by
  refine ⟨⟨?_, ?_, ?_, ?_, ?_, ?_, ?_, ?_, calm_of (by decide +kernel), ?_⟩, ?_, calm_of (by decide +kernel), ?_⟩ <;>
  decide +kernel

/-- A pool whose one entry, of programme 0, asks for so many of eight free blocks, its empty line needing nine. -/
def asking (count : Nat) : Device :=
  { labProg { fading with
      delay := { fading.delay with
        lines := fading.delay.lines.set 0 { Line.reset with dNew := 8192, change := .wait } } } with
    pool := { Pool.formed 8 with
      queue := [⟨0, count, false⟩], needs := (Oct.fill none : Oct (Option (List Nat))).set 0 (some [count]) } }

theorem witness_GrantCoversTheShortfall :
    ((asking 8).pool.queue = [⟨0, 8, false⟩] ∧ (asking 8).pool.notices = [] ∧ (asking 8).pool.needs.get 0 = some [8] ∧
      [8].length ≤ 8 ∧ 8 ≤ (asking 8).pool.free.length ∧ 8 = (asking 8).shortfall 0 [8] ∧
      ((asking 8).prog 0).record.state = .active ∧ (asking 8).changing 0 = true ∧
      (asking 9).pool.free.length < 9) ∧
    ∀ count : Nat, count ≤ 9 → ∀ (m : Ix8) (z : Member), ((asking count).prog 0).record.members[m.val]? = some z →
      ((asking count).line 0 m).d = 0 →
      max ([count].getD m.val 0) ((asking count).line 0 m).held ≤
        max (if ((asking count).line 0 m).change = .steady then 0 else needOf ((asking count).line 0 m).dNew)
        (needOf ((asking count).required ((asking count).prog 0).record.settings.delayTarget
          (z.on ((asking count).prog 0).ctx.selection)).toNat) := by
  refine ⟨by decide +kernel, fun count h m z listed _ => ?_⟩
  fin_cases m
  · exact le_trans (max_le h (Nat.zero_le _)) (le_trans (by decide : 9 ≤ needOf 8192) (le_max_left _ _))
  all_goals cases listed

/-- An ACTIVE programme with a line and a fade context. -/
def lined (l : Line) (f : FadeCtx) (step : Nat) : Device :=
  labProg { withMember .active with
    delay := { Delay.reset with fade := f, fadeStep := step, gapLength := 3, lines := Delay.reset.lines.set 0 l } }

theorem lined_calm (l : Line) (f : FadeCtx) (step : Nat) : (lined l f step).calm :=
  ⟨⟨lab_finished.1, lab_finished.2.1, fun n => by fin_cases n <;> rfl, rfl⟩, .inr (.inr ⟨rfl, rfl, rfl⟩), .inl rfl⟩

/-- That part with a recalculation folded: an EXACT host trigger. -/
def foldedLined (l : Line) (f : FadeCtx) (step : Nat) : Device :=
  let x := (lined l f step).prog 0
  labProg { x with delay := { x.delay with pending := some ⟨.exact, true⟩ } }

theorem folded_calm (l : Line) (f : FadeCtx) (step : Nat) : (foldedLined l f step).calm :=
  ⟨⟨lab_finished.1, lab_finished.2.1, fun n => by fin_cases n <;> rfl, rfl⟩, .inr (.inr ⟨rfl, rfl, rfl⟩), .inl rfl⟩

theorem witness_SlewsGapsAndRampsEnd :
    (∀ l f k, (lined l f k).calm) ∧
    (0 : Ix8).val < ((lined .reset .none 0).prog 0).record.members.length ∧
      (let l := (lined { Line.reset with change := .slewUp, slewCounter := 256, remaining := 2 } .none 0).line 0 0
       256 ≤ l.slewCounter ∧ l.change = .slewUp ∧ 2 ≤ l.remaining) ∧
      (let l := (lined { Line.reset with
          change := .slewDown, slewCounter := 256, remaining := 2, d := 2, headPos := 1022, inUse := [0, 1] } .none 0).line 0 0
       256 ≤ l.slewCounter ∧ l.change = .slewDown ∧ 2 ≤ l.remaining ∧ 2 ≤ l.d ∧ l.headPos + 1 < 1024) ∧
      (let d := lined { Line.reset with change := .slewUp, slewCounter := 256, remaining := 1 } .none 0
       (d.line 0 0).remaining = 1 ∧ (d.prog 0).record.state = .active ∧ (d.prog 0).delay.fade = .none ∧
         (∀ k : Ix8, k ≠ 0 → (d.line 0 k).change = .steady) ∧ (d.prog 0).delay.pending = none ∧
         (d.alarms.get (.delayShort 0)).active = false) ∧
      (∀ l ∈ [{ Line.reset with change := .slewUp, slewCounter := 256, remaining := 1 },
          { Line.reset with
            change := .slewDown, slewCounter := 256, remaining := 1, d := 2, headPos := 5, inUse := [0] }],
        let d := foldedLined l .none 0
        let still := { l with change := .steady, slewCounter := 0, remaining := 0 }
        let moved := if l.change = .slewUp then still else
          { still with d := l.d - 1, headPos := l.headPos + 1, headIndex := l.headIndex + 1 }
        d.calm ∧ (d.prog 0).delay.pending = some ⟨.exact, true⟩ ∧ (d.prog 0).delay.fade = .none ∧
          (∀ k : Ix8, k ≠ 0 → (d.line 0 k).change = .steady) ∧ (lined moved .none 0).meets 0 .exact) ∧
      (let d := lined { Line.reset with change := .wait, freeze := 2 } .gap 2
     (d.prog 0).delay.fade = .gap ∧ 0 < (d.line 0 0).freeze ∧ (d.line 0 0).freeze ≤ (d.prog 0).delay.fadeStep ∧
       (d.prog 0).delay.fadeStep < (d.prog 0).delay.gapLength) ∧
      (let d := lined Line.reset .gap 3
       (d.prog 0).delay.fade = .gap ∧ (d.prog 0).delay.gapLength ≤ (d.prog 0).delay.fadeStep) ∧
      (let k : StageMember := { StageMember.reset with ramp := some ⟨0, -10, 480⟩ }
       k.ramp = some ⟨0, -10, 480⟩ ∧ 480 ≤ (⟨0, -10, 480⟩ : Ramp).step) ∧
      (let g : Stage := { Stage.reset with trimRamp := some ⟨0, 200, 480⟩ }
       g.trimRamp = some ⟨0, 200, 480⟩ ∧ 480 ≤ (⟨0, 200, 480⟩ : Ramp).step) := by
  refine ⟨lined_calm, ?_, ?_, ?_, ?_, fun l h => ⟨folded_calm l .none 0, ?_⟩, ?_⟩
  on_goal 5 =>
    simp only [List.mem_cons, List.not_mem_nil, or_false] at h
    obtain rfl | rfl := h <;> exact ⟨rfl, rfl, by decide +kernel, meets_of (by decide +kernel)⟩
  all_goals decide +kernel

theorem witness_ProgrammeFadeChangesTheLengths :
    (∀ l f k, (lined l f k).calm) ∧
    (let d := lined { Line.reset with change := .wait, dNew := 100 } .fadeOut 240
     (d.prog 0).delay.fade = .fadeOut ∧ (d.prog 0).delay.fadeStep = 240) ∧
      (let d := lined { Line.reset with change := .wait, d := 100, dNew := 100 } .fadeIn 240
       (d.prog 0).delay.fade = .fadeIn ∧ (d.prog 0).delay.fadeStep = 240 ∧ (d.prog 0).record.state = .active ∧
         (d.prog 0).delay.pending = none ∧ (∀ m ∈ (d.prog 0).record.positions, (d.line 0 m).clamped = false) ∧
         d.hasEntry 0 = false) ∧
      (let d := foldedLined { Line.reset with change := .wait, d := 100, dNew := 100, inUse := [0] } .fadeIn 240
       d.calm ∧ (d.prog 0).delay.fade = .fadeIn ∧ (d.prog 0).delay.fadeStep = 240 ∧
         (d.prog 0).record.state = .active ∧ (d.prog 0).delay.pending = some ⟨.exact, true⟩ ∧
         (lined { Line.reset with d := 100, dNew := 100, inUse := [0] } .none 0).meets 0 .exact) := by
  refine ⟨lined_calm, ?_, ?_, folded_calm _ _ _, rfl, rfl, rfl, rfl, meets_of (by decide +kernel)⟩ <;> decide +kernel

theorem witness_StopFadeEndTearsDown :
    (withMember .active).record.state ≠ .stopping ∧
      (let d := labProg { withMember .stopping with stage := { Stage.reset with stopStep := 480 } }
       (d.prog 0).record.state = .stopping ∧ 480 ≤ (d.prog 0).stage.stopStep ∧ d.hasEntry 0 = false ∧
         d.pool.queue = [] ∧ d.calm) := by
  refine ⟨by decide +kernel, rfl, by decide +kernel, by decide +kernel, rfl, calm_of (by decide +kernel)⟩

/-- A line of two samples that straddle two blocks, with a spare. -/
def straddling : Line := { Line.reset with inUse := [5, 2], spare := [7], headPos := 1023, d := 2 }

theorem witness_DelayLineIsAQueue :
    straddling.Sound ∧ (⟨[(6143, 9)]⟩ : DelayMemory).wf = true ∧ 1 ≤ straddling.d ∧ 0 + 1 < straddling.d ∧
      ({ Line.reset with spare := [7] } : Line).Sound ∧ Line.reset.d = 0 := by
  unfold Line.Sound
  decide +kernel

theorem witness_CheckersAndTimersChangeConditions :
    (let c : Checker := { Checker.reset with state := .hunt, correctRun := 48 }
     c.state = .hunt ∧ 48 ≤ c.correctRun) ∧
      ¬ (Checker.reset.state = .hunt ∧ 48 ≤ Checker.reset.correctRun) ∧
      ¬ (Checker.reset.state = .sync ∧ 8 ≤ Checker.reset.window.count true) ∧
      (∀ active ∈ [true, false], ({ AlarmRecord.reset with active := active } : AlarmRecord).active = active) ∧
      (let c : Checker := { Checker.reset with state := .sync, window := List.replicate 8 true ++ List.replicate 40 false }
       c.state = .sync ∧ 8 ≤ c.window.count true) ∧
      (let r : AlarmRecord := { AlarmRecord.reset with expiry := .set }
       r.expiry = .set ∧ r.active = false) ∧
      (let r : AlarmRecord := { AlarmRecord.reset with expiry := .clear, active := true }
       r.expiry = .clear ∧ r.active = true) := by decide +kernel

/-- One M of -23.0: its one bin is the mean of all and above its own gate, half a tenth from a rounding limit. -/
theorem witness_FiguresAreExactLogarithms :
    (0 < 8388608 ∧ 8388608 ≤ 8388608) ∧ (0 : Rat) < 1 / 10 ∧ (0 : Int) ≤ 0 ∧ (2000 : Int) ≤ 2000 ∧
      ([(470, 1)] : List (Nat × Nat)).Pairwise (fun a b => a.1 < b.1) ∧ (∀ b ∈ [(470, 1)], b.1 ≤ 799) ∧
      0 < (([(470, 1)] : List (Nat × Nat)).map Prod.snd).sum ∧
      (let tenths := 100 * Real.logb 10
          (([(470, 1)].map fun b : Nat × Nat => (b.2 : ℝ) * (10 : ℝ) ^ (((b.1 : ℝ) - 700) / 100)).sum / (1 : Nat)) +
          1 / 2
       tenths = -230 + 1 / 2 ∧ (∀ t : ℤ, (2 : ℝ) ^ (-30000 : ℤ) ≤ |tenths - t|) ∧
         [(470, 1)].filter (fun b : Nat × Nat => ⌊tenths⌋ - 100 ≤ (b.1 : Int) - 700) = [(470, 1)]) := by
  refine ⟨⟨by norm_num, by norm_num⟩, by norm_num, le_refl _, le_refl _, by decide, by decide, by decide, ?_⟩
  have value : 100 * Real.logb 10
      (([(470, 1)].map fun b : Nat × Nat => (b.2 : ℝ) * (10 : ℝ) ^ (((b.1 : ℝ) - 700) / 100)).sum / (1 : Nat)) +
      1 / 2 = -230 + 1 / 2 := by
    simp only [List.map_cons, List.map_nil, List.sum_cons, List.sum_nil, Nat.cast_one, one_mul, add_zero, div_one]
    rw [Real.logb_rpow (by norm_num) (by norm_num)]
    norm_num
  have tiny : (2 : ℝ) ^ (-30000 : ℤ) ≤ 1 / 2 := by
    have := zpow_le_zpow_right₀ (by norm_num : (1 : ℝ) ≤ 2) (by norm_num : (-30000 : ℤ) ≤ -1)
    simpa using this
  have down : ⌊(-230 + 1 / 2 : ℝ)⌋ = -230 := by norm_num [Int.floor_eq_iff]
  refine ⟨value, fun t => ?_, ?_⟩
  · rw [value]
    refine le_trans tiny ?_
    rcases le_or_gt t (-230) with h | h
    · have : (t : ℝ) ≤ -230 := by exact_mod_cast h
      exact le_trans (by linarith) (le_abs_self _)
    · have : (-229 : ℝ) ≤ t := by exact_mod_cast h
      exact le_trans (by linarith) (neg_le_abs _)
  · simp only [value, down]
    decide

/-- A part on which everything is left that the rules bring about at once: a checker whose run is complete and one
with 8 errors, SILENCE of programme 0 to be set, which asks for BACKUP, UNLOCK of port 1 to be cleared, the return of
programme 1, and the given grant notices, programme 2 being the given one. -/
def leftUndone (x : Programme) (notices : List GrantNotice) (l : Link) : Device :=
  { lab with
    time := { lab.time with boundary := .taken }
    progs := ((lab.progs.set 0 (returning { Context.reset with backupHealthy := true })).set 1
      (returning { Context.reset with selection := .backup, selectedBy := .auto, returnDue := true })).set 2 x
    pool := { lab.pool with notices := notices }
    alarms := (late.alarms.put (.unlock 1)
      { AlarmRecord.reset with active := true, latch := true, clearTimer := 10, expiry := .clear })
    checkers := ⟨{ Checker.reset with state := .hunt, watched := some (0, 0), correctRun := 48 },
      { Checker.reset with state := .sync, watched := some (0, 1), window := List.replicate 8 true }⟩
    link := l }

/-- A link with the reports of the two programmes that ask, formed at the sub-block end just past. -/
def reportedLink : Link :=
  { lab.link with
    slots := ⟨some { someReport with prog := 0, h := 0 }, some { someReport with prog := 1, h := 0 }, none, none, none,
      none, none, none⟩ }

/-- What is left undone, and with it no grant notice, one during a change, one to be acted on and one of a programme
that is not ACTIVE; and the line busy, and idle with a reply, a notice, a report and nothing waiting. -/
theorem witness_CommandsFindNothingLeftUndone :
    (Instr.ident 7).catchesUp = true ∧ (Instr.ident 7).wellFormed = true ∧ lab.finished ∧ lab.calm ∧
      (∀ x ∈ [fading, withMember .active, withMember .standby], ∀ notices ∈ [[], [⟨2, [1], false⟩]],
        let d := leftUndone x notices reportedLink
        d.marksSound ∧ d.pool.notices = notices ∧ d.pool.queue = [] ∧ d.link.queue = [] ∧ d.linkServed ∧
          d.catchUp ≠ d) ∧
      (let d := leftUndone fading [] reportedLink
       ((d.checkers.get 0).state = .hunt ∧ 48 ≤ (d.checkers.get 0).correctRun ∧ (d.checkers.get 1).state = .sync ∧
         8 ≤ (d.checkers.get 1).window.count true) ∧
       ((d.alarms.get (qualifiedAlarm .silence 0)).expiry = .set ∧
         (d.alarms.get (qualifiedAlarm .unlock 1)).expiry = .clear) ∧
       ((d.prog 0).record.state = .active ∧ (d.prog 0).record.settings.changeoverMode ≠ .manual ∧
         (d.prog 0).ctx.selection = .primary ∧ (d.prog 0).ctx.state = .idle ∧ (d.prog 0).ctx.backupHealthy = true) ∧
       ((d.prog 1).ctx.returnDue = true ∧ (d.prog 1).record.state = .active ∧ (d.prog 1).ctx.state = .idle) ∧
       (d.prog 3).ctx.returnDue = false ∧ (d.prog 3).record.state ≠ .active ∧
       d.link.slots.get 0 = some { someReport with prog := 0, h := 0 } ∧ d.link.slots.get 7 = none ∧
       d.time.boundary = .taken ∧ d.time.h = 0) ∧
      (leftUndone fading [⟨2, [1], false⟩] reportedLink).changing 2 = true ∧
      ((leftUndone (withMember .active) [⟨2, [1], false⟩] reportedLink).changing 2 = false ∧
        (leftUndone (withMember .active) [⟨2, [1], false⟩] reportedLink).meets 2 .exact) ∧
      ((labLink (heldLink 1 0)).linkServed ∧ restarting.linkServed ∧
        (labLink (heldLink 0 0)).link.queue = [] ∧ (labLink (heldLink 0 0)).marksSound) ∧
      (let d := labLink { lab.link with replies := [okReply 0x81 0 []] }
       d.marksSound ∧ d.link.line = none ∧ d.link.restart ≠ .due ∧ d.link.replies = [okReply 0x81 0 []]) ∧
      ((leftUndone fading [] lab.link).link.replies = [] ∧ (leftUndone fading [] lab.link).finish.alarms.queue ≠ []) ∧
      (let d := labLink reportedLink
       d.marksSound ∧ d.link.replies = [] ∧ d.finish.alarms.queue = [] ∧
         d.finish.link.slots.get 0 = some { someReport with prog := 0, h := 0 }) ∧
      lab.marksSound ∧ lab.finish.alarms.queue = [] ∧ (∀ k : Ix8, lab.finish.link.slots.get k = none) := by
  refine ⟨rfl, rfl, lab_finished, calm_of (by decide +kernel), fun x hx notices hn => ?_, ?_, ?_,
    ⟨?_, meets_of (by decide +kernel)⟩, ⟨.inr (.inl ⟨rfl, rfl⟩), .inl rfl, ?_, marks_of (by decide +kernel)⟩,
    ⟨marks_of (by decide +kernel), ?_⟩, ?_, ⟨marks_of (by decide +kernel), ?_⟩, marks_of (by decide +kernel), ?_⟩
  · simp only [List.mem_cons, List.not_mem_nil, or_false] at hx hn
    obtain rfl | rfl | rfl := hx <;> obtain rfl | rfl := hn <;>
    exact ⟨marks_of (by decide +kernel), rfl, rfl, rfl, .inl rfl, by decide +kernel⟩
  all_goals decide +kernel

/-- The part after a power-on reset with one command waiting, and the state that its step gives. -/
def oneWaiting : State := { pending := [.interByteTimeout], dev := Device.reset }

theorem witness_StepKeeps_next : step oneWaiting = .next { pending := [], dev := Device.reset } := rfl

theorem witness_StepKeepsPinAndLatches :
    oneWaiting.dev.pinSound ∧ oneWaiting.dev.latchSound ∧ oneWaiting.dev.marksSound ∧ oneWaiting.dev.opensSound := by
  refine ⟨by unfold Device.pinSound; decide +kernel, fun a h => ?_, marks_of (by decide +kernel),
    by unfold Device.opensSound; decide +kernel⟩
  have none_active : ∀ a ∈ allAlarms, (oneWaiting.dev.alarms.get a).active = false := by decide +kernel
  rw [none_active a (mem_allAlarms a)] at h
  cases h

theorem witness_StepKeepsRefLossInHolding : oneWaiting.dev.refLossSound := by
  unfold Device.refLossSound
  decide +kernel

/-- A link at rest, one that an executed reply holds with frames waiting, and one whose RESTART reply is on the
line. -/
theorem witness_StepKeepsTheLinkBounds :
    (oneWaiting.dev.linkSound ∧ oneWaiting.dev.linkServed ∧ oneWaiting.dev.restartSound) ∧
      ((labLink (heldLink 4 4)).linkSound ∧ (labLink (heldLink 4 4)).linkServed ∧
        (labLink (heldLink 4 4)).restartSound) ∧
      (let d := labLink { lab.link with line := some restartLine, restart := .awaiting, queue := [[0x01, 0]] }
       d.linkServed ∧ d.restartSound) := by
  refine ⟨⟨?_, .inl rfl, by rintro ⟨⟩⟩, ⟨?_, .inr (.inl ⟨rfl, rfl⟩), by rintro ⟨⟩⟩,
    .inr (.inl ⟨rfl, rfl⟩), fun _ => .inl ⟨restartLine, rfl, rfl⟩⟩ <;>
  · unfold Device.linkSound
    decide +kernel

theorem witness_StepKeepsTheBlocks : oneWaiting.dev.blocksSound ∧ lab.blocksSound := by
  unfold Device.blocksSound
  exact ⟨⟨List.Perm.refl [], fun _ => rfl⟩, ⟨List.Perm.refl _, fun h => absurd h (by decide)⟩⟩

theorem witness_StepKeepsTheMemoryForm : oneWaiting.dev.memorySound := rfl

end Sys2Proof.Tests
end

section
/-!
SUPPORT. LRESET (R121): what the request answers and changes in each of its cases, and what a cleared histogram
reads as (R120).
-/

namespace Sys2Proof.Machine

/-! ## A cleared histogram (R120) -/

/-- With no bin listed, every bin counts 0. -/
@[simp] theorem binCount_nil (k : Nat) : binCount [] k = 0 := rfl

@[simp] theorem Meter.clearHistogram_bins (t : Meter) : t.clearHistogram.bins = [] := rfl
@[simp] theorem Meter.clearHistogram_belowGate (t : Meter) : t.clearHistogram.belowGate = 0 := rfl
@[simp] theorem Meter.clearHistogram_integrated (t : Meter) : t.clearHistogram.integrated = none := rfl

/-- Clearing the histogram changes the bins, the below-gate count and I alone. -/
theorem Meter.clearHistogram_frame (t : Meter) :
    t.clearHistogram =
      { t with
        bins := t.clearHistogram.bins, belowGate := t.clearHistogram.belowGate
        integrated := t.clearHistogram.integrated } := rfl

/-! ## The three cases of LRESET (R121) -/

variable {d : Device} {n : Ix8}

/-- The test of ACTIVE reads the state of the record. -/
theorem Device.active_iff : d.active n = true ↔ (d.prog n).record.state = .active := by
  simp [Device.active, Device.inState]

/-- Changing one meter replaces that meter in the table of programmes and nothing else of the part. -/
theorem Device.modMeter_eq_set (d : Device) (n : Ix8) (f : Meter → Meter) :
    d.modMeter n f =
      { d with progs := d.progs.set n { d.prog n with meter := ((d.modMeter n f).prog n).meter } } := by
  rw [Device.prog_modMeter_self]
  rfl

theorem Device.requestLreset_badValue {x : Byte} (h : 7 < x.toNat) :
    d.requestLreset x = (d, .refused .badValue) := by
  simp only [Device.requestLreset, ix8?_none h]

/-- A programme's number leaves the test of ACTIVE to decide. -/
theorem Device.requestLreset_byteOf (d : Device) (n : Ix8) :
    d.requestLreset (byteOf n.val) =
      if d.active n then (d.modMeter n Meter.clearHistogram, .ok [byteOf n.val])
      else (d, .refused .wrongState) := by
  simp only [Device.requestLreset, ix8?_byteOf]

theorem Device.requestLreset_wrongState (h : (d.prog n).record.state ≠ .active) :
    d.requestLreset (byteOf n.val) = (d, .refused .wrongState) := by
  rw [Device.requestLreset_byteOf, if_neg (mt Device.active_iff.1 h)]

theorem Device.requestLreset_ok (h : (d.prog n).record.state = .active) :
    d.requestLreset (byteOf n.val) = (d.modMeter n Meter.clearHistogram, .ok [byteOf n.val]) := by
  rw [Device.requestLreset_byteOf, if_pos (Device.active_iff.2 h)]

/-- Settles O25: by the number named, and for a programme's number by the state of its record. -/
theorem lresetIsTakenInActive : Obligations.LresetIsTakenInActive := by
  unfold Obligations.LresetIsTakenInActive
  refine ⟨fun d x outside => Device.requestLreset_badValue outside, fun d n =>
    ⟨fun inactive => Device.requestLreset_wrongState inactive, fun active => ?_⟩⟩
  have meter : ((d.modMeter n Meter.clearHistogram).prog n).meter = (d.prog n).meter.clearHistogram := by
    rw [Device.prog_modMeter_self]
  refine ⟨d.modMeter n Meter.clearHistogram, Device.requestLreset_ok active, Device.modMeter_eq_set d n _, ?_⟩
  rw [meter]
  exact ⟨fun k => by simp, by simp, by simp, Meter.clearHistogram_frame _⟩

end Sys2Proof.Machine
end

section
/-!
SUPPORT. ROUTEQ (R141): tables of eight and of four listed by their indices, and the bytes of the map in that order.
-/

namespace Sys2Proof.Machine

/-! ## Tables listed by their indices -/

theorem Oct.toList_eq_map_get {α : Type} (o : Oct α) : o.toList = eight.map o.get := rfl

theorem Quad.toList_eq_map_get {α : Type} (q : Quad α) : q.toList = four.map q.get := rfl

/-! ## The map in the ROUTEQ reply (R141) -/

/-- The order of R141: lane q from 0 to 7 and, within each lane, slot s from 0 to 3. -/
theorem Device.routeqFields_eq (d : Device) :
    d.routeqFields = eight.flatMap fun q => four.flatMap fun k => entryBytes ((d.map.get q).get k) := by
  simp only [Device.routeqFields, Oct.toList_eq_map_get, Quad.toList_eq_map_get, List.flatMap_map]

theorem Device.carryOut_routeq (d : Device) : d.carryOut .routeq = (d, .ok d.routeqFields) := rfl

/-- Settles O11: the reply is the map in the order of its indices, and each entry is written by its kind. -/
theorem routeqGivesTheMap : Obligations.RouteqGivesTheMap := by
  unfold Obligations.RouteqGivesTheMap
  refine ⟨fun tag => rfl, fun d => ?_⟩
  rw [Device.carryOut_routeq, Device.routeqFields_eq]
  refine congrArg (fun fields => (d, Answer.ok fields))
    (List.flatMap_congr fun q _ => List.flatMap_congr fun k _ => ?_)
  cases (d.map.get q).get k with
  | silence => rfl
  | member n m => rfl
  | test n => rfl

end Sys2Proof.Machine
end

section
/-!
SUPPORT. Selections (R157): the kinds and the instances of a kind stand in the order of their numbers, so a code is the
place of what it names, and what a pair of codes selects.
-/

namespace Sys2Proof.Machine

/-! ## Lists in the order of their numbers -/

/-- In a list numbered by `f` from 0 up, the place of an item is its number. -/
theorem getElem?_iff_of_map_eq_range {α : Type} {l : List α} {f : α → Nat} (numbered : l.map f = List.range l.length)
    {i : Nat} {a : α} : l[i]? = some a ↔ a ∈ l ∧ f a = i := by
  have number_eq {j : Nat} (at_j : l[j]? = some a) : f a = j := by
    obtain ⟨inside, _⟩ := List.getElem?_eq_some_iff.1 at_j
    have read : (l.map f)[j]? = some (f a) := by rw [List.getElem?_map, at_j, Option.map_some]
    rw [numbered, List.getElem?_range inside] at read
    exact (Option.some.inj read).symm
  constructor
  · exact fun at_i => ⟨List.mem_of_getElem? at_i, number_eq at_i⟩
  · rintro ⟨listed, rfl⟩
    obtain ⟨j, at_j⟩ := List.mem_iff_getElem?.1 listed
    rwa [number_eq at_j]

/-- A list numbered from 0 up holds nothing twice. -/
theorem nodup_of_map_eq_range {α : Type} {l : List α} {f : α → Nat} (numbered : l.map f = List.range l.length) :
    l.Nodup :=
  List.Nodup.of_map f (numbered ▸ List.nodup_range)

/-! ## Kinds and their codes (Table 9-1) -/

theorem mem_allKinds (k : Kind) : k ∈ allKinds := by cases k <;> decide

theorem allKinds_map_code : allKinds.map Kind.code = List.range allKinds.length := rfl

theorem allKinds_getElem?_iff {i : Nat} {k : Kind} : allKinds[i]? = some k ↔ k.code = i := by
  rw [getElem?_iff_of_map_eq_range allKinds_map_code, and_iff_right (mem_allKinds k)]

theorem Kind.code_lt (k : Kind) : k.code < 11 := by cases k <;> decide

/-! ## Instances and their numbers (R145) -/

theorem Alarm.number_lt (a : Alarm) : a.number < 8 := by
  cases a with
  | refLoss => decide
  | checkLoss c => exact c.isLt.trans (by decide)
  | _ p => exact p.isLt

theorem Kind.instances_map_number (k : Kind) : k.instances.map Alarm.number = List.range k.instances.length := by
  cases k <;> rfl

theorem Kind.instances_eq_filter (k : Kind) : k.instances = allAlarms.filter fun a => a.kind = k := by
  cases k <;> rfl

theorem Kind.mem_instances {k : Kind} {a : Alarm} : a ∈ k.instances ↔ a.kind = k := by
  simp [Kind.instances_eq_filter, mem_allAlarms]

theorem Kind.instances_getElem?_iff {k : Kind} {i : Nat} {a : Alarm} :
    k.instances[i]? = some a ↔ a.kind = k ∧ a.number = i := by
  rw [getElem?_iff_of_map_eq_range k.instances_map_number, Kind.mem_instances]

theorem Kind.exists_instance (k : Kind) : ∃ a : Alarm, a.kind = k := by
  have nonempty : k.instances ≠ [] := by cases k <;> decide
  obtain ⟨a, listed⟩ := List.exists_mem_of_ne_nil _ nonempty
  exact ⟨a, Kind.mem_instances.1 listed⟩

theorem allAlarms_nodup : allAlarms.Nodup := by
  refine List.nodup_flatMap.2 ⟨fun k _ => nodup_of_map_eq_range k.instances_map_number, ?_⟩
  refine (nodup_of_map_eq_range allKinds_map_code).imp fun {j k} differ => ?_
  refine List.disjoint_left.2 fun a in_j in_k => differ ?_
  rw [← Kind.mem_instances.1 in_j, Kind.mem_instances.1 in_k]

/-! ## What a pair of codes selects (R157) -/

theorem byteOf_toNat {n : Nat} (h : n < 256) : (byteOf n).toNat = n := Nat.mod_eq_of_lt h

theorem byteOf_ne_ff {n : Nat} (h : n < 255) : byteOf n ≠ 0xFF :=
  (ne_of_toNat_lt (by rw [byteOf_toNat (by omega)]; exact h)).symm

theorem byteOf_code_toNat (k : Kind) : (byteOf k.code).toNat = k.code := byteOf_toNat (k.code_lt.trans (by decide))

/-- With the code of a kind, the number alone decides. -/
theorem selectAlarms_of_code {kind : Byte} {k : Kind} (code : kind.toNat = k.code) (number : Byte) :
    selectAlarms kind number =
      if number = 0xFF then some k.instances else k.instances[number.toNat]?.map fun a => [a] := by
  have kind_ne : kind ≠ 0xFF := (ne_of_toNat_lt (by rw [code]; exact k.code_lt.trans (by decide))).symm
  rw [selectAlarms, if_neg kind_ne, allKinds_getElem?_iff.2 code.symm]

theorem selectAlarms_one (a : Alarm) : selectAlarms (byteOf a.kind.code) (byteOf a.number) = some [a] := by
  rw [selectAlarms_of_code (byteOf_code_toNat a.kind), if_neg (byteOf_ne_ff (a.number_lt.trans (by decide))),
    byteOf_toNat (a.number_lt.trans (by decide)), Kind.instances_getElem?_iff.2 ⟨rfl, rfl⟩, Option.map_some]

theorem selectAlarms_kind (k : Kind) :
    selectAlarms (byteOf k.code) 0xFF = some (allAlarms.filter fun a => a.kind = k) := by
  rw [selectAlarms_of_code (byteOf_code_toNat k), if_pos rfl, Kind.instances_eq_filter]

/-- A pair of codes outside the three combinations of R157 selects nothing. -/
theorem selectAlarms_eq_none {kind number : Byte}
    (unnamed : ∀ a : Alarm, ¬ (kind.toNat = a.kind.code ∧ (number.toNat = a.number ∨ number = 0xFF)))
    (not_all : ¬ (kind = 0xFF ∧ number = 0xFF)) : selectAlarms kind number = none := by
  by_cases kind_ff : kind = 0xFF
  · rw [selectAlarms, if_pos kind_ff, if_neg fun number_ff => not_all ⟨kind_ff, number_ff⟩]
  cases found : allKinds[kind.toNat]? with
  | none => rw [selectAlarms, if_neg kind_ff, found]
  | some k =>
    have code : kind.toNat = k.code := (allKinds_getElem?_iff.1 found).symm
    have number_ne : number ≠ 0xFF := fun number_ff => by
      obtain ⟨a, rfl⟩ := k.exists_instance
      exact unnamed a ⟨code, .inr number_ff⟩
    have beyond : k.instances[number.toNat]? = none := Option.eq_none_iff_forall_ne_some.2 fun a listed => by
      obtain ⟨rfl, number_eq⟩ := Kind.instances_getElem?_iff.1 listed
      exact unnamed a ⟨code, .inl number_eq.symm⟩
    rw [selectAlarms_of_code code, if_neg number_ne, beyond, Option.map_none]

/-! ## AQUERY and ACLEAR of a pair that selects nothing -/

variable {d : Device} {kind number : Byte}

theorem Device.carryOut_aquery_badValue (h : selectAlarms kind number = none) :
    d.carryOut (.aquery kind number) = (d, .refused .badValue) := by
  simp only [Device.carryOut, Device.requestAquery, h]

theorem Device.carryOut_aclear_badValue (h : selectAlarms kind number = none) :
    d.carryOut (.aclear kind number) = (d, .refused .badValue) := by
  simp only [Device.carryOut, Device.requestAclear, h]

/-- Settles O12: one clause for each combination of R157, the last for every other pair. -/
theorem selectionsNameInstances : Obligations.SelectionsNameInstances := by
  unfold Obligations.SelectionsNameInstances
  refine ⟨selectAlarms_one, selectAlarms_kind, ⟨rfl, rfl, allAlarms_nodup, mem_allAlarms⟩, ?_⟩
  intro d kind number unnamed not_all
  have nothing := selectAlarms_eq_none unnamed not_all
  exact ⟨Device.carryOut_aquery_badValue nothing, Device.carryOut_aclear_badValue nothing⟩

end Sys2Proof.Machine
end

section
/-!
SUPPORT. What a command keeps of a part: the invariants of `State.Sound` that no frame on the control line can break,
as one relation that composes, with a lemma for every operation of the alarm unit.
-/

namespace Sys2Proof.Machine

/-! ## The alarm unit -/

/-- The expiry mark of a record is such as the rules leave it (R148, log 24). -/
def AlarmRecord.markSound (r : AlarmRecord) (a : Alarm) : Prop :=
  r.expiry = .none ∨ ((∃ k i, a = qualifiedAlarm k i) ∧ (r.expiry = .set → r.active = false) ∧
    (r.expiry = .clear → r.active = true))

/-- An operation of the alarm unit keeps the pin judged, every active condition latched and the marks sound, and
leaves REF_LOSS as active as it was. -/
structure AlarmUnit.Keeps (u v : AlarmUnit) : Prop where
  pin : u.pin = pinLevel u.records u.masks → v.pin = pinLevel v.records v.masks
  latch : (∀ a, (u.get a).active = true → (u.get a).latch = true) →
    ∀ a, (v.get a).active = true → (v.get a).latch = true
  marks : (∀ a, (u.get a).markSound a) → ∀ a, (v.get a).markSound a
  refLoss : (v.get .refLoss).active = (u.get .refLoss).active

namespace AlarmUnit.Keeps

variable {u v w : AlarmUnit}

theorem refl (u : AlarmUnit) : u.Keeps u := ⟨id, id, id, rfl⟩

theorem trans (h : u.Keeps v) (k : v.Keeps w) : u.Keeps w :=
  ⟨k.pin ∘ h.pin, k.latch ∘ h.latch, k.marks ∘ h.marks, k.refLoss.trans h.refLoss⟩

theorem foldl {α : Type} {f : AlarmUnit → α → AlarmUnit} (l : List α) (h : ∀ a ∈ l, ∀ u : AlarmUnit, u.Keeps (f u a))
    (u : AlarmUnit) : u.Keeps (l.foldl f u) := by
  induction l generalizing u with
  | nil => exact refl u
  | cons a l ih => exact (h a (by simp) u).trans (ih (fun b hb => h b (by simp [hb])) _)

/-- An operation on one record keeps all this where the new record does. -/
theorem ofGet {a : Alarm} {r : AlarmRecord}
    (pin : u.pin = pinLevel u.records u.masks → v.pin = pinLevel v.records v.masks)
    (get : ∀ b, v.get b = if b = a then r else u.get b)
    (latch : ((u.get a).active = true → (u.get a).latch = true) → r.active = true → r.latch = true)
    (marks : (u.get a).markSound a → r.markSound a)
    (refLoss : a = .refLoss → r.active = (u.get a).active) : u.Keeps v where
  pin := pin
  latch s b := by
    rw [get b]
    split
    · exact latch (s a)
    · exact s b
  marks s b := by
    rw [get b]
    split
    · next e => exact e ▸ marks (s a)
    · exact s b
  refLoss := by
    rw [get]
    split
    · next e => rw [refLoss e.symm, e]
    · rfl

end AlarmUnit.Keeps

open AlarmUnit.Keeps in
section

variable (u : AlarmUnit) (now : BitVec 32) (a : Alarm)

/-- A record other than that of REF_LOSS replaced by a sound one keeps all of this. -/
theorem AlarmUnit.put_keeps {x : AlarmRecord} (h : a ≠ .refLoss)
    (latch : ((u.get a).active = true → (u.get a).latch = true) → x.active = true → x.latch = true)
    (marks : (u.get a).markSound a → x.markSound a) : u.Keeps (u.put a x) :=
  ofGet (fun _ => rfl) (fun b => u.put_get a b x) latch marks fun e => absurd e h

/-- So does one of the same activity, latched where the old one was, for every record. -/
theorem AlarmUnit.put_same_keeps {x : AlarmRecord}
    (active : x.active = (u.get a).active) (latch : x.active = true → (u.get a).latch = true → x.latch = true)
    (expiry : x.expiry = .none ∨ x.expiry = (u.get a).expiry) : u.Keeps (u.put a x) := by
  refine ofGet (a := a) (r := x) (fun _ => rfl) (fun b => u.put_get a b x) (fun s y => latch y (s (active ▸ y)))
    (fun s => ?_) fun _ => active
  rcases expiry with e | e
  · exact .inl e
  · rwa [AlarmRecord.markSound, e, active]

theorem AlarmUnit.notify_keeps : u.Keeps (u.notify a) :=
  ofGet (u.notify_pin a) (fun b => u.notify_get a b) id id fun _ => rfl

theorem AlarmUnit.dropNotice_keeps : u.Keeps (u.dropNotice a) :=
  ofGet (fun _ => rfl) (fun b => u.dropNotice_get a b) id id fun _ => rfl

theorem AlarmUnit.activate_keeps (h : a ≠ .refLoss) : u.Keeps (u.activate now a) := by
  simp only [AlarmUnit.activate]
  split
  · exact AlarmUnit.Keeps.refl u
  · exact (u.put_keeps a h (fun _ _ => rfl) fun _ => .inl rfl).trans (AlarmUnit.notify_keeps _ a)

theorem AlarmUnit.deactivate_keeps (h : a ≠ .refLoss) : u.Keeps (u.deactivate now a) := by
  simp only [AlarmUnit.deactivate]
  split
  · exact (u.put_keeps a h (fun _ y => by cases y) fun _ => .inl rfl).trans (AlarmUnit.notify_keeps _ a)
  · exact AlarmUnit.Keeps.refl u

theorem AlarmUnit.occur_keeps : u.Keeps (u.occur now a) :=
  ofGet (fun _ => u.occur_pin a now) (fun b => u.occur_get a b now) (fun _ _ => rfl) id fun _ => rfl

theorem AlarmUnit.force_keeps (h : a ≠ .refLoss) : u.Keeps (u.force now a) :=
  (u.deactivate_keeps now a h).trans (AlarmUnit.put_same_keeps _ a rfl (fun _ => id) (.inl rfl))

theorem AlarmUnit.wipe_keeps (h : a ≠ .refLoss) : u.Keeps (u.wipe a) :=
  ofGet (a := a) (fun _ => rfl) (fun b => u.wipe_get a b) (fun _ y => by cases y) (fun _ => .inl rfl) fun x => absurd x h

theorem AlarmUnit.zeroTimers_keeps : u.Keeps (u.zeroTimers a) :=
  AlarmUnit.put_same_keeps _ a rfl (fun _ => id) (.inl rfl)

theorem AlarmUnit.zeroCount_keeps : u.Keeps (u.zeroCount a) :=
  AlarmUnit.put_same_keeps _ a rfl (fun _ => id) (.inr rfl)

theorem AlarmUnit.clearLatch_keeps : u.Keeps (u.clearLatch a) := by
  simp only [AlarmUnit.clearLatch]
  split
  · exact AlarmUnit.Keeps.refl u
  · next e => exact AlarmUnit.put_same_keeps _ a rfl (fun y => absurd y e) (.inr rfl)

theorem AlarmRecord.qualify_active (r : AlarmRecord) (x y : Bool) (i j : Nat) :
    (r.qualify x y i j).active = r.active := by
  simp only [AlarmRecord.qualify]
  split <;> rfl

theorem AlarmRecord.qualify_latch (r : AlarmRecord) (x y : Bool) (i j : Nat) :
    (r.qualify x y i j).latch = r.latch := by
  simp only [AlarmRecord.qualify]
  split <;> rfl

/-- A judgement leaves a set mark on an inactive condition and a clear mark on an active one alone (R148). -/
theorem AlarmRecord.qualify_mark (r : AlarmRecord) (x y : Bool) (i j : Nat) :
    ((r.qualify x y i j).expiry = .set → r.active = false) ∧ ((r.qualify x y i j).expiry = .clear → r.active = true) := by
  have other : ∀ c : Bool, ∀ e f : Expiry, e ≠ f → f ≠ .none → (if c = true then e else .none) ≠ f := by
    intro c e f h k
    cases c
    exacts [k.symm, h]
  by_cases h : r.active = true
  · rw [AlarmRecord.qualify, if_pos h]
    exact ⟨fun e => absurd e (other _ _ _ (by decide) (by decide)), fun _ => h⟩
  · rw [AlarmRecord.qualify, if_neg h]
    exact ⟨fun _ => by simpa using h, fun e => absurd e (other _ _ _ (by decide) (by decide))⟩

theorem AlarmUnit.qualify_keeps (k : Qualified) (i : Ix8) (x y : Bool) (m n : Nat) :
    u.Keeps (u.qualify (qualifiedAlarm k i) x y m n) := by
  refine ofGet (fun _ => rfl) (fun b => u.qualify_get _ b x y m n) (fun s => ?_) (fun _ => .inr ⟨⟨k, i, rfl⟩, ?_⟩)
    fun e => ?_
  · rwa [AlarmRecord.qualify_active, AlarmRecord.qualify_latch]
  · rw [AlarmRecord.qualify_active]
    exact AlarmRecord.qualify_mark _ x y m n
  · cases k <;> cases e

theorem AlarmUnit.setMask_keeps (k : Kind) (m : Mask) : u.Keeps (u.setMask k m) := ⟨fun _ => rfl, id, id, rfl⟩

theorem AlarmUnit.mask_keeps (k : Kind) (m : Mask) : u.Keeps (u.mask k m) := by
  simp only [AlarmUnit.mask]
  split
  · exact u.setMask_keeps k m
  · exact (u.setMask_keeps k m).trans (foldl _ (fun a _ v => v.dropNotice_keeps a) _)

end

end Sys2Proof.Machine
end

section
/-!
SUPPORT. The blocks of the pool as a bag: what each operation of a line and of a grant moves from one place to another
(R74, R76, R83, R92).
-/

namespace Sys2Proof.Machine

/-! ## The blocks of a line, of a programme and of the part -/

/-- The blocks that a line's two lists hold. -/
def Line.bag (l : Line) : Multiset Nat := ↑(l.inUse ++ l.spare)

/-- The blocks that eight lines hold. -/
def linesBag (o : Oct Line) : Multiset Nat := ∑ m : Ix8, (o.get m).bag

/-- The blocks of the free list and of every line. -/
def Device.bag (d : Device) : Multiset Nat := ↑d.pool.free + ∑ n : Ix8, linesBag (d.prog n).delay.lines

theorem Line.bag_eq (l : Line) : l.bag = ↑l.inUse + ↑l.spare := (Multiset.coe_add _ _).symm

/-- A sum over a table with one place written: what the place held goes, and what it takes comes. -/
theorem sum_get_set {α : Type} (f : α → Multiset Nat) (o : Oct α) (i : Ix8) (a : α) :
    (∑ j : Ix8, f ((o.set i a).get j)) + f (o.get i) = (∑ j : Ix8, f (o.get j)) + f a := by
  have off (j : Ix8) (h : j ∈ Finset.univ.erase i) : f ((o.set i a).get j) = f (o.get j) := by
    rw [Oct.get_set_ne o a (Finset.ne_of_mem_erase h).symm]
  rw [← Finset.add_sum_erase _ _ (Finset.mem_univ i), ← Finset.add_sum_erase _ (fun j => f (o.get j)) (Finset.mem_univ i),
    Finset.sum_congr rfl off, Oct.get_set_self]
  ac_rfl

theorem linesBag_set (o : Oct Line) (m : Ix8) (l : Line) :
    linesBag (o.set m l) + (o.get m).bag = linesBag o + l.bag := sum_get_set Line.bag o m l

/-- Lists put one after another for the eight places hold what they hold together. -/
theorem coe_flatMap_eight (g : Ix8 → List Nat) : (↑(eight.flatMap g) : Multiset Nat) = ∑ i, (↑(g i) : Multiset Nat) := by
  have coe (l : List Ix8) : (↑(l.flatMap g) : Multiset Nat) = (l.map fun i => (↑(g i) : Multiset Nat)).sum := by
    induction l with
    | nil => rfl
    | cons i l ih => rw [List.flatMap_cons, ← Multiset.coe_add, ih, List.map_cons, List.sum_cons]
  rw [coe, Fin.sum_univ_def]
  rfl

/-- The blocks of all lines of a programme are its bag. -/
theorem Device.coe_allBlocks (d : Device) (n : Ix8) :
    (↑(d.allBlocks n) : Multiset Nat) = linesBag (d.prog n).delay.lines := by
  rw [Device.allBlocks, Oct.toList_eq_map_get, List.flatMap_map, coe_flatMap_eight]
  rfl

/-- The lists of the blocks, put one after another, hold the bag. -/
theorem Device.coe_blocks (d : Device) : (↑d.blocks : Multiset Nat) = d.bag := by
  rw [Device.blocks, ← Multiset.coe_add, coe_flatMap_eight, Device.bag]
  simp only [Device.coe_allBlocks]

/-- The bag is the P blocks, and there is none in CONFIG, exactly in a part with sound blocks. -/
theorem Device.blocksSound_iff (d : Device) :
    d.blocksSound ↔ d.bag = ↑(List.range d.pool.size) ∧ (d.link.part = .config → d.pool.size = 0) := by
  rw [Device.blocksSound, ← Multiset.coe_eq_coe, d.coe_blocks]

/-- A programme changed: its old lines' blocks go, and the new ones' come. -/
theorem Device.bag_modProg (d : Device) (n : Ix8) (f : Programme → Programme) :
    (d.modProg n f).bag + linesBag (d.prog n).delay.lines = d.bag + linesBag (f (d.prog n)).delay.lines := by
  have h := sum_get_set (fun x => linesBag x.delay.lines) d.progs n (f (d.progs.get n))
  simp only [Device.bag, Device.prog, Device.modProg, Oct.modify, add_assoc] at h ⊢
  rw [h]

/-- So for a programme's delay engine state. -/
theorem Device.bag_modDelay (d : Device) (n : Ix8) (f : Delay → Delay) :
    (d.modDelay n f).bag + linesBag (d.prog n).delay.lines = d.bag + linesBag (f (d.prog n).delay).lines :=
  d.bag_modProg n _

/-- So for one line. -/
theorem Device.bag_modLine (d : Device) (n m : Ix8) (f : Line → Line) :
    (d.modLine n m f).bag + (d.line n m).bag = d.bag + (f (d.line n m)).bag := by
  have h := d.bag_modDelay n fun x => { x with lines := x.lines.modify m f }
  have k := linesBag_set (d.prog n).delay.lines m (f (d.line n m))
  refine add_right_cancel (b := linesBag (d.prog n).delay.lines) ?_
  calc (d.modLine n m f).bag + (d.line n m).bag + linesBag (d.prog n).delay.lines
      = (d.modLine n m f).bag + linesBag (d.prog n).delay.lines + (d.line n m).bag := by ac_rfl
    _ = d.bag + (linesBag ((d.prog n).delay.lines.modify m f) + (d.line n m).bag) := by
        rw [← add_assoc]; exact congrArg (· + _) h
    _ = d.bag + (linesBag (d.prog n).delay.lines + (f (d.line n m)).bag) := congrArg (d.bag + ·) k
    _ = d.bag + (f (d.line n m)).bag + linesBag (d.prog n).delay.lines := by ac_rfl

/-! ## What a line does with its blocks (R92) -/

/-- Judging the emptied blocks keeps each of them or hands it back. -/
theorem Line.judgeEmptied_bag (l : Line) (emptied : List Nat) :
    (l.judgeEmptied emptied).1.bag + ↑(l.judgeEmptied emptied).2 = l.bag + ↑emptied := by
  induction emptied generalizing l with
  | nil => rfl
  | cons b rest ih =>
    unfold Line.judgeEmptied
    split
    · have h := ih l
      simp only [← Multiset.cons_coe, Multiset.add_cons, h]
    · rw [ih]
      simp only [Line.bag, ← Multiset.coe_add, ← Multiset.cons_coe, Multiset.coe_nil, Multiset.add_cons,
        Multiset.cons_add, add_zero]

theorem Line.removeHead_bag (l : Line) (c : Nat) : (l.removeHead c).1.bag + ↑(l.removeHead c).2 = l.bag := by
  simp only [Line.removeHead, Line.bag, ← Multiset.coe_add]
  generalize (if l.d - c = 0 then l.inUse.length else (l.headPos + c) / 1024) = k
  calc (↑(l.inUse.drop k) + ↑l.spare + ↑(l.inUse.take k) : Multiset Nat)
      = ↑(l.inUse.take k) + ↑(l.inUse.drop k) + ↑l.spare := by ac_rfl
    _ = ↑l.inUse + ↑l.spare := by rw [Multiset.coe_add, List.take_append_drop]

theorem Line.deliverOne_bag (l : Line) : l.deliverOne.1.bag + ↑l.deliverOne.2 = l.bag :=
  (Line.judgeEmptied_bag _ _).trans (l.removeHead_bag 1)

/-- Spares dropped and handed back. -/
theorem Line.dropSpare_bag (l : Line) (k : Nat) :
    ({ l with spare := l.spare.drop k } : Line).bag + ↑(l.spare.take k) = l.bag := by
  simp only [Line.bag, ← Multiset.coe_add]
  rw [add_assoc, add_comm (↑(l.spare.drop k) : Multiset Nat), Multiset.coe_add, List.take_append_drop]

theorem Line.discard_bag (l : Line) (c : Nat) : (l.discard c).1.bag + ↑(l.discard c).2 = l.bag := by
  have h := (Line.judgeEmptied_bag (l.removeHead c).1 (l.removeHead c).2).trans (l.removeHead_bag c)
  have k := ((l.removeHead c).1.judgeEmptied (l.removeHead c).2).1.dropSpare_bag
    ((l.removeHead c).1.judgeEmptied (l.removeHead c).2).1.excess
  rw [← h, ← k]
  simp only [Line.discard, ← Multiset.coe_add]
  simp only [Line.bag]
  ac_rfl

theorem Line.slewAction_bag (l : Line) : l.slewAction.1.bag + ↑l.slewAction.2 = l.bag := by
  unfold Line.slewAction
  simp only [Line.bag]
  split
  · exact l.discard_bag 1
  · exact add_zero _

/-- A sample appended takes a spare into use where it needs one. -/
theorem Line.append_bag (l : Line) (mem : DelayMemory) (x : Sample) : (l.append mem x).1.bag = l.bag := by
  unfold Line.append Line.tailPlace
  simp only
  cases l.inUse[(l.headPos + l.d) / 1024]? with
  | some b => rfl
  | none =>
    cases h : l.spare with
    | nil => rfl
    | cons b rest => simp only [Line.bag, h, List.append_assoc, List.singleton_append]

/-- One house sample of a line keeps its blocks or hands them back. -/
theorem Line.step_bag (l : Line) (mem : DelayMemory) (h : HouseIndex) (x : Sample) (w : LineWork) :
    (l.step mem h x w).line.bag + ↑(l.step mem h x w).back = l.bag := by
  have a := Line.append_bag { l with headIndex := h - BitVec.ofNat 48 l.d } mem x
  unfold Line.step
  simp only
  split
  · exact add_zero _
  · cases w with
    | normal => exact (Line.deliverOne_bag _).trans a
    | repeatHead => simpa [Line.bag] using a
    | frozen => simpa [Line.bag] using a

theorem Line.settle_bag (l : Line) (target : Nat) (short : Bool) : (l.settle target short).bag = l.bag := by
  unfold Line.settle
  split <;> rfl

theorem Line.startSlew_bag (l : Line) : l.startSlew.bag = l.bag := by
  unfold Line.startSlew
  split_ifs <;> rfl

theorem Delay.advance_bag (x : Delay) : linesBag x.advance.lines = linesBag x.lines := by
  refine Finset.sum_congr rfl fun m _ => ?_
  simp only [Delay.advance, Oct.get_map]
  split <;> rfl

/-! ## Grants (R83) -/

/-- The sharing of a grant gives the blocks to the lines or leaves them. -/
theorem shareOut_bag (needs : List (Ix8 × Nat)) (blocks : List Nat) (lines : Oct Line) :
    linesBag (shareOut needs blocks lines).lines + ↑(shareOut needs blocks lines).left = linesBag lines + ↑blocks := by
  induction needs generalizing blocks lines with
  | nil => rfl
  | cons x needs ih =>
    simp only [shareOut]
    rw [ih]
    generalize x.2 - (lines.get x.1).held = k
    refine add_right_cancel (b := (lines.get x.1).bag) ?_
    rw [add_right_comm, linesBag_set, Line.bag_eq, Line.bag_eq, ← Multiset.coe_add]
    calc linesBag lines + (↑(lines.get x.1).inUse + (↑(lines.get x.1).spare + ↑(blocks.take k))) + ↑(blocks.drop k)
        = linesBag lines + (↑(blocks.take k) + ↑(blocks.drop k)) +
            (↑(lines.get x.1).inUse + ↑(lines.get x.1).spare) := by ac_rfl
      _ = linesBag lines + ↑blocks + (↑(lines.get x.1).inUse + ↑(lines.get x.1).spare) := by
          rw [Multiset.coe_add, List.take_append_drop]

/-- A grant moves blocks from the free list to the lines. -/
theorem Device.grantHead_bag (d : Device) (own : Option Ix8) (e : PoolEntry) : (d.grantHead own e).bag = d.bag := by
  have h := d.bag_modDelay e.prog fun x =>
    { x with lines := (shareOut (d.needList e.prog) (d.pool.free.take e.count) (d.prog e.prog).delay.lines).lines }
  have k := shareOut_bag (d.needList e.prog) (d.pool.free.take e.count) (d.prog e.prog).delay.lines
  simp only [Device.bag, Device.modDelay_pool] at h
  simp only [Device.bag, Device.grantHead, Device.modPool_pool, Device.modDelay_pool, Device.prog_modPool,
    ← Multiset.coe_add]
  generalize (∑ n, linesBag ((Device.modDelay d e.prog _).prog n).delay.lines) = now at h ⊢
  generalize (∑ n, linesBag (d.prog n).delay.lines) = before at h ⊢
  generalize linesBag (d.prog e.prog).delay.lines = old at h k
  generalize shareOut _ _ _ = r at h k ⊢
  have split : (↑d.pool.free : Multiset Nat) = ↑(d.pool.free.take e.count) + ↑(d.pool.free.drop e.count) := by
    rw [Multiset.coe_add, List.take_append_drop]
  rw [split] at h ⊢
  refine Multiset.ext.2 fun b => ?_
  have hb := congrArg (Multiset.count b) h
  have kb := congrArg (Multiset.count b) k
  simp only [Multiset.count_add] at hb kb ⊢
  omega

end Sys2Proof.Machine
end

section
/-!
SUPPORT. What the operations of the part keep of its invariants: the pin, the latches, the marks, REF_LOSS, the blocks
and the delay memory, first for the tables' own operations and then for the pool manager and the delay engine.
-/

namespace Sys2Proof.Machine

/-! ## The relation -/

/-- A change of a changeover context keeps its two marks sound (R65, R70, logs 24 and 48). -/
structure Context.Keeps (c k : Context) : Prop where
  returnDue : (c.returnDue = true → c.selection = .backup) → k.returnDue = true → k.selection = .backup
  startDue : (c.startDue = true → c.state = .pending) → k.startDue = true → k.state = .pending

theorem Context.Keeps.refl (c : Context) : c.Keeps c := ⟨id, id⟩

/-- A change of the part keeps the invariants that are not about frames on the control line. -/
structure Device.Keeps (d e : Device) : Prop where
  pin : d.pinSound → e.pinSound
  latch : d.latchSound → e.latchSound
  marks : d.marksSound → e.marksSound
  opens : d.opensSound → e.opensSound
  refLoss : d.refLossSound → e.refLossSound
  blocks : d.blocksSound → e.blocksSound
  memory : d.memorySound → e.memorySound

namespace Device.Keeps

variable {d e f : Device}

theorem refl (d : Device) : d.Keeps d := ⟨id, id, id, id, id, id, id⟩

theorem trans (h : d.Keeps e) (k : e.Keeps f) : d.Keeps f :=
  ⟨k.pin ∘ h.pin, k.latch ∘ h.latch, k.marks ∘ h.marks, k.opens ∘ h.opens, k.refLoss ∘ h.refLoss,
    k.blocks ∘ h.blocks, k.memory ∘ h.memory⟩

theorem foldl {α : Type} {g : Device → α → Device} (l : List α) (h : ∀ a, ∀ d : Device, d.Keeps (g d a))
    (d : Device) : d.Keeps (l.foldl g d) := by
  induction l generalizing d with
  | nil => exact refl d
  | cons a l ih => exact (h a d).trans (ih _)

theorem forEight {g : Device → Ix8 → Device} (h : ∀ n, ∀ d : Device, d.Keeps (g d n)) (d : Device) :
    d.Keeps (forEight d g) := foldl eight h d

theorem ite {c : Prop} [Decidable c] (h : c → d.Keeps e) (k : ¬ c → d.Keeps f) : d.Keeps (if c then e else f) := by
  split
  · exact h ‹_›
  · exact k ‹_›

/-- An operation that may leave the part alone. -/
theorem iteSelf {c : Prop} [Decidable c] (h : c → d.Keeps e) : d.Keeps (if c then e else d) := ite h fun _ => refl d

/-- A change that each block keeps its own part of. -/
theorem ofBlocks (alarms : d.alarms.Keeps e.alarms) (ctx : ∀ n, (d.prog n).ctx.Keeps (e.prog n).ctx)
    (state : e.time.state = d.time.state)
    (boundary : (d.time.boundary ≠ .none → d.time.h.toNat % 4800 = 0) →
      e.time.boundary ≠ .none → e.time.h.toNat % 4800 = 0)
    (part : e.link.part = d.link.part) (bag : e.bag = d.bag) (size : e.pool.size = d.pool.size)
    (mem : d.mem.wf = true → e.mem.wf = true) : d.Keeps e where
  pin := alarms.pin
  latch := alarms.latch
  marks s := ⟨alarms.marks s.1, fun n => (ctx n).returnDue (s.2 n)⟩
  opens s := ⟨boundary s.1, fun n => (ctx n).startDue (s.2 n)⟩
  refLoss s := by
    unfold Device.refLossSound at s ⊢
    rwa [alarms.refLoss, state, part]
  blocks s := by
    rw [Device.blocksSound_iff] at s ⊢
    rwa [bag, size, part]
  memory := mem

end Device.Keeps

open Device.Keeps (ofBlocks)

/-! ## The tables' own operations -/

section

variable (d : Device)

/-- What touches neither the time, nor a programme, the pool, the memory, the alarm unit or the part state. -/
theorem Device.keeps_of_same {e : Device} (time : e.time = d.time) (progs : e.progs = d.progs) (pool : e.pool = d.pool)
    (mem : e.mem = d.mem) (alarms : e.alarms = d.alarms) (part : e.link.part = d.link.part) : d.Keeps e := by
  refine ofBlocks (alarms ▸ AlarmUnit.Keeps.refl _) (fun n => ?_) (by rw [time]) (by rw [time]; exact id) part ?_
    (by rw [pool]) (by rw [mem]; exact id)
  · rw [Device.prog, Device.prog, progs]
    exact Context.Keeps.refl _
  · simp only [Device.bag, Device.prog, pool, progs]

theorem Device.modPort_keeps (p : Ix8) (f : Port → Port) : d.Keeps (d.modPort p f) := d.keeps_of_same rfl rfl rfl rfl rfl rfl

theorem Device.modConv_keeps (p : Ix8) (f : Converter → Converter) : d.Keeps (d.modConv p f) := d.modPort_keeps p _

theorem Device.modLane_keeps (p : Ix8) (f : Lane → Lane) : d.Keeps (d.modLane p f) := d.modPort_keeps p _

theorem Device.modChecker_keeps (i : Ix2) (f : Checker → Checker) : d.Keeps (d.modChecker i f) :=
  d.keeps_of_same rfl rfl rfl rfl rfl rfl

theorem Device.modLink_keeps (f : Link → Link) (part : (f d.link).part = d.link.part) : d.Keeps (d.modLink f) :=
  d.keeps_of_same rfl rfl rfl rfl rfl part

theorem Device.modAlarms_keeps (f : AlarmUnit → AlarmUnit) (h : d.alarms.Keeps (f d.alarms)) : d.Keeps (d.modAlarms f) :=
  ofBlocks h (fun _ => Context.Keeps.refl _) rfl id rfl rfl rfl id

/-- A programme changed in no more than its context, soundly, and in no block of its lines. -/
theorem Device.modProg_keeps (n : Ix8) (f : Programme → Programme) (ctx : (d.prog n).ctx.Keeps (f (d.prog n)).ctx)
    (bag : linesBag (f (d.prog n)).delay.lines = linesBag (d.prog n).delay.lines) : d.Keeps (d.modProg n f) := by
  refine ofBlocks (AlarmUnit.Keeps.refl _) (fun k => ?_) rfl id rfl ?_ rfl id
  · rw [Device.prog_modProg]
    split
    · next e => exact e ▸ ctx
    · exact Context.Keeps.refl _
  · exact add_right_cancel ((d.bag_modProg n f).trans (by rw [bag]))

theorem Device.modRecord_keeps (n : Ix8) (f : Record → Record) : d.Keeps (d.modRecord n f) :=
  d.modProg_keeps n _ (Context.Keeps.refl _) rfl

theorem Device.modCtx_keeps (n : Ix8) (f : Context → Context) (h : (d.prog n).ctx.Keeps (f (d.prog n).ctx)) :
    d.Keeps (d.modCtx n f) := d.modProg_keeps n _ h rfl

theorem Device.modMeter_keeps (n : Ix8) (f : Meter → Meter) : d.Keeps (d.modMeter n f) :=
  d.modProg_keeps n _ (Context.Keeps.refl _) rfl

theorem Device.modGain_keeps (n : Ix8) (f : Gain → Gain) : d.Keeps (d.modGain n f) :=
  d.modProg_keeps n _ (Context.Keeps.refl _) rfl

theorem Device.modStage_keeps (n : Ix8) (f : Stage → Stage) : d.Keeps (d.modStage n f) :=
  d.modProg_keeps n _ (Context.Keeps.refl _) rfl

theorem Device.modGen_keeps (n : Ix8) (f : Generator → Generator) : d.Keeps (d.modGen n f) :=
  d.modProg_keeps n _ (Context.Keeps.refl _) rfl

theorem Device.modDelay_keeps (n : Ix8) (f : Delay → Delay)
    (bag : linesBag (f (d.prog n).delay).lines = linesBag (d.prog n).delay.lines) : d.Keeps (d.modDelay n f) :=
  d.modProg_keeps n _ (Context.Keeps.refl _) bag

/-- The delay engine's state of a programme changed but for its lines. -/
theorem Device.modDelay_lines_keeps (n : Ix8) (f : Delay → Delay) (lines : ∀ x, (f x).lines = x.lines) :
    d.Keeps (d.modDelay n f) := d.modDelay_keeps n f (by rw [lines])

theorem Device.modLine_keeps (n m : Ix8) (f : Line → Line) (bag : (f (d.line n m)).bag = (d.line n m).bag) :
    d.Keeps (d.modLine n m f) :=
  d.modDelay_keeps n _ (add_right_cancel ((linesBag_set _ m _).trans (congrArg _ bag)))

theorem Device.modPool_keeps (f : Pool → Pool) (free : (f d.pool).free = d.pool.free) (size : (f d.pool).size = d.pool.size) :
    d.Keeps (d.modPool f) :=
  ofBlocks (AlarmUnit.Keeps.refl _) (fun _ => Context.Keeps.refl _) rfl id rfl
    (by simp only [Device.bag, Device.modPool_pool, free]; rfl) size id

/-! ## The alarm unit in the part -/

theorem Device.activate_keeps (a : Alarm) (h : a ≠ .refLoss) : d.Keeps (d.activate a) :=
  d.modAlarms_keeps _ (AlarmUnit.activate_keeps _ _ a h)

theorem Device.deactivate_keeps (a : Alarm) (h : a ≠ .refLoss) : d.Keeps (d.deactivate a) :=
  d.modAlarms_keeps _ (AlarmUnit.deactivate_keeps _ _ a h)

theorem Device.occur_keeps (a : Alarm) : d.Keeps (d.occur a) := d.modAlarms_keeps _ (AlarmUnit.occur_keeps _ _ a)

theorem Device.force_keeps (a : Alarm) (h : a ≠ .refLoss) : d.Keeps (d.force a) :=
  d.modAlarms_keeps _ (AlarmUnit.force_keeps _ _ a h)

/-! ## The pool manager (R78 to R86) -/

theorem Device.grantHead_keeps (own : Option Ix8) (e : PoolEntry) : d.Keeps (d.grantHead own e) := by
  have h := d.grantHead_engine own e
  exact ofBlocks (AlarmUnit.Keeps.refl _) (fun n => by rw [h.prog n]; exact Context.Keeps.refl _) rfl id rfl
    (d.grantHead_bag own e) rfl id

theorem Device.grantLoop_keeps (own : Option Ix8) (fuel : Nat) : d.Keeps (Device.grantLoop own fuel d) := by
  induction fuel generalizing d with
  | zero => exact Device.Keeps.refl d
  | succ fuel ih =>
    unfold Device.grantLoop
    split
    · exact Device.Keeps.refl d
    · exact .iteSelf fun _ => (d.grantHead_keeps own _).trans (ih _)

theorem Device.grantTest_keeps (own : Option Ix8) : d.Keeps (d.grantTest own) := d.grantLoop_keeps own _

theorem Device.withdraw_keeps (n : Ix8) : d.Keeps (d.withdraw n) :=
  (d.modPool_keeps _ rfl rfl).trans (Device.grantTest_keeps _ none)

theorem Device.requestBlocks_keeps (n : Ix8) (needs : List Nat) : d.Keeps (d.requestBlocks n needs).1 := by
  unfold Device.requestBlocks
  split
  · exact (d.modPool_keeps _ rfl rfl).trans (Device.grantTest_keeps _ _)
  · exact d.withdraw_keeps n

/-- Lines that give blocks up, with those blocks handed back. -/
theorem Device.modDelay_handBack_keeps (n : Ix8) (f : Delay → Delay) (back : List Nat)
    (bag : linesBag (f (d.prog n).delay).lines + ↑back = linesBag (d.prog n).delay.lines) :
    d.Keeps ((d.modDelay n f).handBack back) := by
  unfold Device.handBack
  split
  · next e => exact d.modDelay_keeps n f (by simpa [e] using bag)
  · have h := d.modDelay_engine n f
    refine Device.Keeps.trans ?_ (Device.grantTest_keeps _ none)
    refine ofBlocks (AlarmUnit.Keeps.refl _) (fun k => ?_) rfl id rfl ?_ rfl id
    · rw [Device.prog_modPool, h.prog k]
      exact Context.Keeps.refl _
    · have k := d.bag_modDelay n f
      rw [← bag] at k
      simp only [Device.bag, Device.modPool_pool, Device.prog_modPool, ← Multiset.coe_add] at k ⊢
      refine add_right_cancel (b := linesBag (f (d.prog n).delay).lines) ?_
      rw [← k]
      ac_rfl

/-- A line that gives blocks up, with those blocks handed back. -/
theorem Device.modLine_handBack_keeps (n m : Ix8) (f : Line → Line) (back : List Nat)
    (bag : (f (d.line n m)).bag + ↑back = (d.line n m).bag) : d.Keeps ((d.modLine n m f).handBack back) := by
  refine d.modDelay_handBack_keeps n _ back (add_right_cancel (b := (d.line n m).bag) ?_)
  have h := linesBag_set (d.prog n).delay.lines m (f (d.line n m))
  rw [add_right_comm]
  exact (congrArg (· + _) h).trans (by rw [add_assoc, bag])

/-! ## The delay engine (R90 to R107) -/

theorem Device.mapLines_keeps (n : Ix8) (g : Line → Line) (bag : ∀ l, (g l).bag = l.bag) : d.Keeps (d.mapLines n g) :=
  Device.Keeps.foldl _ (fun m e => e.modLine_keeps n m g (bag _)) d

theorem Device.requireWhere_keeps (n : Ix8) (test : Member → Bool) : d.Keeps (d.requireWhere n test) :=
  Device.Keeps.foldl _ (fun _ e => .iteSelf fun _ => e.modLine_keeps n _ _ rfl) d

theorem Device.requireAll_keeps (n : Ix8) : d.Keeps (d.requireAll n) := d.requireWhere_keeps n _

theorem Device.settleBlocks_keeps (n : Ix8) (target : Line → Nat) : d.Keeps (d.settleBlocks n target) := by
  unfold Device.settleBlocks
  exact .ite (fun _ => (d.requestBlocks_keeps n _).trans (Device.mapLines_keeps _ n _ fun l => l.settle_bag _ _))
    fun _ => d.mapLines_keeps n _ fun l => l.settle_bag _ _

theorem Device.returnExcess_keeps (n : Ix8) : d.Keeps (d.returnExcess n) :=
  Device.Keeps.foldl _ (fun m e => e.modLine_handBack_keeps n m _ _ ((e.line n m).dropSpare_bag _)) d

theorem Device.startFade_keeps (n : Ix8) : d.Keeps (d.startFade n) :=
  (d.mapLines_keeps n _ (by exact fun _ => rfl)).trans (Device.modDelay_lines_keeps _ n _ (by exact fun _ => rfl))

theorem Device.gapMember_keeps (n m : Ix8) : d.Keeps (d.gapMember n m) := by
  unfold Device.gapMember
  exact .ite (fun _ => d.modLine_handBack_keeps n m _ _ ((d.line n m).discard_bag _)) fun _ => d.modLine_keeps n m _ rfl

theorem Device.enterFadeIn_keeps (n : Ix8) : d.Keeps (d.enterFadeIn n) := d.modDelay_lines_keeps n _ (by exact fun _ => rfl)

theorem Device.enterGap_keeps (n : Ix8) : d.Keeps (d.enterGap n) := by
  unfold Device.enterGap
  have h := Device.Keeps.foldl (g := fun e m => e.gapMember n m) (d.prog n).record.positions
    (fun m e => e.gapMember_keeps n m) d
  have k := (h.trans (Device.mapLines_keeps _ n (fun l => { l with change := .wait }) (by exact fun _ => rfl))).trans
    (Device.modDelay_lines_keeps _ n (fun x => { x with
      fade := .gap, fadeStep := 0
      gapLength := ((d.prog n).record.positions.foldl (fun e m => e.gapMember n m) d).largestFreeze n }) (by exact fun _ => rfl))
  exact .ite (fun _ => k.trans (Device.enterFadeIn_keeps _ n)) fun _ => k

theorem Device.judgeShort_keeps (n : Ix8) : d.Keeps (d.judgeShort n) :=
  .ite (fun _ => .refl d) fun _ => d.deactivate_keeps _ nofun

theorem Device.reportShort_keeps (n : Ix8) : d.Keeps (d.reportShort n) := .iteSelf fun _ => d.activate_keeps _ nofun

theorem Device.startChange_keeps (n : Ix8) (host : Bool) : d.Keeps (d.startChange n host) := by
  unfold Device.startChange
  have h := d.modDelay_lines_keeps n (fun y => { y with tLines := (d.prog n).record.settings.delayTarget }) (by exact fun _ => rfl)
  exact .ite
    (fun _ => .ite (fun _ => h.trans (Device.startFade_keeps _ n))
      fun _ => h.trans (Device.mapLines_keeps _ n _ Line.startSlew_bag))
    fun _ => h.trans (Device.judgeShort_keeps _ n)

theorem Device.recalculate_keeps (n : Ix8) (mode : RecalcMode) (host : Bool) : d.Keeps (d.recalculate n mode host) :=
  ((d.requireAll_keeps n).trans (Device.returnExcess_keeps _ n)).trans
    (((Device.settleBlocks_keeps _ n _).trans (Device.reportShort_keeps _ n)).trans (Device.startChange_keeps _ n host))

theorem Device.initialFill_keeps (n : Ix8) : d.Keeps (d.initialFill n) :=
  ((d.requireAll_keeps n).trans (Device.modDelay_lines_keeps _ n _ (by exact fun _ => rfl))).trans
    (((Device.settleBlocks_keeps _ n _).trans (Device.reportShort_keeps _ n)).trans (Device.enterGap_keeps _ n))

theorem Device.fold_keeps (n : Ix8) (mode : RecalcMode) (host : Bool) : d.Keeps (d.fold n mode host) := by
  unfold Device.fold
  have h := ((d.requireAll_keeps n).trans (Device.modDelay_lines_keeps _ n (fun x =>
    { x with pending := some (foldPending (d.prog n).delay.pending mode host) }) (by exact fun _ => rfl))).trans (Device.returnExcess_keeps _ n)
  exact .ite
    (fun _ => .ite (fun _ => (h.trans (Device.requestBlocks_keeps _ n _)).trans (Device.modDelay_lines_keeps _ n _ (by exact fun _ => rfl)))
      fun _ => h.trans (Device.requestBlocks_keeps _ n _))
    fun _ => h

theorem Device.trigger_keeps (n : Ix8) (mode : RecalcMode) (host : Bool) : d.Keeps (d.trigger n mode host) :=
  .iteSelf fun _ => .ite (fun _ => d.fold_keeps n mode host) fun _ => d.recalculate_keeps n mode host

theorem Device.targetTrigger_keeps (n : Ix8) : d.Keeps (d.targetTrigger n) :=
  .iteSelf fun _ => .ite (fun _ => d.fold_keeps n _ _) fun _ => .ite (fun _ => .refl d) fun _ => d.recalculate_keeps n _ _

theorem Device.latencyProgramme_keeps (p n : Ix8) : d.Keeps (d.latencyProgramme p n) := by
  unfold Device.latencyProgramme
  have h := d.requireWhere_keeps n fun m => ((d.prog n).currentSource m).port == p
  exact .iteSelf fun _ => .ite (fun _ => h.trans (Device.fold_keeps _ n _ _)) fun _ =>
    .ite (fun _ => h.trans (Device.recalculate_keeps _ n _ _)) fun _ => h.trans (Device.returnExcess_keeps _ n)

theorem Device.takeNotice_keeps : d.Keeps d.takeNotice := by
  unfold Device.takeNotice
  split
  · exact .refl d
  · exact (d.modPool_keeps _ rfl rfl).trans (Device.trigger_keeps _ _ _ _)

theorem Device.takeNotices_keeps (fuel : Nat) : d.Keeps (Device.takeNotices fuel d) := by
  induction fuel generalizing d with
  | zero => exact .refl d
  | succ fuel ih => exact .ite (fun _ => .refl d) fun _ => d.takeNotice_keeps.trans (ih _)

theorem Device.told_keeps : d.Keeps d.told := d.takeNotices_keeps 64

theorem Device.latencyUpdate_keeps (p : Ix8) : d.Keeps (d.latencyUpdate p) :=
  .forEight (fun n e => (e.latencyProgramme_keeps p n).trans (Device.told_keeps _)) d

theorem Device.changeEnded_keeps (n : Ix8) : d.Keeps (d.changeEnded n) := by
  unfold Device.changeEnded
  refine .iteSelf fun _ => ?_
  split
  · exact (d.modDelay_lines_keeps n _ (by exact fun _ => rfl)).trans (Device.recalculate_keeps _ n _ _)
  · exact d.judgeShort_keeps n

theorem Device.fadeOutEnd_keeps (n : Ix8) : d.Keeps (d.fadeOutEnd n) := .iteSelf fun _ => d.enterGap_keeps n

theorem Device.freezeEnd_keeps (n m : Ix8) : d.Keeps (d.freezeEnd n m) := .iteSelf fun _ => d.modLine_keeps n m _ rfl

theorem Device.gapEnd_keeps (n : Ix8) : d.Keeps (d.gapEnd n) := .iteSelf fun _ => d.enterFadeIn_keeps n

theorem Device.fadeInEnd_keeps (n : Ix8) : d.Keeps (d.fadeInEnd n) :=
  .iteSelf fun _ => ((d.mapLines_keeps n _ (by exact fun _ => rfl)).trans (Device.modDelay_lines_keeps _ n _ (by exact fun _ => rfl))).trans
    (Device.changeEnded_keeps _ n)

theorem Device.slewAction_keeps (n m : Ix8) : d.Keeps (d.slewAction n m) := by
  unfold Device.slewAction
  have h := ((d.modLine_handBack_keeps n m (fun l => { (d.line n m).slewAction.1 with change := l.change })
    (d.line n m).slewAction.2 (d.line n m).slewAction_bag).trans (Device.told_keeps _)).trans
      (Device.modLine_keeps _ n m (fun l => { l with change := (d.line n m).slewAction.1.change }) rfl)
  exact .iteSelf fun _ => .ite (fun _ => h) fun _ => h.trans (Device.changeEnded_keeps _ n)

theorem Device.stopDelay_keeps (n : Ix8) : d.Keeps (d.stopDelay n) := d.modDelay_lines_keeps n _ (by exact fun _ => rfl)

theorem linesBag_reset : linesBag Delay.reset.lines = 0 := by
  simp [linesBag, Delay.reset, Line.bag, Line.reset]

theorem Device.clearDelay_keeps (n : Ix8) : d.Keeps (d.clearDelay n) :=
  d.modDelay_handBack_keeps n _ _ (by rw [d.coe_allBlocks, linesBag_reset, zero_add])

/-- A line's house sample writes at most one word of the delay memory and hands back what its head empties. -/
theorem Line.step_mem (l : Line) {mem : DelayMemory} (h : HouseIndex) (x : Sample) (w : LineWork) (s : mem.wf = true) :
    (l.step mem h x w).mem.wf = true := by
  have append (k : Line) : (k.append mem x).2.wf = true := by
    unfold Line.append
    split
    · exact s
    · exact DelayMemory.write_wf s _ x
  unfold Line.step
  simp only
  split
  · exact s
  · cases w <;> exact append _

theorem Device.lineSample_keeps (n m : Ix8) (x : Sample) : d.Keeps (d.lineSample n m x).1 := by
  have h : d.Keeps { d with mem := ((d.line n m).step d.mem d.time.h x ((d.prog n).delay.workOf m)).mem } :=
    ofBlocks (AlarmUnit.Keeps.refl _) (fun _ => Context.Keeps.refl _) rfl id rfl rfl rfl fun s => Line.step_mem _ _ _ _ s
  exact h.trans (Device.modLine_handBack_keeps _ n m _ _ (Line.step_bag _ _ _ _ _))

end

end Sys2Proof.Machine
end

section
/-!
SUPPORT. What the changeover controllers, the converters, the lanes, the checkers and the sub-block end keep of the
part's invariants.
-/

namespace Sys2Proof.Machine

section

variable (d : Device)

/-! ## Changeover contexts (R58 to R72) -/

variable (c : Context) (o : Settings)

theorem Context.pend_keeps (t : Selection) (x : Origin) : c.Keeps (c.pend o t x) := ⟨id, fun _ _ => rfl⟩

theorem Context.switch_keeps (t : Selection) : c.Keeps (c.switch o t) := by
  unfold Context.switch
  split
  · split
    · exact .refl c
    · exact c.pend_keeps o t .host
  · split
    · exact ⟨id, fun _ h => (by cases h)⟩
    · exact ⟨id, id⟩
  · exact ⟨id, id⟩

theorem Context.count_keeps (quiet : Bool) : c.Keeps (c.count o quiet) := by
  unfold Context.count
  generalize (if quiet = true then min (c.quiet + 1) 960 else 0) = q
  simp only
  split
  · exact ⟨id, id⟩
  · next e => exact ⟨id, fun _ _ => e⟩
  · exact ⟨id, id⟩

theorem Context.complete_keeps (t : Selection × Origin) : c.Keeps (c.complete o t) := by
  unfold Context.complete
  simp only
  split
  · split
    · exact ⟨fun _ h => (by cases h), fun _ h => (by cases h)⟩
    · exact ⟨fun _ h => (by cases h), fun _ _ => rfl⟩
  · exact ⟨fun _ h => (by cases h), fun _ h => (by cases h)⟩

theorem Context.countReturn_keeps : c.Keeps (c.countReturn o) := by
  unfold Context.countReturn
  split
  · next e => exact ⟨fun _ _ => e.2.1, id⟩
  · exact ⟨fun _ h => (by cases h), id⟩

theorem Device.countSample_keeps (n : Ix8) : d.Keeps (d.countSample n) :=
  .iteSelf fun _ => d.modCtx_keeps n _ (Context.count_keeps _ _ _)

theorem Device.crossfadeStart_keeps (n : Ix8) : d.Keeps (d.crossfadeStart n) :=
  .iteSelf fun _ => d.modCtx_keeps n _ ⟨id, fun _ h => (by cases h)⟩

theorem Device.crossfadeCompletion_keeps (n : Ix8) : d.Keeps (d.crossfadeCompletion n) := by
  unfold Device.crossfadeCompletion
  simp only
  split
  · exact .refl d
  · exact .iteSelf fun _ => (((d.modCtx_keeps n _ (Context.complete_keeps _ _ _)).trans (Device.occur_keeps _ _)).trans
      (Device.trigger_keeps _ n _ _)).trans (Device.modMeter_keeps _ n _)

theorem Device.autoTest_keeps (n : Ix8) : d.Keeps (d.autoTest n) := by
  unfold Device.autoTest
  exact .iteSelf fun _ => d.modCtx_keeps n _ (Context.pend_keeps _ _ _ _)

theorem Device.activationTests_keeps (k : Qualified) (i : Ix8) : d.Keeps (d.activationTests k i) := by
  unfold Device.activationTests
  cases k with
  | unlock => exact .forEight (fun n e => .iteSelf fun _ => e.autoTest_keeps n) d
  | silence => exact d.autoTest_keeps i
  | loudHigh => exact .refl d
  | loudLow => exact .refl d

theorem Device.reviseReports_keeps : d.Keeps d.reviseReports := d.modLink_keeps _ rfl

theorem Device.returnExpiry_keeps (n : Ix8) : d.Keeps (d.returnExpiry n) := by
  unfold Device.returnExpiry
  exact .iteSelf fun _ => .ite
    (fun _ => (d.modCtx_keeps n (fun c => { c.pend (d.prog n).record.settings .primary .auto with
      returnTimer := 0, returnDue := false }) ⟨fun _ h => (by cases h), fun _ _ => rfl⟩).trans (Device.reviseReports_keeps _))
    fun _ => d.modCtx_keeps n _ ⟨fun _ h => (by cases h), id⟩

theorem Device.judgeSides_keeps (n : Ix8) : d.Keeps (d.judgeSides n) :=
  ((d.modCtx_keeps n
    (fun c => { c with primaryHealthy := d.healthy n .primary, backupHealthy := d.healthy n .backup })
      ⟨id, id⟩).trans (Device.autoTest_keeps _ n)).trans
    (Device.modCtx_keeps _ n (fun c => c.countReturn (d.prog n).record.settings) (Context.countReturn_keeps _ _))

/-! ## Converters and lanes (R9 to R40) -/

theorem Device.slip_keeps (p : Ix8) : d.Keeps (d.slip p) := (d.modConv_keeps p _).trans (Device.occur_keeps _ _)

theorem Device.sendLatency_keeps (p : Ix8) (fill : Nat) : d.Keeps (d.sendLatency p fill) :=
  (d.modConv_keeps p _).trans (Device.latencyUpdate_keeps _ p)

theorem Device.offer_keeps (p : Ix8) (f : InputFrame) (reading : Nat) : d.Keeps (d.offer p f reading) := by
  unfold Device.offer
  have h := d.modConv_keeps p fun c => c.offer f reading
  exact .ite (fun _ => ((h.trans (Device.modConv_keeps _ p _)).trans (Device.slip_keeps _ p)).trans
    (Device.sendLatency_keeps _ p _)) fun _ => h

theorem Device.intervalEnd_keeps (p : Ix8) : d.Keeps (d.intervalEnd p) := by
  unfold Device.intervalEnd
  simp only
  split
  · exact .refl d
  · have h := d.modConv_keeps p fun c => { c with ended := none }
    have off (e : Device) : e.Keeps (e.deactivate (.rateRange p)) := e.deactivate_keeps _ nofun
    have on (e : Device) : e.Keeps (e.activate (.rateRange p)) := e.activate_keeps _ nofun
    split
    · exact .ite (fun _ => ((h.trans (off _)).trans (Device.modConv_keeps _ p _)).trans (Device.sendLatency_keeps _ p _))
        fun _ => h.trans (on _)
    · exact .ite (fun _ => ((h.trans (off _)).trans (Device.modConv_keeps _ p _)).trans (Device.sendLatency_keeps _ p _))
        fun _ => (h.trans (on _)).trans (Device.modConv_keeps _ p _)
    · exact .ite (fun _ => ((h.trans (off _)).trans (Device.modConv_keeps _ p _)).trans (Device.sendLatency_keeps _ p _))
        fun _ => (h.trans (on _)).trans (Device.modConv_keeps _ p _)
    all_goals exact h

theorem Device.underrunWaitEnd_keeps (p : Ix8) : d.Keeps (d.underrunWaitEnd p) :=
  .iteSelf fun _ => (d.modConv_keeps p _).trans (Device.sendLatency_keeps _ p _)

theorem Device.holdoverRefillEnd_keeps (p : Ix8) : d.Keeps (d.holdoverRefillEnd p) :=
  .iteSelf fun _ => (d.modConv_keeps p _).trans (Device.sendLatency_keeps _ p _)

theorem Device.convertSample_keeps (p : Ix8) : d.Keeps (d.convertSample p) := by
  unfold Device.convertSample
  have h := d.modPort_keeps p fun x => Port.detect { x with conv := x.conv.sample }
  exact .ite (fun _ => h.trans (Device.slip_keeps _ p)) fun _ => h

theorem Device.handOff_keeps (p : Ix8) (f : LaneInput) : d.Keeps (d.handOff p f) :=
  (d.modLane_keeps p _).trans (Device.offer_keeps _ p _ _)

theorem Device.receiveFrame_keeps (p : Ix8) (f : LaneInput) : d.Keeps (d.receiveFrame p f) := by
  unfold Device.receiveFrame
  have h := d.modLane_keeps p fun _ => ((d.port p).lane.classify f d.time.h).1
  simp only
  split
  · exact h
  · exact h.trans (Device.handOff_keeps _ p f)
  · exact (h.trans (Device.modConv_keeps _ p _)).trans (Device.handOff_keeps _ p f)
  · exact h.trans (Device.modConv_keeps _ p _)

theorem Device.settleArrival_keeps (p : Ix8) : d.Keeps (d.settleArrival p) :=
  ((((d.intervalEnd_keeps p).trans (Device.modConv_keeps _ p _)).trans (Device.underrunWaitEnd_keeps _ p)).trans
    (Device.modConv_keeps _ p _)).trans (Device.holdoverRefillEnd_keeps _ p)

theorem Device.laneDark_keeps (p : Ix8) : d.Keeps (d.laneDark p) := by
  unfold Device.laneDark
  have h := (d.settleArrival_keeps p).trans (Device.modLane_keeps _ p Lane.darkened)
  exact .iteSelf fun _ => .ite (fun _ => h.trans (Device.modConv_keeps _ p _)) fun _ => h

theorem Device.arrive_keeps (p : Ix8) (f : LaneInput) : d.Keeps (d.arrive p f) :=
  ((d.settleArrival_keeps p).trans (Device.laneDark_keeps _ p)).trans (Device.receiveFrame_keeps _ p f)

theorem Device.frameArrival_keeps (p : Ix8) (f : LaneInput) : d.Keeps (d.frameArrival p f) :=
  .iteSelf fun _ => d.arrive_keeps p f

theorem Device.loopedArrivals_keeps (frames : Option LaneFrames) : d.Keeps (d.loopedArrivals frames) := by
  unfold Device.loopedArrivals
  split
  · exact .refl d
  · refine .forEight (fun p e => ?_) d
    split
    · exact .refl e
    · exact .iteSelf fun _ => e.told_keeps.trans (Device.arrive_keeps _ p _)

theorem Device.setPort_keeps (p : Ix8) (on : Bool) (x : LaneSource) : d.Keeps (d.setPort p on x) := by
  unfold Device.setPort Device.disablePort Device.startPort
  exact .ite (fun _ => .ite (fun _ => .refl d) fun _ => d.modPort_keeps p _) fun _ =>
    .ite (fun _ => ((d.modPort_keeps p _).trans (Device.force_keeps _ (.unlock p) nofun)).trans
        (Device.force_keeps _ (.rateRange p) nofun))
      fun _ => d.modLane_keeps p _

/-! ## Generators, checkers and the map (R165 to R175) -/

theorem Device.checkSample_keeps (i : Ix2) : d.Keeps (d.checkSample i) := by
  unfold Device.checkSample
  simp only
  split
  · exact .refl d
  · split
    · exact .refl d
    · exact d.modChecker_keeps i _
    · exact d.modChecker_keeps i _

theorem Device.checkerSync_keeps (i : Ix2) : d.Keeps (d.checkerSync i) :=
  .iteSelf fun _ => (d.modChecker_keeps i _).trans (Device.deactivate_keeps _ _ nofun)

theorem Device.checkerLoss_keeps (i : Ix2) : d.Keeps (d.checkerLoss i) :=
  .iteSelf fun _ => (d.modChecker_keeps i _).trans (Device.activate_keeps _ _ nofun)

theorem Device.settleCheckers_keeps : d.Keeps d.settleCheckers :=
  .foldl _ (fun i e => (e.checkerSync_keeps i).trans (Device.checkerLoss_keeps _ i)) d

theorem Device.rehunt_keeps (i : Ix2) : d.Keeps (d.rehunt i) := by
  unfold Device.rehunt
  split
  · exact .refl d
  · exact d.modChecker_keeps i _
  · exact (d.modChecker_keeps i _).trans (Device.activate_keeps _ _ nofun)

theorem Device.putMap_keeps (q : Ix8) (k : Ix4) (x : MapEntry) : d.Keeps (d.putMap q k x) := by
  unfold Device.putMap
  refine .ite (fun _ => .refl d) fun _ => ?_
  have h : d.Keeps { d with map := d.map.set q ((d.map.get q).set k x) } := d.keeps_of_same rfl rfl rfl rfl rfl rfl
  exact h.trans (.foldl _ (fun i e => .iteSelf fun _ => e.rehunt_keeps i) _)

theorem Device.silenceWhere_keeps (test : MapEntry → Bool) : d.Keeps (d.silenceWhere test) :=
  .foldl _ (fun q e => .foldl _ (fun k f => .iteSelf fun _ => f.putMap_keeps q k _) e) d

theorem Device.enableChecker_keeps (i : Ix2) (q : Ix8) (k : Ix4) : d.Keeps (d.enableChecker i q k) :=
  (d.modChecker_keeps i _).trans (Device.activate_keeps _ _ nofun)

theorem Device.disableChecker_keeps (i : Ix2) : d.Keeps (d.disableChecker i) :=
  (d.modChecker_keeps i _).trans (Device.force_keeps _ _ nofun)

/-! ## The sub-block end (R8) -/

theorem Device.closeMeter_keeps (second : Bool) (n : Ix8) : d.Keeps (d.closeMeter second n) := by
  unfold Device.closeMeter
  have h := d.modMeter_keeps n fun t => t.close (d.prog n).record (d.fit n) second
  exact .ite (fun _ => .ite (fun _ => h.trans (Device.occur_keeps _ _)) fun _ => h) fun _ => d.modMeter_keeps n _

theorem Device.closeGain_keeps (n : Ix8) : d.Keeps (d.closeGain n) := .iteSelf fun _ => d.modGain_keeps n _

theorem Device.judgeChangeover_keeps (n : Ix8) : d.Keeps (d.judgeChangeover n) := .iteSelf fun _ => d.judgeSides_keeps n

theorem Device.judgeUnlock_keeps (p : Ix8) : d.Keeps (d.judgeUnlock p) :=
  .iteSelf fun _ => d.modAlarms_keeps _ (AlarmUnit.qualify_keeps _ .unlock p _ _ _ _)

theorem Device.judgeSilence_keeps (n : Ix8) : d.Keeps (d.judgeSilence n) :=
by
  unfold Device.judgeSilence
  exact d.modAlarms_keeps _ (AlarmUnit.qualify_keeps _ .silence n _ _ _ _)

theorem Device.judgeLoud_keeps (n : Ix8) : d.Keeps (d.judgeLoud n) := by
  unfold Device.judgeLoud
  simp only
  split
  · exact .refl d
  · exact d.modAlarms_keeps _ ((AlarmUnit.qualify_keeps _ .loudHigh n _ _ _ _).trans
      (AlarmUnit.qualify_keeps _ .loudLow n _ _ _ _))

theorem Device.judgeProgramme_keeps (n : Ix8) : d.Keeps (d.judgeProgramme n) :=
  .iteSelf fun _ => (d.judgeSilence_keeps n).trans (Device.judgeLoud_keeps _ n)

theorem Device.formReport_keeps (n : Ix8) : d.Keeps (d.formReport n) := .iteSelf fun _ => d.modLink_keeps _ rfl

/-- A change of every programme that none of the blocks notices. -/
theorem Device.mapProgs_keeps (f : Programme → Programme) (ports : Oct Port) (ctx : ∀ x : Programme, x.ctx.Keeps (f x).ctx)
    (delay : ∀ x, (f x).delay = x.delay) : d.Keeps { d with ports := ports, progs := d.progs.map f } := by
  refine .ofBlocks (AlarmUnit.Keeps.refl _) (fun n => ?_) rfl id rfl ?_ rfl id
  · simp only [Device.prog, Oct.get_map]
    exact ctx _
  · simp only [Device.bag, Device.prog, Oct.get_map, delay]

theorem Device.freshFlags_keeps : d.Keeps d.freshFlags := d.mapProgs_keeps _ _ (fun _ => ⟨id, id⟩) fun _ => rfl

theorem Device.closeSubBlock_keeps : d.Keeps d.closeSubBlock := by
  have a : d.Keeps { d with ports := d.ports.map Port.closeLevels } := d.keeps_of_same rfl rfl rfl rfl rfl rfl
  have b := a.trans (.forEight (fun n e => e.closeMeter_keeps (onSecond d.time.h) n) _)
  have c := b.trans (.forEight (fun n e => e.closeGain_keeps n) _)
  have e := c.trans (.forEight (fun n e => e.judgeChangeover_keeps n) _)
  have f := (e.trans (.forEight (fun p e => e.judgeUnlock_keeps p) _)).trans
    (.forEight (fun n e => e.judgeProgramme_keeps n) _)
  exact (f.trans (.forEight (fun n e => e.formReport_keeps n) _)).trans (Device.freshFlags_keeps _)

/-- The boundary taken is one that H stands on (R8, log 4). -/
theorem Device.takeBoundary_keeps (h : d.boundaryDue = true) : d.Keeps d.takeBoundary := by
  have due := d.boundaryDue_iff.1 h
  have t : d.Keeps { d with time := d.time.take } :=
    .ofBlocks (AlarmUnit.Keeps.refl _) (fun _ => Context.Keeps.refl _) rfl (fun s _ => s (by simp [due])) rfl rfl rfl id
  exact t.trans (Device.closeSubBlock_keeps _)

theorem Device.subBlockEnd_keeps : d.Keeps d.subBlockEnd := .iteSelf fun h => d.takeBoundary_keeps h

theorem Device.secondBoundary_keeps : d.Keeps d.secondBoundary :=
  .iteSelf fun h => d.takeBoundary_keeps ((Bool.and_eq_true _ _).mp h).2

/-! ## What is done at once (logs 15, 23, 24 and 42) -/

theorem qualifiedAlarm_ne_refLoss (k : Qualified) (i : Ix8) : qualifiedAlarm k i ≠ .refLoss := by cases k <;> nofun

theorem Device.setTimerExpiry_keeps (k : Qualified) (i : Ix8) : d.Keeps (d.setTimerExpiry k i) := by
  unfold Device.setTimerExpiry
  exact .iteSelf fun _ => ((d.activate_keeps _ (qualifiedAlarm_ne_refLoss k i)).trans
    (Device.activationTests_keeps _ k i)).trans (Device.reviseReports_keeps _)

theorem Device.clearTimerExpiry_keeps (k : Qualified) (i : Ix8) : d.Keeps (d.clearTimerExpiry k i) :=
  .iteSelf fun _ => d.deactivate_keeps _ (qualifiedAlarm_ne_refLoss k i)

theorem Device.finishTimers_keeps : d.Keeps d.finishTimers :=
  .foldl _ (fun k e => .forEight (fun i g => (g.setTimerExpiry_keeps k i).trans (Device.clearTimerExpiry_keeps _ k i)) e) d

theorem Device.finish_keeps : d.Keeps d.finish :=
  ((d.settleCheckers_keeps.trans (Device.finishTimers_keeps _)).trans
    (.forEight (fun n e => e.returnExpiry_keeps n) _)).trans (Device.told_keeps _)

end

end Sys2Proof.Machine
end

section
/-!
SUPPORT. What the resets, START, the presence window and the requests on programmes keep of the part's invariants.
-/

namespace Sys2Proof.Machine

/-! ## REF_LOSS and the resets (R4, R5, R163, R189, R190, R192) -/

/-- An operation of the alarm unit that may change REF_LOSS too. -/
structure AlarmUnit.Steady (u v : AlarmUnit) : Prop where
  pin : u.pin = pinLevel u.records u.masks → v.pin = pinLevel v.records v.masks
  latch : (∀ a, (u.get a).active = true → (u.get a).latch = true) →
    ∀ a, (v.get a).active = true → (v.get a).latch = true
  marks : (∀ a, (u.get a).markSound a) → ∀ a, (v.get a).markSound a

theorem AlarmUnit.Steady.refl (u : AlarmUnit) : u.Steady u := ⟨id, id, id⟩

theorem AlarmUnit.activate_steady (u : AlarmUnit) (now : BitVec 32) (a : Alarm) : u.Steady (u.activate now a) where
  pin := u.activate_pin a now
  latch s b := by
    rw [u.activate_get]
    split
    · exact fun _ => rfl
    · exact s b
  marks s b := by
    rw [u.activate_get]
    split
    · exact .inl rfl
    · exact s b

theorem AlarmUnit.deactivate_steady (u : AlarmUnit) (now : BitVec 32) (a : Alarm) : u.Steady (u.deactivate now a) where
  pin := u.deactivate_pin a now
  latch s b := by
    rw [u.deactivate_get]
    split
    · exact nofun
    · exact s b
  marks s b := by
    rw [u.deactivate_get]
    split
    · exact .inl rfl
    · exact s b

theorem AlarmUnit.activate_active (u : AlarmUnit) (now : BitVec 32) (a : Alarm) : ((u.activate now a).get a).active = true := by
  rw [u.activate_get]
  cases h : (u.get a).active <;> simp [h]

theorem AlarmUnit.deactivate_active (u : AlarmUnit) (now : BitVec 32) (a : Alarm) :
    ((u.deactivate now a).get a).active = false := by
  rw [u.deactivate_get]
  cases h : (u.get a).active <;> simp [h]

variable {d e : Device}

/-- A change that may move REF_LOSS and the timebase, or the blocks, as a whole. -/
theorem Device.Keeps.ofSteady (alarms : d.alarms.Steady e.alarms) (ctx : ∀ n, (d.prog n).ctx.Keeps (e.prog n).ctx)
    (boundary : (d.time.boundary ≠ .none → d.time.h.toNat % 4800 = 0) →
      e.time.boundary ≠ .none → e.time.h.toNat % 4800 = 0)
    (refLoss : d.refLossSound → e.refLossSound) (blocks : d.blocksSound → e.blocksSound)
    (mem : d.mem.wf = true → e.mem.wf = true) : d.Keeps e where
  pin := alarms.pin
  latch := alarms.latch
  marks s := ⟨alarms.marks s.1, fun n => (ctx n).returnDue (s.2 n)⟩
  opens s := ⟨boundary s.1, fun n => (ctx n).startDue (s.2 n)⟩
  refLoss := refLoss
  blocks := blocks
  memory := mem

theorem AlarmUnit.reset_get (a : Alarm) : AlarmUnit.reset.get a = .reset := by
  cases a <;> simp [AlarmUnit.get, AlarmUnit.reset, AlarmRecords.reset, AlarmRecords.get]

theorem AlarmUnit.reset_pin : AlarmUnit.reset.pin = pinLevel AlarmUnit.reset.records AlarmUnit.reset.masks := by decide

/-- The alarm unit after a reset, with REF_LOSS raised or not, is sound whatever it was before (R163). -/
theorem AlarmUnit.steady_of_reset (u : AlarmUnit) {v : AlarmUnit} (h : AlarmUnit.reset.Steady v) : u.Steady v where
  pin _ := h.pin AlarmUnit.reset_pin
  latch _ := h.latch fun a s => by rw [AlarmUnit.reset_get] at s; cases s
  marks _ := h.marks fun a => .inl (by rw [AlarmUnit.reset_get]; rfl)

/-- A part whose programmes are reset has all its blocks on the free list. -/
theorem Device.bag_of_progs_reset (h : ∀ n, linesBag (e.prog n).delay.lines = 0) : e.bag = ↑e.pool.free := by
  simp [Device.bag, h]

/-- After a reset every invariant holds, whatever was before. -/
theorem Device.keeps_of_reset (alarms : AlarmUnit.reset.Steady e.alarms) (progs : e.progs = Oct.fill .reset)
    (boundary : e.time.boundary = .none) (refLoss : e.refLossSound) (free : e.pool.free = List.range e.pool.size)
    (size : e.link.part = .config → e.pool.size = 0) (mem : d.mem.wf = true → e.mem.wf = true) : d.Keeps e := by
  have reset (n : Ix8) : e.prog n = .reset := by rw [Device.prog, progs, Oct.get_fill]
  refine .ofSteady (d.alarms.steady_of_reset alarms) (fun n => ?_) (fun _ h => absurd boundary h) (fun _ => refLoss)
    (fun _ => ?_) mem
  · rw [reset n]
    exact ⟨fun _ h => (by cases h), fun _ h => (by cases h)⟩
  · rw [Device.blocksSound_iff, Device.bag_of_progs_reset fun n => by rw [reset n]; exact linesBag_reset, free]
    exact ⟨rfl, size⟩

theorem Device.refLossSound_reset {d : Device} (alarms : d.alarms = .reset) (state : d.time.state = .internal) :
    d.refLossSound := by
  unfold Device.refLossSound
  rw [alarms, state, AlarmUnit.reset_get]
  exact ⟨iff_of_false nofun nofun, fun _ => rfl⟩

theorem Device.powerOnReset_keeps (d : Device) : d.Keeps Device.reset :=
  Device.keeps_of_reset (.refl _) rfl rfl (Device.refLossSound_reset rfl rfl) rfl (fun _ => rfl) fun _ => rfl

theorem Device.lineReset_keeps (d : Device) : d.Keeps d.lineReset :=
  Device.keeps_of_reset (.refl _) rfl rfl (Device.refLossSound_reset rfl rfl) rfl (fun _ => rfl) id

/-- Raising REF_LOSS in HOLDING leaves it sound where it was inactive in the other states, in RUN (R4). -/
theorem Device.raiseRefLoss_refLoss (d : Device) (part : d.link.part = .run)
    (other : d.time.state ≠ .holding → (d.alarms.get .refLoss).active = false) : d.raiseRefLoss.refLossSound := by
  unfold Device.raiseRefLoss
  split
  · next h => exact ⟨iff_of_true (AlarmUnit.activate_active _ _ _) h, fun c => by
      rw [Device.activate, Device.modAlarms_link, part] at c
      cases c⟩
  · next h => exact ⟨iff_of_false (by simp [other h]) h, fun c => by rw [part] at c; cases c⟩

theorem Device.raiseRefLoss_steady (d : Device) : d.alarms.Steady d.raiseRefLoss.alarms := by
  unfold Device.raiseRefLoss
  split
  · exact d.alarms.activate_steady _ _
  · exact .refl _

/-- Raising REF_LOSS changes the alarm unit alone. -/
theorem Device.raiseRefLoss_eq (d : Device) : d.raiseRefLoss = { d with alarms := d.raiseRefLoss.alarms } := by
  unfold Device.raiseRefLoss
  split <;> rfl

/-- A part formed afresh with the blocks and the delay memory of `d` keeps the invariants (R190). -/
theorem Device.reformed_keeps (d : Device) (t : Timebase) (boundary : t.boundary = .none) :
    d.Keeps ({ Device.reset with
      time := t, pool := Pool.formed d.pool.size, mem := d.mem, link := { Link.reset with part := .run } } : Device).raiseRefLoss := by
  generalize hx : ({ Device.reset with
    time := t, pool := Pool.formed d.pool.size, mem := d.mem, link := { Link.reset with part := .run } } : Device) = x
  have same := x.raiseRefLoss_eq
  have alarms : x.alarms = .reset := by rw [← hx]; rfl
  have part : x.link.part = .run := by rw [← hx]
  refine Device.keeps_of_reset (alarms ▸ x.raiseRefLoss_steady) (by rw [same, ← hx]; rfl)
    (by rw [same, ← hx]; exact boundary) (x.raiseRefLoss_refLoss part fun _ => ?_) (by rw [same, ← hx]; rfl) (fun h => ?_)
    (by rw [same, ← hx]; exact id)
  · rw [alarms, AlarmUnit.reset_get]
    rfl
  · rw [same] at h
    cases part.symm.trans h

theorem Device.restarted_keeps (d : Device) : d.Keeps d.restarted := by
  unfold Device.restarted
  cases d.time.mode <;> exact d.reformed_keeps _ rfl

theorem Device.restartPerformed_keeps (d : Device) : d.Keeps d.restartPerformed := .iteSelf fun _ => d.restarted_keeps

/-- In CONFIG the pool has no block, so START forms it afresh (R74, R189). -/
theorem Device.requestStart_keeps (d : Device) (h : d.link.part = .config) (a b : Byte) : d.Keeps (d.requestStart a b).1 := by
  unfold Device.requestStart
  split
  · next size m _ _ =>
    let x : Device :=
      { d with pool := Pool.formed size, time := d.time.choose m, link := { d.link with part := .run } }
    change d.Keeps x.raiseRefLoss
    have same := x.raiseRefLoss_eq
    refine .ofSteady x.raiseRefLoss_steady (fun n => ?_) ?_ (fun s => x.raiseRefLoss_refLoss rfl fun _ => ?_) (fun s => ?_) ?_
    · rw [same]
      exact .refl _
    · rw [same]
      exact id
    · obtain ⟨active, internal⟩ := s
      rw [internal h] at active
      simpa using active
    · rw [Device.blocksSound_iff] at s ⊢
      obtain ⟨bag, size⟩ := s
      have empty : ∀ n, linesBag (d.prog n).delay.lines = 0 := by
        rw [size h, Device.bag] at bag
        intro n
        have z := (add_eq_zero.1 bag).2
        exact Finset.sum_eq_zero_iff.1 z n (Finset.mem_univ n)
      rw [same, Device.bag_of_progs_reset (e := { x with alarms := x.raiseRefLoss.alarms }) empty]
      exact ⟨rfl, fun c => by cases c⟩
    · rw [same]
      exact id
  · exact .refl d

theorem Device.presenceWindowEnd_keeps (d : Device) : d.Keeps d.presenceWindowEnd := by
  unfold Device.presenceWindowEnd
  refine .iteSelf fun _ => ?_
  simp only
  split
  · next h _ =>
    refine .ofSteady (d.alarms.deactivate_steady _ _) (fun _ => .refl _) id (fun s => ?_) id id
    exact ⟨iff_of_false (by simp [Device.deactivate, AlarmUnit.deactivate_active]) nofun,
      fun c => by rw [s.2 c] at h; cases h⟩
  · next h _ =>
    refine .ofSteady (d.alarms.activate_steady _ _) (fun _ => .refl _) id (fun s => ?_) id id
    exact ⟨iff_of_true (AlarmUnit.activate_active _ _ _) rfl, fun c => by rw [s.2 c] at h; cases h⟩
  · exact .ofBlocks (.refl _) (fun _ => .refl _) rfl id rfl rfl rfl id

/-! ## Requests (R3, R45 to R62, R140, R155 to R175) -/

theorem Device.setup_keeps (d : Device) (n : Ix8) (f : BitVec 24) (b : SettingsBlock) (l : LoudMode) (c : ChangeMode) :
    d.Keeps (d.setup n f b l c) := by
  have apply (e : Device) : e.Keeps (e.applySetup n f) := by
    unfold Device.applySetup
    have a : e.Keeps (if present f 3 || present f 4 then e.modGain n fun g => g.clampTo (e.prog n).record.settings else e) :=
      .iteSelf fun _ => e.modGain_keeps n _
    have b := a.trans (.iteSelf (c := present f 6 = true) fun _ =>
      Device.modStage_keeps _ n fun g => g.startTrim (e.prog n).record.settings.trim)
    exact .ite (fun _ => b.trans (Device.targetTrigger_keeps _ n)) fun _ => b
  unfold Device.setup
  have a := d.modRecord_keeps n fun r => { r with settings := r.settings.take f b l c }
  have g := a.trans (.iteSelf (c := present f 9 = true) fun _ => Device.modCtx_keeps _ n (fun x => { x with
    gapThreshold := amplitudeOf
      ((d.modRecord n fun r => { r with settings := r.settings.take f b l c }).prog n).record.settings.gapLevel }) ⟨id, id⟩)
  exact .ite (fun _ => g.trans (apply _)) fun _ => g

theorem conditionsOf_ne_refLoss {n : Ix8} {a : Alarm} (h : a ∈ conditionsOf n) : a ≠ .refLoss := by
  rintro rfl
  simp [conditionsOf] at h

theorem recordsOf_ne_refLoss {n : Ix8} {a : Alarm} (h : a ∈ recordsOf n) : a ≠ .refLoss := by
  rintro rfl
  simp [recordsOf, conditionsOf] at h

theorem Device.runProgramme_keeps (d : Device) (n : Ix8) : d.Keeps (d.runProgramme n) := by
  have a := d.modProg_keeps n (fun x => { x with
    record := { x.record with state := .active }
    ctx := x.ctx.run
    meter := Meter.run x.record
    gain := Gain.reset
    stage := x.stage.run x.record.settings.trim }) ⟨fun _ h => (by cases h), fun _ h => (by cases h)⟩ (by exact rfl)
  have b := (a.trans (Device.initialFill_keeps _ n)).trans (Device.modAlarms_keeps _
    (fun u => (conditionsOf n).foldl AlarmUnit.zeroTimers u) (.foldl _ (fun a _ v => v.zeroTimers_keeps a) _))
  unfold Device.runProgramme
  exact b

/-- Forcing conditions other than REF_LOSS keeps the invariants (R160). -/
theorem Device.forceAll_keeps (d : Device) (l : List Alarm) (h : ∀ a ∈ l, a ≠ .refLoss) :
    d.Keeps (l.foldl Device.force d) := by
  induction l generalizing d with
  | nil => exact .refl d
  | cons a l ih => exact (d.force_keeps a (h a (List.mem_cons_self ..))).trans (ih _ fun b k => h b (List.mem_cons_of_mem _ k))

theorem Device.stopProgramme_keeps (d : Device) (n : Ix8) : d.Keeps (d.stopProgramme n) := by
  unfold Device.stopProgramme
  have a := ((d.modRecord_keeps n fun r => { r with state := .stopping }).trans (Device.withdraw_keeps _ n)).trans
    (Device.modCtx_keeps _ n Context.stop ⟨fun _ h => (by cases h), fun _ h => (by cases h)⟩)
  have b := (a.trans (Device.stopDelay_keeps _ n)).trans
    (Device.forceAll_keeps _ (conditionsOf n) fun _ => conditionsOf_ne_refLoss)
  exact (b.trans (Device.modMeter_keeps _ n Meter.stop)).trans
    (Device.modStage_keeps _ n fun g => { g with stopStep := 0 })

theorem Device.deleteProgramme_keeps (d : Device) (n : Ix8) : d.Keeps (d.deleteProgramme n) := by
  have a := d.modProg_keeps n (fun x => { x with record := .reset, ctx := .reset, meter := .reset })
    ⟨fun _ h => (by cases h), fun _ h => (by cases h)⟩ (by exact rfl)
  have b := (a.trans (Device.silenceWhere_keeps _ fun e => e.names n 0)).trans (Device.modAlarms_keeps _
    (fun u => (recordsOf n).foldl AlarmUnit.wipe u) (.foldl _ (fun a h v => v.wipe_keeps a (recordsOf_ne_refLoss h)) _))
  unfold Device.deleteProgramme
  exact b

theorem Device.zeroCounters_keeps (d : Device) : d.Keeps d.zeroCounters := by
  have a := d.modAlarms_keeps (fun u => allAlarms.foldl AlarmUnit.zeroCount u) (.foldl _ (fun a _ v => v.zeroCount_keeps a) _)
  have b := a.trans (Device.mapProgs_keeps _ (fun x => { x with stage := { x.stage with clips := 0 } })
    (d.ports.map fun x => { x with lane := { x.lane with invalid := 0 } }) (fun _ => .refl _) fun _ => rfl)
  exact b.trans (Device.keeps_of_same _ rfl rfl rfl rfl rfl rfl)

end Sys2Proof.Machine
end

section
/-!
SUPPORT. What the requests, the control link, the events and the house sample keep of the part's invariants, so that
every command keeps them; and the statements about every step that follow.
-/

namespace Sys2Proof.Machine

variable {d e : Device}

/-! ## The requests (R181, R188) -/

theorem Device.requestPort_keeps (d : Device) (p enable source lane : Byte) :
    d.Keeps (d.requestPort p enable source lane).1 := by
  unfold Device.requestPort
  split
  · exact d.setPort_keeps _ _ _
  · exact .refl d

theorem Device.define_keeps (d : Device) (n : Ix8) (l : List Member) : d.Keeps (d.define n l) := by
  unfold Device.define
  refine .trans (d.modRecord_keeps n fun r => { r with members := l, state := .standby }) ?_
  exact Device.silenceWhere_keeps _ _

theorem Device.requestDefine_keeps (d : Device) (programme mode : Byte) (fields : List MemberField) :
    d.Keeps (d.requestDefine programme mode fields).1 := by
  unfold Device.requestDefine
  split
  · dsimp only
    split_ifs
    · exact .refl d
    · exact .refl d
    · dsimp only
      exact d.define_keeps _ _
    · exact .refl d
  · exact .refl d

theorem Device.requestSetup_keeps (d : Device) (programme : Byte) (f : BitVec 24) (b : SettingsBlock) :
    d.Keeps (d.requestSetup programme f b).1 := by
  unfold Device.requestSetup
  split
  · exact .refl d
  · dsimp only
    split
    · split_ifs
      · exact .refl d
      · exact d.setup_keeps _ _ _ _ _
    · exact .refl d

theorem Device.requestRun_keeps (d : Device) (programme : Byte) : d.Keeps (d.requestRun programme).1 := by
  unfold Device.requestRun
  split
  · exact .refl d
  · split
    · exact .refl d
    · exact .refl d
    · exact .refl d
    · split_ifs
      · exact .refl d
      · exact d.runProgramme_keeps _

theorem Device.requestStop_keeps (d : Device) (programme : Byte) : d.Keeps (d.requestStop programme).1 := by
  unfold Device.requestStop
  split
  · exact .refl d
  · split
    · exact .refl d
    · exact .refl d
    · exact .refl d
    · exact d.stopProgramme_keeps _

theorem Device.requestDelete_keeps (d : Device) (programme : Byte) : d.Keeps (d.requestDelete programme).1 := by
  unfold Device.requestDelete
  split
  · exact .refl d
  · split_ifs
    · exact d.deleteProgramme_keeps _
    · exact .refl d

theorem Device.requestSwitch_keeps (d : Device) (programme target : Byte) :
    d.Keeps (d.requestSwitch programme target).1 := by
  unfold Device.requestSwitch
  split
  · split_ifs
    · dsimp only
      exact d.modCtx_keeps _ _ (Context.switch_keeps _ _ _)
    · exact .refl d
    · exact .refl d
  · exact .refl d

theorem Device.requestLreset_keeps (d : Device) (programme : Byte) : d.Keeps (d.requestLreset programme).1 := by
  unfold Device.requestLreset
  split
  · exact .refl d
  · split_ifs
    · exact d.modMeter_keeps _ _
    · exact .refl d

theorem Device.requestRoute_keeps (d : Device) (q s kind n m : Byte) : d.Keeps (d.requestRoute q s kind n m).1 := by
  unfold Device.requestRoute
  split
  · split_ifs
    · exact d.putMap_keeps _ _ _
    · exact .refl d
  · exact .refl d

theorem Device.requestAmask_keeps (d : Device) (kind notify summary : Byte) :
    d.Keeps (d.requestAmask kind notify summary).1 := by
  unfold Device.requestAmask
  split
  · dsimp only
    exact d.modAlarms_keeps _ (.foldl _ (fun k _ v => v.mask_keeps k _) _)
  · exact .refl d

theorem Device.requestAclear_keeps (d : Device) (kind number : Byte) : d.Keeps (d.requestAclear kind number).1 := by
  unfold Device.requestAclear
  split
  · dsimp only
    exact d.modAlarms_keeps _ (.foldl _ (fun a _ v => v.clearLatch_keeps a) _)
  · exact .refl d

theorem Device.requestMeter_keeps (d : Device) (set mode count : Byte) : d.Keeps (d.requestMeter set mode count).1 := by
  unfold Device.requestMeter
  by_cases valid : mode.toNat ≤ 1
  · rw [if_pos valid]
    dsimp only
    exact d.modLink_keeps _ rfl
  · rw [if_neg valid]
    exact .refl d

theorem Device.requestTgen_keeps (d : Device) (programme on : Byte) (level : BitVec 16) :
    d.Keeps (d.requestTgen programme on level).1 := by
  unfold Device.requestTgen
  split
  · dsimp only
    exact d.modGen_keeps _ _
  · exact .refl d

theorem Device.requestTcheck_keeps (d : Device) (checker enable q s : Byte) :
    d.Keeps (d.requestTcheck checker enable q s).1 := by
  unfold Device.requestTcheck
  split
  · exact d.disableChecker_keeps _
  · split
    · exact d.enableChecker_keeps _ _ _
    · exact .refl d
  · exact .refl d

theorem Device.Keeps.ofEq (h : e = d) : d.Keeps e := h ▸ .refl d

/-- The queries answer and change nothing. -/
theorem Device.queries_same (d : Device) (a b : Byte) :
    (d.requestPortq a).1 = d ∧ (d.requestProgq a).1 = d ∧ (d.requestAquery a b).1 = d ∧ (d.requestTcheckq a).1 = d := by
  refine ⟨?_, ?_, ?_, ?_⟩
  · unfold Device.requestPortq
    split_ifs
    · rfl
    · split <;> rfl
  · unfold Device.requestProgq
    split_ifs
    · rfl
    · split <;> rfl
  · unfold Device.requestAquery
    split <;> rfl
  · unfold Device.requestTcheckq
    split_ifs
    · rfl
    · split <;> rfl

theorem Device.perform_keeps (d : Device) (r : Request) : d.Keeps (d.perform r).1 := by
  unfold Device.perform
  split
  · exact .refl d
  · next accepted =>
    cases r with
    | ident => exact .refl d
    | start a b =>
      refine d.requestStart_keeps ?_ a b
      cases part : d.link.part with
      | config => rfl
      | run => rw [part] at accepted; cases accepted
    | restart => exact d.modLink_keeps (fun l => { l with restart := .awaiting }) rfl
    | status => exact .refl d
    | port a b c f => exact d.requestPort_keeps a b c f
    | portq a => exact .ofEq (d.queries_same a 0).1
    | define a b ms => exact d.requestDefine_keeps a b ms
    | setup a f b => exact d.requestSetup_keeps a f b
    | run a => exact d.requestRun_keeps a
    | stop a => exact d.requestStop_keeps a
    | delete a => exact d.requestDelete_keeps a
    | progq a => exact .ofEq (d.queries_same a 0).2.1
    | switch a b => exact d.requestSwitch_keeps a b
    | lreset a => exact d.requestLreset_keeps a
    | route a b c f g => exact d.requestRoute_keeps a b c f g
    | routeq => exact .refl d
    | poolq => exact .refl d
    | amask a b c => exact d.requestAmask_keeps a b c
    | aquery a b => exact .ofEq (d.queries_same a b).2.2.1
    | aclear a b => exact d.requestAclear_keeps a b
    | counts => exact d.zeroCounters_keeps
    | meter a b c => exact d.requestMeter_keeps a b c
    | mstop a => exact d.modLink_keeps (fun l => { l with
      subscriptions := Oct.ofFn fun n => if inSet a n then .none else l.subscriptions.get n
      slots := Oct.ofFn fun n => if inSet a n then none else l.slots.get n }) rfl
    | tgen a b v => exact d.requestTgen_keeps a b v
    | tcheck a b c f => exact d.requestTcheck_keeps a b c f
    | tcheckq a => exact .ofEq (d.queries_same a 0).2.2.2

theorem Device.performBody_keeps (d : Device) (body : List Byte) : d.Keeps (d.performBody body).1 := by
  unfold Device.performBody
  split
  · exact .refl d
  · exact d.perform_keeps _

/-! ## The control link (R176 to R184) -/

theorem Device.arbitrate_keeps (d : Device) : d.Keeps d.arbitrate := by
  unfold Device.arbitrate
  split
  · exact .refl d
  · split
    · exact d.modLink_keeps _ rfl
    · split
      · exact (d.modAlarms_keeps _ (AlarmUnit.dropNotice_keeps _ _)).trans (Device.modLink_keeps _ _ rfl)
      · split
        · exact d.modLink_keeps _ rfl
        · exact .refl d

theorem Device.execute_keeps (d : Device) : d.Keeps d.execute := by
  unfold Device.execute
  split
  · exact .refl d
  · exact .iteSelf fun _ =>
      ((d.modLink_keeps _ rfl).trans (Device.performBody_keeps _ _)).trans (Device.modLink_keeps _ _ rfl)

theorem Device.settleLink_keeps (d : Device) : d.Keeps d.settleLink := d.arbitrate_keeps.trans (Device.execute_keeps _)

theorem Device.catchUp_keeps (d : Device) : d.Keeps d.catchUp := d.finish_keeps.trans (Device.settleLink_keeps _)

theorem Link.offer_part (l : Link) (body : List Byte) : (l.offer body).part = l.part := by
  unfold Link.offer
  split_ifs <;> rfl

theorem Device.completeFrame_keeps (d : Device) (body : List Byte) : d.Keeps (d.completeFrame body) := by
  unfold Device.completeFrame
  refine .trans (d.catchUp_keeps.trans (Device.modLink_keeps _ _ ?_)) (Device.execute_keeps _)
  dsimp only
  rw [Link.offer_part]

theorem Device.frameReceived_keeps (d : Device) (body : List Byte) (crc : BitVec 16) :
    d.Keeps (d.frameReceived body crc) :=
  .iteSelf fun _ => .ite (fun _ => d.completeFrame_keeps body) fun _ => d.modLink_keeps _ rfl

theorem Device.requestFrame_keeps (d : Device) (body : List Byte) : d.Keeps (d.requestFrame body) :=
  .iteSelf fun _ => d.completeFrame_keeps body

theorem Device.receiveByte_keeps (d : Device) (b : Byte) (stopLow : Bool) : d.Keeps (d.receiveByte b stopLow) := by
  refine .ite (fun _ => d.modLink_keeps _ ?_) fun _ => ?_
  · unfold Link.framingError
    split <;> rfl
  · unfold Device.assemble
    split
    · exact .iteSelf fun _ => d.modLink_keeps _ rfl
    · exact .ite (fun _ => d.modLink_keeps _ rfl) fun _ => d.modLink_keeps _ rfl
    · exact .ite (fun _ => d.modLink_keeps _ rfl) fun _ => d.modLink_keeps _ rfl
    · exact d.modLink_keeps _ rfl
    · exact d.frameReceived_keeps _ _

theorem Link.lineFree_part (l : Link) : l.lineFree.part = l.part := by
  unfold Link.lineFree
  split <;> rfl

theorem Device.transmitLineFree_keeps (d : Device) : d.Keeps d.transmitLineFree :=
  ((d.finish_keeps.trans (Device.arbitrate_keeps _)).trans (Device.modLink_keeps _ _ (Link.lineFree_part _))).trans
    (Device.settleLink_keeps _)

/-! ## Events and settling -/

theorem Device.stopFadeEnd_keeps (d : Device) (n : Ix8) : d.Keeps (d.stopFadeEnd n) :=
  .iteSelf fun _ => (d.clearDelay_keeps n).trans (Device.modProg_keeps _ n (fun x =>
    { x with gain := .reset, stage := x.stage.teardown, record := { x.record with state := .standby } })
    (.refl _) (by exact rfl))

theorem Device.grant_keeps (d : Device) : d.Keeps d.grant := (d.grantTest_keeps none).trans (Device.takeNotice_keeps _)

theorem Device.forMembers_keeps {f : Device → Ix8 → Ix8 → Device} (h : ∀ (d : Device) n m, d.Keeps (f d n m)) (d : Device) :
    d.Keeps (forMembers d f) := .forEight (fun _ a => .forEight (fun _ b => h b _ _) a) d

theorem Device.settlePort_keeps (d : Device) (p : Ix8) : d.Keeps (d.settlePort p) :=
  (((d.settleArrival_keeps p).trans (Device.modConv_keeps _ p _)).trans (Device.modPort_keeps _ p _)).trans
    (Device.laneDark_keeps _ p)

/-- An event that is followed by the taking of its grant notices. -/
theorem Device.Keeps.told (h : d.Keeps e) : d.Keeps e.told := h.trans e.told_keeps

theorem Device.settleLines_keeps (d : Device) : d.Keeps d.settleLines := by
  have a := Device.forMembers_keeps (f := fun e n m => (e.slewAction n m).told) (fun e n m => (e.slewAction_keeps n m).told) d
  have b := a.trans (.forEight (g := fun e n => (e.fadeOutEnd n).told) (fun n e => (e.fadeOutEnd_keeps n).told) _)
  have c := b.trans (Device.forMembers_keeps (f := Device.freezeEnd) Device.freezeEnd_keeps _)
  have g := c.trans (.forEight (g := Device.gapEnd) (fun n e => e.gapEnd_keeps n) _)
  have i := g.trans (.forEight (g := fun e n => (e.fadeInEnd n).told) (fun n e => (e.fadeInEnd_keeps n).told) _)
  have f := i.trans (.forEight (g := fun e n => (e.stopFadeEnd n).told) (fun n e => (e.stopFadeEnd_keeps n).told) _)
  have r := f.trans (Device.forMembers_keeps (f := Device.appliedGainRampEnd) (fun e n _ => e.modStage_keeps n _) _)
  exact r.trans (.forEight (g := Device.trimRampEnd) (fun n e => e.modStage_keeps n _) _)

theorem Device.settle_keeps (d : Device) : d.Keeps d.settle := by
  have a := d.catchUp_keeps.trans (.forEight (g := Device.settlePort) (fun p e => e.settlePort_keeps p) _)
  have b := a.trans (.forEight (g := fun e n => (e.crossfadeCompletion n).told)
    (fun n e => (e.crossfadeCompletion_keeps n).told) _)
  have c := b.trans (Device.settleLines_keeps _)
  exact (c.trans (.forEight (g := Device.crossfadeStart) (fun n e => e.crossfadeStart_keeps n) _)).trans
    (Device.catchUp_keeps _)

/-! ## The house sample (R5 to R8) -/

theorem Device.workMember_keeps (d : Device) (n : Ix8) (fade : Int) (m : Ix8 × Member) : d.Keeps (d.workMember n fade m) := by
  have a : d.Keeps (if d.active n then d.modMeter n fun t => t.tap m.1 (d.inputSample n m.2) else d) :=
    .iteSelf fun _ => d.modMeter_keeps n _
  unfold Device.workMember
  exact (a.trans (Device.lineSample_keeps _ n m.1 _)).trans (Device.modStage_keeps _ n _)

theorem Device.workProgramme_keeps (d : Device) (n : Ix8) : d.Keeps (d.workProgramme n) := by
  refine .iteSelf fun _ => ?_
  have a := d.modProg_keeps n (fun x =>
    { x with delay := x.delay.advance, stage := x.stage.begin (x.record.state == .stopping) }) (.refl _)
    (Delay.advance_bag _)
  have b := a.trans (.foldl (d.prog n).record.listed (g := fun e m => e.workMember n ((d.modProg n fun x =>
    { x with delay := x.delay.advance, stage := x.stage.begin (x.record.state == .stopping) }).prog n).delay.factor m)
    (fun m e => e.workMember_keeps n _ m) _)
  exact b.trans (Device.modProg_keeps _ n Programme.prune (.refl _) (by exact rfl))

theorem Device.advanceTime_keeps (d : Device) : d.Keeps { d with time := d.time.advance } := by
  refine .ofBlocks (.refl _) (fun _ => .refl _) rfl (fun _ open' => ?_) rfl rfl rfl id
  rw [Timebase.advance_boundary] at open'
  split_ifs at open' with due
  · exact (onSubBlock_iff _).1 due
  · exact absurd rfl open'

theorem Device.shiftPaths_emit_keeps (d : Device) : d.Keeps d.shiftPaths.emit := d.keeps_of_same rfl rfl rfl rfl rfl rfl

theorem Device.work_keeps (d : Device) : d.Keeps d.work := by
  have a : d.Keeps (forEight d fun e n => e.modGen n fun g => g.sample d.time) :=
    .forEight (fun n e => e.modGen_keeps n _) d
  have b := a.trans (.forEight (g := Device.convertSample) (fun n e => e.convertSample_keeps n) _)
  have c := b.trans (.forEight (g := Device.countSample) (fun n e => e.countSample_keeps n) _)
  have e := c.trans (.forEight (g := Device.workProgramme) (fun n e => e.workProgramme_keeps n) _)
  have s := e.trans (Device.shiftPaths_emit_keeps _)
  have f := s.trans (.foldl two (g := Device.checkSample) (fun n e => e.checkSample_keeps n) _)
  have t := f.trans (Device.advanceTime_keeps _)
  unfold Device.work
  exact t.trans (Device.loopedArrivals_keeps _ _)

theorem Device.prepare_keeps (d : Device) : d.Keeps d.prepare := by
  have a := d.settle_keeps
  unfold Device.prepare
  exact .ite (fun h => (a.trans (Device.takeBoundary_keeps _ h)).trans (Device.settle_keeps _)) fun _ => a

theorem Timebase.paced_keeps (t : Timebase) (p : Pace) (made : Bool) :
    (t.paced p made).state = t.state ∧ (t.paced p made).boundary = t.boundary ∧ (t.paced p made).h = t.h := by
  cases p <;> exact ⟨rfl, rfl, rfl⟩

theorem Device.pace_keeps (d : Device) (p : Pace) : d.Keeps (d.pace p) := by
  obtain ⟨state, boundary, h⟩ := d.time.paced_keeps p (d.time.makes p)
  have a : d.Keeps { d with time := d.time.paced p (d.time.makes p) } :=
    .ofBlocks (.refl _) (fun _ => .refl _) state (by rw [boundary, h]; exact id) rfl rfl rfl id
  exact a.trans (.iteSelf fun _ => (Device.prepare_keeps _).trans (Device.work_keeps _))

theorem Device.houseSample_keeps (d : Device) (p : Pace) : d.Keeps (d.houseSample p) :=
  d.restartPerformed_keeps.trans (Device.pace_keeps _ p)

end Sys2Proof.Machine
end

section
/-!
PROOF. Every command keeps the part's invariants, and what every step keeps follows.
-/

namespace Sys2Proof.Machine

variable {d e : Device} {s t : State}

/-- A command that comes after everything left undone, followed by its grant notices. -/
theorem Device.Keeps.prompt {f : Device → Device} (h : ∀ d, Device.Keeps d (f d)) (d : Device) : d.Keeps (f d.catchUp) :=
  d.catchUp_keeps.trans (h _)

/-- Every command goes on, and what it leaves keeps the invariants. -/
theorem exec_keeps (i : Instr) (s : State) : ∃ e, exec i s = .next { s with dev := e } ∧ s.dev.Keeps e := by
  cases hr : i.request with
  | some x => exact ⟨_, exec_request hr, s.dev.requestFrame_keeps _⟩
  | none =>
    cases i with
    | powerOnReset => exact ⟨_, rfl, s.dev.powerOnReset_keeps⟩
    | lineReset => exact ⟨_, rfl, s.dev.lineReset_keeps⟩
    | houseSample pace => exact ⟨_, rfl, s.dev.houseSample_keeps pace⟩
    | subBlockEnd => exact ⟨_, rfl, .prompt Device.subBlockEnd_keeps _⟩
    | secondBoundary => exact ⟨_, rfl, .prompt Device.secondBoundary_keeps _⟩
    | presenceWindowEnd => exact ⟨_, rfl, .prompt Device.presenceWindowEnd_keeps _⟩
    | frameArrival p f => exact ⟨_, rfl, .prompt (fun d => d.frameArrival_keeps p f) _⟩
    | laneDarkTimeout p => exact ⟨_, rfl, .prompt (fun d => d.laneDark_keeps p) _⟩
    | intervalEnd p => exact ⟨_, rfl, .prompt (fun d => d.intervalEnd_keeps p) _⟩
    | lockCountExpiry p => exact ⟨_, rfl, .prompt (fun d => d.modConv_keeps p _) _⟩
    | underrunWaitEnd p => exact ⟨_, rfl, .prompt (fun d => d.underrunWaitEnd_keeps p) _⟩
    | converterFadeInEnd p => exact ⟨_, rfl, .prompt (fun d => d.modConv_keeps p _) _⟩
    | holdoverFadeOutEnd p => exact ⟨_, rfl, .prompt (fun d => d.modConv_keeps p _) _⟩
    | holdoverRefillEnd p => exact ⟨_, rfl, .prompt (fun d => d.holdoverRefillEnd_keeps p) _⟩
    | holdoverTimerExpiry p => exact ⟨_, rfl, .prompt (fun d => d.modPort_keeps p _) _⟩
    | crossfadeStart n => exact ⟨_, rfl, .prompt (fun d => d.crossfadeStart_keeps n) _⟩
    | crossfadeCompletion n => exact ⟨_, rfl, .prompt (fun d => d.crossfadeCompletion_keeps n) _⟩
    | returnTimerExpiry n => exact ⟨_, rfl, s.dev.returnExpiry_keeps n⟩
    | grant => exact ⟨_, rfl, s.dev.grant_keeps⟩
    | slewAction n m => exact ⟨_, rfl, .prompt (fun d => d.slewAction_keeps n m) _⟩
    | fadeOutEnd n => exact ⟨_, rfl, .prompt (fun d => d.fadeOutEnd_keeps n) _⟩
    | freezeEnd n m => exact ⟨_, rfl, .prompt (fun d => d.freezeEnd_keeps n m) _⟩
    | gapEnd n => exact ⟨_, rfl, .prompt (fun d => d.gapEnd_keeps n) _⟩
    | fadeInEnd n => exact ⟨_, rfl, .prompt (fun d => d.fadeInEnd_keeps n) _⟩
    | stopFadeEnd n => exact ⟨_, rfl, .prompt (fun d => d.stopFadeEnd_keeps n) _⟩
    | appliedGainRampEnd n m => exact ⟨_, rfl, .prompt (fun d => d.modStage_keeps n _) _⟩
    | trimRampEnd n => exact ⟨_, rfl, .prompt (fun d => d.modStage_keeps n _) _⟩
    | checkerSync c => exact ⟨_, rfl, s.dev.checkerSync_keeps c⟩
    | checkerLoss c => exact ⟨_, rfl, s.dev.checkerLoss_keeps c⟩
    | setTimerExpiry k x => exact ⟨_, rfl, s.dev.setTimerExpiry_keeps k x⟩
    | clearTimerExpiry k x => exact ⟨_, rfl, s.dev.clearTimerExpiry_keeps k x⟩
    | frameReceived body crc => exact ⟨_, rfl, s.dev.frameReceived_keeps body crc⟩
    | interByteTimeout => exact ⟨_, rfl, s.dev.modLink_keeps _ rfl⟩
    | transmitLineFree => exact ⟨_, rfl, s.dev.transmitLineFree_keeps⟩
    | restartPerformed => exact ⟨_, rfl, s.dev.restartPerformed_keeps⟩
    | unknownType type tag fields => exact ⟨_, rfl, s.dev.requestFrame_keeps _⟩
    | receivedByte byte stopLow => exact ⟨_, rfl, s.dev.receiveByte_keeps byte stopLow⟩
    | _ => cases hr

/-- Every step keeps the part's invariants. -/
theorem step_keeps (h : step s = .next t) : s.dev.Keeps t.dev := by
  unfold step at h
  split at h
  · cases h
    exact .refl _
  · next c rest _ =>
    obtain ⟨e, run, keeps⟩ := exec_keeps c { s with pending := rest }
    rw [run] at h
    cases h
    exact keeps

/-- Settles O60: no command writes the delay memory but by the writing of a word, which keeps its form. -/
theorem stepKeepsTheMemoryForm : Obligations.StepKeepsTheMemoryForm := fun _ _ sound h => (step_keeps h).memory sound

/-- Settles O59: every command moves blocks between the free list and the lines, and the resets and START form the
pool afresh. -/
theorem stepKeepsTheBlocks : Obligations.StepKeepsTheBlocks := fun _ _ sound h => (step_keeps h).blocks sound

/-- Settles O57: only the presence window, START, RESTART and the resets move the timebase, and REF_LOSS with it. -/
theorem stepKeepsRefLossInHolding : Obligations.StepKeepsRefLossInHolding := fun _ _ sound h => (step_keeps h).refLoss sound

/-- Settles O56: every operation of the alarm unit keeps the pin, the latches and the marks, and the contexts keep
theirs. -/
theorem stepKeepsPinAndLatches : Obligations.StepKeepsPinAndLatches :=
  ⟨fun _ _ pin latch h => ⟨(step_keeps h).pin pin, (step_keeps h).latch latch⟩,
    fun _ _ marks h => (step_keeps h).marks marks, fun _ _ opens h => (step_keeps h).opens opens⟩

end Sys2Proof.Machine
end

section
/-!
SUPPORT. What the link carries, its request queue, its reply list, its line and its restart, is left alone by every
operation but those of the link, RESTART and the resets.
-/

namespace Sys2Proof.Machine

/-- The queue, the reply list, the line and the restart of the link are as they were. -/
structure Device.SameTraffic (d e : Device) : Prop where
  queue : e.link.queue = d.link.queue
  replies : e.link.replies = d.link.replies
  line : e.link.line = d.link.line
  restart : e.link.restart = d.link.restart

namespace Device.SameTraffic

variable {d e f : Device}

theorem same (h : e.link = d.link) : d.SameTraffic e := by constructor <;> rw [h]

theorem refl (d : Device) : d.SameTraffic d := same rfl

theorem trans (h : d.SameTraffic e) (k : e.SameTraffic f) : d.SameTraffic f :=
  ⟨k.queue.trans h.queue, k.replies.trans h.replies, k.line.trans h.line, k.restart.trans h.restart⟩

theorem foldl {α : Type} {g : Device → α → Device} (l : List α) (h : ∀ a, ∀ d : Device, d.SameTraffic (g d a))
    (d : Device) : d.SameTraffic (l.foldl g d) := by
  induction l generalizing d with
  | nil => exact refl d
  | cons a l ih => exact (h a d).trans (ih _)

theorem forEight {g : Device → Ix8 → Device} (h : ∀ n, ∀ d : Device, d.SameTraffic (g d n)) (d : Device) :
    d.SameTraffic (forEight d g) := foldl eight h d

theorem ite {c : Prop} [Decidable c] (h : d.SameTraffic e) (k : d.SameTraffic f) :
    d.SameTraffic (if c then e else f) := by
  split
  · exact h
  · exact k

theorem iteSelf {c : Prop} [Decidable c] (h : d.SameTraffic e) : d.SameTraffic (if c then e else d) := ite h (refl d)

theorem engine (h : d.EngineOnly e) : d.SameTraffic e := same h.link

theorem ready (h : d.SameTraffic e) : e.link.ready = d.link.ready := by rw [Link.ready, h.replies, h.restart, Link.ready]

theorem told (h : d.SameTraffic e) : d.SameTraffic e.told := h.trans (engine e.told_engine)

end Device.SameTraffic

open Device.SameTraffic

variable (d : Device)

/-! ## Contexts, converters and lanes -/

theorem Device.modPort_traffic (p : Ix8) (f : Port → Port) : d.SameTraffic (d.modPort p f) := .same rfl

theorem Device.modConv_traffic (p : Ix8) (f : Converter → Converter) : d.SameTraffic (d.modConv p f) := .same rfl

theorem Device.modLane_traffic (p : Ix8) (f : Lane → Lane) : d.SameTraffic (d.modLane p f) := .same rfl

theorem Device.modProg_traffic (n : Ix8) (f : Programme → Programme) : d.SameTraffic (d.modProg n f) := .same rfl

theorem Device.modCtx_traffic (n : Ix8) (f : Context → Context) : d.SameTraffic (d.modCtx n f) := .same rfl

theorem Device.modMeter_traffic (n : Ix8) (f : Meter → Meter) : d.SameTraffic (d.modMeter n f) := .same rfl

theorem Device.modStage_traffic (n : Ix8) (f : Stage → Stage) : d.SameTraffic (d.modStage n f) := .same rfl

theorem Device.modAlarms_traffic (f : AlarmUnit → AlarmUnit) : d.SameTraffic (d.modAlarms f) := .same rfl

theorem Device.modChecker_traffic (i : Ix2) (f : Checker → Checker) : d.SameTraffic (d.modChecker i f) := .same rfl

theorem Device.occur_traffic (a : Alarm) : d.SameTraffic (d.occur a) := .same rfl

theorem Device.activate_traffic (a : Alarm) : d.SameTraffic (d.activate a) := .same rfl

theorem Device.deactivate_traffic (a : Alarm) : d.SameTraffic (d.deactivate a) := .same rfl

theorem Device.countSample_traffic (n : Ix8) : d.SameTraffic (d.countSample n) := .iteSelf (.same rfl)

theorem Device.crossfadeStart_traffic (n : Ix8) : d.SameTraffic (d.crossfadeStart n) := .iteSelf (.same rfl)

theorem Device.crossfadeCompletion_traffic (n : Ix8) : d.SameTraffic (d.crossfadeCompletion n) := by
  unfold Device.crossfadeCompletion
  simp only
  split
  · exact .refl d
  · exact .iteSelf ((((d.modCtx_traffic n _).trans (Device.occur_traffic _ _)).trans
      (engine (Device.trigger_engine _ n _ _))).trans (Device.modMeter_traffic _ n _))

theorem Device.autoTest_traffic (n : Ix8) : d.SameTraffic (d.autoTest n) := .iteSelf (.same rfl)

theorem Device.activationTests_traffic (k : Qualified) (i : Ix8) : d.SameTraffic (d.activationTests k i) := by
  unfold Device.activationTests
  cases k with
  | unlock => exact .forEight (fun n e => .iteSelf (e.autoTest_traffic n)) d
  | silence => exact d.autoTest_traffic i
  | loudHigh => exact .refl d
  | loudLow => exact .refl d

theorem Device.reviseReports_traffic : d.SameTraffic d.reviseReports := ⟨rfl, rfl, rfl, rfl⟩

theorem Device.returnExpiry_traffic (n : Ix8) : d.SameTraffic (d.returnExpiry n) :=
  .iteSelf (.ite ⟨rfl, rfl, rfl, rfl⟩ (.same rfl))

theorem Device.judgeSides_traffic (n : Ix8) : d.SameTraffic (d.judgeSides n) :=
  ((d.modCtx_traffic n fun c =>
    { c with primaryHealthy := d.healthy n .primary, backupHealthy := d.healthy n .backup }).trans (Device.autoTest_traffic _ n)).trans (Device.modCtx_traffic _ n fun c => c.countReturn (d.prog n).record.settings)

theorem Device.sendLatency_traffic (p : Ix8) (fill : Nat) : d.SameTraffic (d.sendLatency p fill) :=
  (d.modConv_traffic p _).trans (engine (Device.latencyUpdate_engine _ p))

theorem Device.offer_traffic (p : Ix8) (f : InputFrame) (reading : Nat) : d.SameTraffic (d.offer p f reading) := by
  unfold Device.offer
  exact .ite ((((d.modConv_traffic p _).trans (Device.modConv_traffic _ p _)).trans
    ((Device.modConv_traffic _ p _).trans (Device.occur_traffic _ _))).trans (Device.sendLatency_traffic _ p _))
    (d.modConv_traffic p _)

theorem Device.intervalEnd_traffic (p : Ix8) : d.SameTraffic (d.intervalEnd p) := by
  unfold Device.intervalEnd
  simp only
  split
  · exact .refl d
  · have h := d.modConv_traffic p fun c => { c with ended := none }
    have off := h.trans (Device.deactivate_traffic _ (.rateRange p))
    have on := h.trans (Device.activate_traffic _ (.rateRange p))
    split
    · exact .ite ((off.trans (Device.modConv_traffic _ p _)).trans (Device.sendLatency_traffic _ p _)) on
    · exact .ite ((off.trans (Device.modConv_traffic _ p _)).trans (Device.sendLatency_traffic _ p _))
        (on.trans (Device.modConv_traffic _ p _))
    · exact .ite ((off.trans (Device.modConv_traffic _ p _)).trans (Device.sendLatency_traffic _ p _))
        (on.trans (Device.modConv_traffic _ p _))
    all_goals exact h

theorem Device.underrunWaitEnd_traffic (p : Ix8) : d.SameTraffic (d.underrunWaitEnd p) :=
  .iteSelf ((d.modConv_traffic p _).trans (Device.sendLatency_traffic _ p _))

theorem Device.holdoverRefillEnd_traffic (p : Ix8) : d.SameTraffic (d.holdoverRefillEnd p) :=
  .iteSelf ((d.modConv_traffic p _).trans (Device.sendLatency_traffic _ p _))

theorem Device.convertSample_traffic (p : Ix8) : d.SameTraffic (d.convertSample p) := .ite (.same rfl) (.same rfl)

theorem Device.handOff_traffic (p : Ix8) (f : LaneInput) : d.SameTraffic (d.handOff p f) :=
  (d.modLane_traffic p _).trans (Device.offer_traffic _ p _ _)

theorem Device.receiveFrame_traffic (p : Ix8) (f : LaneInput) : d.SameTraffic (d.receiveFrame p f) := by
  unfold Device.receiveFrame
  have h := d.modLane_traffic p fun _ => ((d.port p).lane.classify f d.time.h).1
  simp only
  split
  · exact h
  · exact h.trans (Device.handOff_traffic _ p f)
  · exact (h.trans (Device.modConv_traffic _ p _)).trans (Device.handOff_traffic _ p f)
  · exact h.trans (Device.modConv_traffic _ p _)

theorem Device.settleArrival_traffic (p : Ix8) : d.SameTraffic (d.settleArrival p) :=
  ((((d.intervalEnd_traffic p).trans (Device.modConv_traffic _ p _)).trans (Device.underrunWaitEnd_traffic _ p)).trans
    (Device.modConv_traffic _ p _)).trans (Device.holdoverRefillEnd_traffic _ p)

theorem Device.laneDark_traffic (p : Ix8) : d.SameTraffic (d.laneDark p) := by
  unfold Device.laneDark
  have h := (d.settleArrival_traffic p).trans (Device.modLane_traffic _ p Lane.darkened)
  exact .iteSelf (.ite (h.trans (Device.modConv_traffic _ p _)) h)

theorem Device.arrive_traffic (p : Ix8) (f : LaneInput) : d.SameTraffic (d.arrive p f) :=
  ((d.settleArrival_traffic p).trans (Device.laneDark_traffic _ p)).trans (Device.receiveFrame_traffic _ p f)

theorem Device.loopedArrivals_traffic (frames : Option LaneFrames) : d.SameTraffic (d.loopedArrivals frames) := by
  unfold Device.loopedArrivals
  split
  · exact .refl d
  · refine .forEight (fun p e => ?_) d
    split
    · exact .refl e
    · exact .iteSelf ((SameTraffic.refl e).told.trans (Device.arrive_traffic _ p _))

/-! ## Checkers, the sub-block end and what is done at once -/

theorem Device.checkSample_traffic (i : Ix2) : d.SameTraffic (d.checkSample i) := by
  unfold Device.checkSample
  simp only
  split
  · exact .refl d
  · split
    · exact .refl d
    · exact .same rfl
    · exact .same rfl

theorem Device.checkerSync_traffic (i : Ix2) : d.SameTraffic (d.checkerSync i) :=
  .iteSelf ((d.modChecker_traffic i _).trans (Device.deactivate_traffic _ _))

theorem Device.checkerLoss_traffic (i : Ix2) : d.SameTraffic (d.checkerLoss i) :=
  .iteSelf ((d.modChecker_traffic i _).trans (Device.activate_traffic _ _))

theorem Device.settleCheckers_traffic : d.SameTraffic d.settleCheckers :=
  .foldl _ (fun i e => (e.checkerSync_traffic i).trans (Device.checkerLoss_traffic _ i)) d

theorem Device.judgeSilence_traffic (n : Ix8) : d.SameTraffic (d.judgeSilence n) := .same rfl

theorem Device.judgeLoud_traffic (n : Ix8) : d.SameTraffic (d.judgeLoud n) := by
  unfold Device.judgeLoud
  simp only
  split
  · exact .refl d
  · exact .same rfl

theorem Device.freshFlags_traffic : d.SameTraffic d.freshFlags := .same rfl

theorem Device.takeBoundary_traffic : d.SameTraffic d.takeBoundary := by
  have a : d.SameTraffic { ({ d with time := d.time.take } : Device) with ports := d.ports.map Port.closeLevels } := .same rfl
  have b := a.trans (.forEight (g := fun e n => e.closeMeter (onSecond d.time.take.h) n)
    (fun n e => .ite (.ite (.same rfl) (.same rfl)) (.same rfl)) _)
  have c := b.trans (.forEight (g := Device.closeGain) (fun n e => .iteSelf (.same rfl)) _)
  have e := c.trans (.forEight (g := Device.judgeChangeover) (fun n e => .iteSelf (e.judgeSides_traffic n)) _)
  have f := (e.trans (.forEight (g := Device.judgeUnlock) (fun p e => .iteSelf (.same rfl)) _)).trans
    (.forEight (g := Device.judgeProgramme)
      (fun n e => .iteSelf ((e.judgeSilence_traffic n).trans (Device.judgeLoud_traffic _ n))) _)
  have g := f.trans (.forEight (g := Device.formReport) (fun n e => .iteSelf ⟨rfl, rfl, rfl, rfl⟩) _)
  exact g.trans (Device.freshFlags_traffic _)

theorem Device.setTimerExpiry_traffic (k : Qualified) (i : Ix8) : d.SameTraffic (d.setTimerExpiry k i) :=
  .iteSelf (((d.activate_traffic _).trans (Device.activationTests_traffic _ k i)).trans (Device.reviseReports_traffic _))

theorem Device.clearTimerExpiry_traffic (k : Qualified) (i : Ix8) : d.SameTraffic (d.clearTimerExpiry k i) :=
  .iteSelf (.same rfl)

theorem Device.finishTimers_traffic : d.SameTraffic d.finishTimers :=
  .foldl _ (fun k e => .forEight
    (fun i g => (g.setTimerExpiry_traffic k i).trans (Device.clearTimerExpiry_traffic _ k i)) e) d

theorem Device.finish_traffic : d.SameTraffic d.finish :=
  ((d.settleCheckers_traffic.trans (Device.finishTimers_traffic _)).trans
    (.forEight (fun n e => e.returnExpiry_traffic n) _)).told

/-! ## Settling and the house sample -/

theorem Device.forMembers_traffic {f : Device → Ix8 → Ix8 → Device} (h : ∀ (d : Device) n m, d.SameTraffic (f d n m))
    (d : Device) : d.SameTraffic (forMembers d f) := .forEight (fun _ a => .forEight (fun _ b => h b _ _) a) d

theorem Device.stopFadeEnd_traffic (n : Ix8) : d.SameTraffic (d.stopFadeEnd n) :=
  .iteSelf ((engine (d.clearDelay_engine n)).trans (Device.modProg_traffic _ n _))

theorem Device.settlePort_traffic (p : Ix8) : d.SameTraffic (d.settlePort p) :=
  (((d.settleArrival_traffic p).trans (Device.modConv_traffic _ p _)).trans (Device.modPort_traffic _ p _)).trans
    (Device.laneDark_traffic _ p)

theorem Device.settleLines_traffic : d.SameTraffic d.settleLines := by
  have a := Device.forMembers_traffic (f := fun e n m => (e.slewAction n m).told)
    (fun e n m => (engine (e.slewAction_engine n m)).told) d
  have b := a.trans (.forEight (g := fun e n => (e.fadeOutEnd n).told) (fun n e => (engine (e.fadeOutEnd_engine n)).told) _)
  have c := b.trans (Device.forMembers_traffic (f := Device.freezeEnd) (fun e n m => engine (e.freezeEnd_engine n m)) _)
  have g := c.trans (.forEight (g := Device.gapEnd) (fun n e => engine (e.gapEnd_engine n)) _)
  have i := g.trans (.forEight (g := fun e n => (e.fadeInEnd n).told) (fun n e => (engine (e.fadeInEnd_engine n)).told) _)
  have f := i.trans (.forEight (g := fun e n => (e.stopFadeEnd n).told) (fun n e => (e.stopFadeEnd_traffic n).told) _)
  have r := f.trans (Device.forMembers_traffic (f := Device.appliedGainRampEnd) (fun e n _ => .same rfl) _)
  exact r.trans (.forEight (g := Device.trimRampEnd) (fun n e => .same rfl) _)

theorem Device.lineSample_traffic (n m : Ix8) (x : Sample) : d.SameTraffic (d.lineSample n m x).1 := by
  have modMem (mem : DelayMemory) : d.SameTraffic { d with mem := mem } := .same rfl
  unfold Device.lineSample
  exact (modMem _).trans ((engine (Device.modLine_engine _ n m _)).trans (engine (Device.handBack_engine _ _)))

theorem Device.workMember_traffic (n : Ix8) (fade : Int) (m : Ix8 × Member) : d.SameTraffic (d.workMember n fade m) := by
  have a : d.SameTraffic (if d.active n then d.modMeter n fun t => t.tap m.1 (d.inputSample n m.2) else d) :=
    .iteSelf (d.modMeter_traffic n _)
  unfold Device.workMember
  exact (a.trans (Device.lineSample_traffic _ n m.1 _)).trans (Device.modStage_traffic _ n _)

theorem Device.workProgramme_traffic (n : Ix8) : d.SameTraffic (d.workProgramme n) :=
  .iteSelf (((d.modProg_traffic n _).trans (.foldl _ (fun m e => e.workMember_traffic n _ m) _)).trans
    (Device.modProg_traffic _ n Programme.prune))

theorem Device.advanceTime_traffic : d.SameTraffic { d with time := d.time.advance } := .same rfl

theorem Device.shiftPaths_emit_traffic : d.SameTraffic d.shiftPaths.emit := .same rfl

theorem Device.work_traffic : d.SameTraffic d.work := by
  have a : d.SameTraffic (forEight d fun e n => e.modGen n fun g => g.sample d.time) :=
    .forEight (fun n e => e.modProg_traffic n _) d
  have b := a.trans (.forEight (g := Device.convertSample) (fun n e => e.convertSample_traffic n) _)
  have c := b.trans (.forEight (g := Device.countSample) (fun n e => e.countSample_traffic n) _)
  have e := c.trans (.forEight (g := Device.workProgramme) (fun n e => e.workProgramme_traffic n) _)
  have s := e.trans (Device.shiftPaths_emit_traffic _)
  have f := s.trans (.foldl two (g := Device.checkSample) (fun n e => e.checkSample_traffic n) _)
  have t := f.trans (Device.advanceTime_traffic _)
  unfold Device.work
  exact t.trans (Device.loopedArrivals_traffic _ _)

end Sys2Proof.Machine
end

section
/-!
PROOF. Request bodies and requests correspond one to one (R181, R193): what a body read says of its bytes, and what a
body written reads as.
-/

namespace Sys2Proof.Machine

/-! ## Multi-byte fields -/

/-- A byte of a word, by its bits. -/
theorem extract_byte {w : Nat} {x : BitVec w} {b : Byte} {k : Nat} (h : ∀ i < 8, x.getLsbD (k + i) = b.getLsbD i) :
    x.extractLsb' k 8 = b :=
  BitVec.eq_of_getLsbD_eq fun i hi => by simp [hi, h i hi]

theorem put16_be16 (a b : Byte) : put16 (be16 a b) = [a, b] := by
  have bit (i : Nat) : (be16 a b).getLsbD i = if i < 8 then b.getLsbD i else a.getLsbD (i - 8) := BitVec.getLsbD_append
  have high : (be16 a b).extractLsb' 8 8 = a := extract_byte fun i _ => by simp [bit]
  have low : (be16 a b).extractLsb' 0 8 = b := extract_byte fun i h => by simp [bit, h]
  simp only [put16, high, low]

theorem put24_be24 (a b c : Byte) : put24 (be24 a b c) = [a, b, c] := by
  have bit (i : Nat) : (be24 a b c).getLsbD i = if i < 8 then c.getLsbD i else (be16 a b).getLsbD (i - 8) :=
    BitVec.getLsbD_append
  have rest (k : Nat) : (be24 a b c).extractLsb' (8 + k) 8 = (be16 a b).extractLsb' k 8 :=
    extract_byte fun i h => by simp [bit, show 8 + k + i - 8 = k + i by omega, show ¬ 8 + k + i < 8 by omega, h]
  have low : (be24 a b c).extractLsb' 0 8 = c := extract_byte fun i h => by simp [bit, h]
  have word := put16_be16 a b
  simp only [put16, List.cons.injEq, and_true] at word
  simp only [put24, low, rest 8, rest 0, word.1, word.2]

theorem put32_be32 (a b c d : Byte) : put32 (be32 a b c d) = [a, b, c, d] := by
  have bit (i : Nat) : (be32 a b c d).getLsbD i = if i < 8 then d.getLsbD i else (be24 a b c).getLsbD (i - 8) :=
    BitVec.getLsbD_append
  have rest (k : Nat) : (be32 a b c d).extractLsb' (8 + k) 8 = (be24 a b c).extractLsb' k 8 :=
    extract_byte fun i h => by simp [bit, show 8 + k + i - 8 = k + i by omega, show ¬ 8 + k + i < 8 by omega, h]
  have low : (be32 a b c d).extractLsb' 0 8 = d := extract_byte fun i h => by simp [bit, h]
  have word := put24_be24 a b c
  simp only [put24, List.cons.injEq, and_true] at word
  simp only [put32, low, rest 16, rest 8, rest 0, word.1, word.2.1, word.2.2]

/-! ## The fields of a request (Tables 11-6, 11-7a and 11-11) -/

/-- The bytes of a settings block that was read are the bytes it was read from. -/
theorem writeBlock_readBlock {l : List Byte} (h : l.length = 35) : writeBlock (readBlock l) = l := by
  refine List.ext_getElem (by rw [length_writeBlock, h]) fun i _ hi => ?_
  have at' (k : Nat) (hk : k < l.length) : byteAt l k = l[k] := by rw [byteAt, List.getD_eq_getElem _ _ hk]
  rw [← at' i hi]
  simp only [writeBlock, readBlock, put16_be16, put32_be32, List.cons_append, List.nil_append]
  rw [h] at hi
  interval_cases i <;> rfl

theorem writeMembers_of_read {n : Nat} {l : List Byte} {ms : List MemberField} (h : readMembers n l = some ms) :
    ms.length = n ∧ writeMembers ms = l := by
  induction n generalizing l ms with
  | zero =>
    cases l with
    | nil => cases h; exact ⟨rfl, rfl⟩
    | cons a l => cases h
  | succ n ih =>
    match l, h with
    | a :: b :: c :: rest, h =>
      obtain ⟨ms', read, rfl⟩ := Option.map_eq_some_iff.1 h
      obtain ⟨rfl, rfl⟩ := ih read
      exact ⟨rfl, rfl⟩

theorem typeCode_of_typeOf {c : Byte} {t : ReqType} (h : typeOf c = some t) : typeCode t = c :=
  beq_iff_eq.1 (List.find?_some (p := fun t => typeCode t == c) h)

/-- Fields that were written read back. -/
theorem readFields_writeFields (r : Request) (h : ∀ n m l, r = .define n m l → l.length ≤ 81) :
    readFields (requestType r) (writeFields r) = some r := by
  cases r with
  | define n m l =>
    have count : (byteOf l.length).toNat = l.length := by
      have := h n m l rfl
      rw [byteOf, BitVec.toNat_ofNat]
      omega
    simp only [requestType, readFields, writeFields, fieldsDefine, count, readMembers_writeMembers, Option.map_some]
  | setup n f b =>
    have flags := be24_parts f
    simp [requestType, readFields, writeFields, fieldsSetup, put24, length_writeBlock, readBlock_writeBlock, flags]
  | tgen n on v =>
    have level := be16_parts v
    simp [requestType, readFields, writeFields, fields4, put16, level]
  | _ => rfl

/-- The fields that a request was read from are those it writes, and its type is theirs. -/
theorem writeFields_of_read {t : ReqType} {l : List Byte} {r : Request} (h : readFields t l = some r) :
    requestType r = t ∧ writeFields r = l := by
  have none (f : Request) (h : fields0 f l = some r) : l = [] ∧ f = r := by
    match l, h with
    | [], h => exact ⟨rfl, Option.some.inj h⟩
  have one (f : Byte → Request) (h : fields1 f l = some r) : ∃ a, l = [a] ∧ f a = r := by
    match l, h with
    | [a], h => exact ⟨a, rfl, Option.some.inj h⟩
  have two (f : Byte → Byte → Request) (h : fields2 f l = some r) : ∃ a b, l = [a, b] ∧ f a b = r := by
    match l, h with
    | [a, b], h => exact ⟨a, b, rfl, Option.some.inj h⟩
  have three (f : Byte → Byte → Byte → Request) (h : fields3 f l = some r) : ∃ a b c, l = [a, b, c] ∧ f a b c = r := by
    match l, h with
    | [a, b, c], h => exact ⟨a, b, c, rfl, Option.some.inj h⟩
  have four (f : Byte → Byte → Byte → Byte → Request) (h : fields4 f l = some r) :
      ∃ a b c e, l = [a, b, c, e] ∧ f a b c e = r := by
    match l, h with
    | [a, b, c, e], h => exact ⟨a, b, c, e, rfl, Option.some.inj h⟩
  cases t with
  | ident | restart | status | routeq | poolq | counts => obtain ⟨rfl, rfl⟩ := none _ h; exact ⟨rfl, rfl⟩
  | portq | run | stop | delete | progq | lreset | mstop | tcheckq => obtain ⟨a, rfl, rfl⟩ := one _ h; exact ⟨rfl, rfl⟩
  | start | switch | aquery | aclear => obtain ⟨a, b, rfl, rfl⟩ := two _ h; exact ⟨rfl, rfl⟩
  | amask | meter => obtain ⟨a, b, c, rfl, rfl⟩ := three _ h; exact ⟨rfl, rfl⟩
  | port | tcheck => obtain ⟨a, b, c, e, rfl, rfl⟩ := four _ h; exact ⟨rfl, rfl⟩
  | tgen =>
    obtain ⟨a, b, c, e, rfl, rfl⟩ := four _ h
    exact ⟨rfl, by simp only [writeFields, put16_be16]⟩
  | route =>
    match l, h with
    | [a, b, c, e, f], h => cases h; exact ⟨rfl, rfl⟩
  | define =>
    match l, h with
    | a :: b :: c :: rest, h =>
      obtain ⟨ms, read, rfl⟩ := Option.map_eq_some_iff.1 h
      obtain ⟨count, bytes⟩ := writeMembers_of_read read
      have byte : byteOf ms.length = c := by rw [byteOf, count, BitVec.ofNat_toNat, BitVec.setWidth_eq]
      exact ⟨rfl, by simp only [writeFields, bytes, byte]⟩
  | setup =>
    match l, h with
    | a :: b :: c :: e :: rest, h =>
      simp only [readFields, fieldsSetup] at h
      split_ifs at h with length
      cases h
      exact ⟨rfl, by simp only [writeFields, put24_be24, writeBlock_readBlock length, List.cons_append, List.nil_append]⟩

/-! ## Bodies -/

theorem readBody_requestBody (tag : Byte) (r : Request) (h : ∀ n m l, r = .define n m l → l.length ≤ 81) :
    readBody (requestBody tag r) = .ok r := by
  have read : readFields (requestType r) ((requestBody tag r).drop 2) = some r := readFields_writeFields r h
  have type : typeOf (bodyType (requestBody tag r)) = some (requestType r) := typeOf_typeCode _
  simp only [readBody, type, read]

/-- What a body that reads as a request holds. -/
theorem readBody_eq_ok {body : List Byte} {r : Request} (h : readBody body = .ok r) :
    typeOf (bodyType body) = some (requestType r) ∧ writeFields r = body.drop 2 := by
  unfold readBody at h
  split at h
  · cases h
  · next t type =>
    split at h
    · cases h
    · next r' read =>
      cases h
      obtain ⟨rfl, bytes⟩ := writeFields_of_read read
      exact ⟨type, bytes⟩

/-- Settles O3: by the fields of each request type, both ways. -/
theorem requestBodiesReadBack : Obligations.RequestBodiesReadBack := by
  refine ⟨fun tag r h => ⟨readBody_requestBody tag r h, rfl⟩, fun body r two h => ?_⟩
  obtain ⟨type, bytes⟩ := readBody_eq_ok h
  match body, two with
  | a :: b :: rest, _ =>
    have code : typeCode (requestType r) = a := typeCode_of_typeOf type
    have fields : writeFields r = rest := bytes
    simp only [requestBody, code, fields]
    rfl

end Sys2Proof.Machine
end

section
/-!
PROOF. What the commands keep of the link (R180 to R190): the bounds of its queue and its reply list, and that no
frame waits which the executor could take.
-/

namespace Sys2Proof.Machine

variable {d e f : Device}

/-- What every command keeps of the link. -/
structure Device.LinkKeeps (d e : Device) : Prop where
  bounds : d.linkSound → e.linkSound
  served : d.linkServed → d.restartSound → e.linkServed ∧ e.restartSound

namespace Device.LinkKeeps

theorem refl (d : Device) : d.LinkKeeps d := ⟨id, .intro⟩

theorem trans (h : d.LinkKeeps e) (k : e.LinkKeeps f) : d.LinkKeeps f :=
  ⟨fun s => k.bounds (h.bounds s), fun s r => k.served (h.served s r).1 (h.served s r).2⟩

theorem traffic (h : d.SameTraffic e) : d.LinkKeeps e where
  bounds s := by
    unfold Device.linkSound Link.busyCount at *
    rwa [h.queue, h.replies]
  served s r := by
    unfold Device.linkServed Device.restartSound at *
    rw [h.queue, h.line, h.restart, h.ready, h.replies]
    exact ⟨s, r⟩

theorem ite {c : Prop} [Decidable c] (h : d.LinkKeeps e) (k : d.LinkKeeps f) : d.LinkKeeps (if c then e else f) := by
  split
  · exact h
  · exact k

theorem iteSelf {c : Prop} [Decidable c] (h : d.LinkKeeps e) : d.LinkKeeps (if c then e else d) := ite h (refl d)

/-- With the line and the queue empty and nothing waiting, all is well. -/
theorem ofReset (queue : e.link.queue = []) (replies : e.link.replies = []) (restart : e.link.restart = .none) :
    d.LinkKeeps e where
  bounds _ := by
    unfold Device.linkSound Link.busyCount
    rw [queue, replies]
    exact ⟨Nat.zero_le 4, Nat.zero_le 4, Nat.zero_le 1⟩
  served _ _ := ⟨.inl queue, fun a => by rw [restart] at a; cases a⟩

end Device.LinkKeeps

open Device.LinkKeeps

/-! ## Requests and the restart -/

theorem Device.setPort_link (d : Device) (p : Ix8) (on : Bool) (x : LaneSource) : (d.setPort p on x).link = d.link := by
  unfold Device.setPort Device.disablePort Device.startPort
  dsimp only
  split_ifs <;> rfl

theorem Device.rehunt_traffic (d : Device) (i : Ix2) : d.SameTraffic (d.rehunt i) := by
  unfold Device.rehunt
  split <;> exact .same rfl

theorem Device.putMap_traffic (d : Device) (q : Ix8) (k : Ix4) (x : MapEntry) : d.SameTraffic (d.putMap q k x) := by
  unfold Device.putMap
  have h : d.SameTraffic { d with map := d.map.set q ((d.map.get q).set k x) } := .same rfl
  exact .ite (.refl d) (h.trans (.foldl _ (fun i e => .iteSelf (e.rehunt_traffic i)) _))

theorem Device.silenceWhere_traffic (d : Device) (test : MapEntry → Bool) : d.SameTraffic (d.silenceWhere test) :=
  .foldl _ (fun q e => .foldl _ (fun k f => .iteSelf (f.putMap_traffic q k _)) e) d

theorem Device.define_traffic (d : Device) (n : Ix8) (l : List Member) : d.SameTraffic (d.define n l) := by
  unfold Device.define
  exact (d.modProg_traffic n _).trans (Device.silenceWhere_traffic _ _)

theorem Device.setup_traffic (d : Device) (n : Ix8) (f : BitVec 24) (b : SettingsBlock) (l : LoudMode) (c : ChangeMode) :
    d.SameTraffic (d.setup n f b l c) := by
  have apply (e : Device) : e.SameTraffic (e.applySetup n f) := by
    unfold Device.applySetup
    have a : e.SameTraffic (if present f 3 || present f 4 then e.modGain n fun g => g.clampTo (e.prog n).record.settings else e) :=
      .iteSelf (.same rfl)
    have b := a.trans (.iteSelf (c := present f 6 = true)
      (Device.modStage_traffic _ n fun g => g.startTrim (e.prog n).record.settings.trim))
    exact .ite (b.trans (.engine (Device.targetTrigger_engine _ n))) b
  unfold Device.setup
  have a := d.modProg_traffic n fun x => { x with record := { x.record with settings := x.record.settings.take f b l c } }
  have g := a.trans (.iteSelf (c := present f 9 = true) (Device.modCtx_traffic _ n fun x => { x with
    gapThreshold := amplitudeOf
      ((d.modRecord n fun r => { r with settings := r.settings.take f b l c }).prog n).record.settings.gapLevel }))
  exact .ite (g.trans (apply _)) g

theorem Device.runProgramme_traffic (d : Device) (n : Ix8) : d.SameTraffic (d.runProgramme n) := by
  unfold Device.runProgramme
  exact ((d.modProg_traffic n _).trans (.engine (Device.initialFill_engine _ n))).trans (Device.modAlarms_traffic _ _)

theorem Device.stopProgramme_traffic (d : Device) (n : Ix8) : d.SameTraffic (d.stopProgramme n) := by
  unfold Device.stopProgramme
  have a := ((d.modProg_traffic n fun x => { x with record := { x.record with state := .stopping } }).trans
    (.engine (Device.withdraw_engine _ n))).trans (Device.modCtx_traffic _ n Context.stop)
  have b := (a.trans (.engine (Device.stopDelay_engine _ n))).trans
    (.foldl (conditionsOf n) (fun a e => Device.modAlarms_traffic e fun u => u.force e.time.seconds a) _)
  exact (b.trans (Device.modMeter_traffic _ n Meter.stop)).trans (Device.modStage_traffic _ n _)

theorem Device.deleteProgramme_traffic (d : Device) (n : Ix8) : d.SameTraffic (d.deleteProgramme n) := by
  unfold Device.deleteProgramme
  exact ((d.modProg_traffic n _).trans (Device.silenceWhere_traffic _ fun e => e.names n 0)).trans
    (Device.modAlarms_traffic _ _)

/-- Only RESTART sets the restart going (R190). -/
theorem Device.carryOut_restart (d : Device) (r : Request) (h : r ≠ .restart) :
    (d.carryOut r).1.link.restart = d.link.restart := by
  cases r with
  | ident | status | routeq | poolq | mstop => rfl
  | counts => rfl
  | restart => exact absurd rfl h
  | portq a => exact congrArg (fun x => Link.restart (Device.link x)) (d.queries_same a 0).1
  | progq a => exact congrArg (fun x => Link.restart (Device.link x)) (d.queries_same a 0).2.1
  | aquery a b => exact congrArg (fun x => Link.restart (Device.link x)) (d.queries_same a b).2.2.1
  | tcheckq a => exact congrArg (fun x => Link.restart (Device.link x)) (d.queries_same a 0).2.2.2
  | start a b =>
    simp only [Device.carryOut, Device.requestStart]
    split
    · unfold Device.raiseRefLoss
      dsimp only
      split_ifs <;> rfl
    · rfl
  | port a b c g =>
    simp only [Device.carryOut, Device.requestPort]
    split
    · dsimp only
      rw [Device.setPort_link]
    · rfl
  | define a b ms =>
    simp only [Device.carryOut, Device.requestDefine]
    split
    · split_ifs
      · rfl
      · rfl
      · dsimp only
        exact (d.define_traffic _ _).restart
      · rfl
    · rfl
  | setup a g b =>
    simp only [Device.carryOut, Device.requestSetup]
    split
    · rfl
    · split
      · split_ifs
        · rfl
        · exact (d.setup_traffic _ _ _ _ _).restart
      · rfl
  | run a =>
    simp only [Device.carryOut, Device.requestRun]
    split
    · rfl
    · split
      · rfl
      · rfl
      · rfl
      · split_ifs
        · rfl
        · exact (d.runProgramme_traffic _).restart
  | stop a =>
    simp only [Device.carryOut, Device.requestStop]
    split
    · rfl
    · split
      · rfl
      · rfl
      · rfl
      · exact (d.stopProgramme_traffic _).restart
  | delete a =>
    simp only [Device.carryOut, Device.requestDelete]
    split
    · rfl
    · split_ifs
      · exact (d.deleteProgramme_traffic _).restart
      · rfl
  | switch a b =>
    simp only [Device.carryOut, Device.requestSwitch]
    split
    · split_ifs <;> rfl
    · rfl
  | lreset a =>
    simp only [Device.carryOut, Device.requestLreset]
    split
    · rfl
    · split_ifs <;> rfl
  | route a b c g i =>
    simp only [Device.carryOut, Device.requestRoute]
    split
    · split_ifs
      · exact (d.putMap_traffic _ _ _).restart
      · rfl
    · rfl
  | amask a b c =>
    simp only [Device.carryOut, Device.requestAmask]
    split <;> rfl
  | aclear a b =>
    simp only [Device.carryOut, Device.requestAclear]
    split <;> rfl
  | meter a b c =>
    simp only [Device.carryOut, Device.requestMeter]
    split_ifs <;> rfl
  | tgen a b v =>
    simp only [Device.carryOut, Device.requestTgen]
    split <;> rfl
  | tcheck a b c g =>
    simp only [Device.carryOut, Device.requestTcheck]
    split
    · rfl
    · split <;> rfl
    · rfl

/-- A body carried out leaves the restart alone, or is an accepted RESTART with its reply marked (R190). -/
theorem Device.performBody_restart (d : Device) (body : List Byte) :
    (d.performBody body).1.link.restart = d.link.restart ∨
      (replyTo body (d.performBody body).2).isRestart = true := by
  unfold Device.performBody
  split
  · exact .inl rfl
  · next r read =>
    unfold Device.perform
    split
    · exact .inl rfl
    · by_cases h : r = .restart
      · refine .inr ?_
        subst h
        have type := (readBody_eq_ok read).1
        simp only [replyTo, Answer.reply, type]
        rfl
      · exact .inl (d.carryOut_restart r h)

/-! ## The arbiter and the executor -/

theorem replyTo_executed (body : List Byte) (a : Answer) : (replyTo body a).executed = true := rfl

/-- The executor is not ready while the reply of an executed request waits. -/
theorem Link.ready_false {l : Link} {r : Reply} (h : r ∈ l.replies) (k : r.executed = true) : l.ready = false := by
  unfold Link.ready
  rw [Bool.and_eq_false_iff]
  exact .inl (List.all_eq_false.2 ⟨r, h, by simp [k]⟩)

/-- The executor takes nothing where no frame waits that it could take. -/
theorem Device.execute_served (h : d.linkServed) : d.execute = d := by
  unfold Device.execute
  split
  · rfl
  · next body rest queue =>
    refine if_neg fun ready => ?_
    obtain h | ⟨-, h⟩ | h := h
    · rw [queue] at h; cases h
    · rw [h] at ready; cases ready
    · simp [Link.ready, h] at ready

/-- Where the executor takes the head of the queue, its reply joins the list (R181, R183). -/
theorem Device.execute_ready {body : List Byte} {rest : List (List Byte)} (queue : d.link.queue = body :: rest)
    (ready : d.link.ready = true) :
    d.execute.link.queue = rest ∧ d.execute.link.line = d.link.line ∧
      ∃ a : Answer, d.execute.link.replies = d.link.replies ++ [replyTo body a] ∧
        (d.execute.link.restart = .none ∨ (replyTo body a).isRestart = true) := by
  have none : d.link.restart = .none := by
    unfold Link.ready at ready
    exact beq_iff_eq.1 ((Bool.and_eq_true _ _).mp ready).2
  unfold Device.execute
  rw [queue]
  simp only [ready, if_true]
  generalize hx : (d.modLink fun l => { l with queue := rest }) = x
  have frame := x.performBody_frame body
  have xq : x.link.queue = rest := by rw [← hx]; rfl
  have xr : x.link.replies = d.link.replies := by rw [← hx]; rfl
  have xl : x.link.line = d.link.line := by rw [← hx]; rfl
  have xs : x.link.restart = .none := by rw [← hx]; exact none
  refine ⟨frame.queue.trans xq, frame.line.trans xl, (x.performBody body).2, ?_, ?_⟩
  · simp only [Device.modLink_link, frame.replies, xr]
  · exact (x.performBody_restart body).imp_left (·.trans xs)

theorem Device.execute_bounds (h : d.linkSound) : d.execute.linkSound := by
  unfold Device.linkSound Link.busyCount at *
  obtain ⟨hq, hb, he⟩ := h
  cases queue : d.link.queue with
  | nil =>
    have same : d.execute = d := d.execute_served (.inl queue)
    rw [same]
    exact ⟨hq, hb, he⟩
  | cons body rest =>
    cases ready : d.link.ready with
    | false =>
      have same : d.execute = d := by unfold Device.execute; rw [queue]; simp only [ready]; rfl
      rw [same]
      exact ⟨hq, hb, he⟩
    | true =>
      obtain ⟨eq, -, a, er, -⟩ := Device.execute_ready queue ready
      have busy : d.link.replies.filter (fun r => r.executed) = [] := by
        unfold Link.ready at ready
        have all := ((Bool.and_eq_true _ _).mp ready).1
        simp only [List.all_eq_true, Bool.not_eq_true'] at all
        exact List.filter_eq_nil_iff.2 fun x hx => by simp [all x hx]
      rw [queue] at hq
      simp only [eq, er, List.filter_append, busy, List.filter_cons, replyTo_executed, List.filter_nil, List.length_append]
      simp only [List.length_cons] at hq
      simp only [Bool.not_true, if_true, List.length_nil, List.length_cons, Bool.false_eq_true, if_false, Nat.add_zero]
      exact ⟨by omega, hb, by omega⟩

theorem Device.execute_linkKeeps (d : Device) : d.LinkKeeps d.execute where
  bounds := Device.execute_bounds
  served s r := by rw [d.execute_served s]; exact ⟨s, r⟩

/-- What the arbiter leaves: nothing to choose on an idle line, whose restart may be due. -/
theorem Device.arbitrate_linkKeeps (d : Device) : d.LinkKeeps d.arbitrate := by
  unfold Device.arbitrate
  split
  · exact .refl d
  · next idle =>
    push Not at idle
    obtain ⟨idle, notDue⟩ := idle
    have free : d.link.line.isSome = false := by simpa using idle
    have queue (h : d.linkServed) : d.link.queue = [] := by
      obtain h | ⟨h, -⟩ | h := h
      · exact h
      · rw [free] at h; cases h
      · exact absurd h notDue
    have waits (h : d.restartSound) (a : d.link.restart = .awaiting) : ∃ r ∈ d.link.replies, r.isRestart = true := by
      obtain ⟨x, h, -⟩ | h := h a
      · rw [h] at free; cases free
      · exact h
    split
    · next r rest replies =>
      refine ⟨fun s => ?_, fun s k => ⟨.inl (queue s), fun a => ?_⟩⟩
      · unfold Device.linkSound Link.busyCount at *
        rw [replies] at s
        obtain ⟨hq, hb, he⟩ := s
        have sub (p : Reply → Bool) : (rest.filter p).length ≤ ((r :: rest).filter p).length :=
          ((List.sublist_cons_self r rest).filter p).length_le
        exact ⟨hq, (sub _).trans hb, (sub _).trans he⟩
      · obtain ⟨x, hx, marked⟩ := waits k a
        rw [replies] at hx
        cases hx with
        | head => exact .inl ⟨_, rfl, marked⟩
        | tail _ hx => exact .inr ⟨x, hx, marked⟩
    · next replies =>
      have idleRestart (k : d.restartSound) : d.link.restart ≠ .awaiting := fun a => by
        obtain ⟨x, hx, -⟩ := waits k a
        rw [replies] at hx
        cases hx
      split
      · exact ⟨id, fun s k => ⟨.inl (queue s), fun a => absurd a (idleRestart k)⟩⟩
      · split
        · exact ⟨id, fun s k => ⟨.inl (queue s), fun a => absurd a (idleRestart k)⟩⟩
        · exact .refl d

end Sys2Proof.Machine
end

section
/-!
PROOF. Every command keeps the bounds of the link and leaves no frame that the executor could take (R180 to R190).
-/

namespace Sys2Proof.Machine

variable {d e : Device} {s t : State}

/-! ## A completed frame (R180, R181) -/

/-- Nothing waits beside an idle line, unless a restart is due. -/
def Device.lineTaken (d : Device) : Prop := d.link.line.isSome = true ∨ d.link.restart = .due ∨ d.link.replies = []

theorem Device.arbitrate_lineTaken (d : Device) : d.arbitrate.lineTaken := by
  unfold Device.arbitrate
  split
  · next h => exact h.elim .inl fun h => .inr (.inl h)
  · split
    · exact .inl rfl
    · next replies =>
      split
      · exact .inl rfl
      · split
        · exact .inl rfl
        · exact .inr (.inr replies)

theorem Device.settleLink_linkKeeps (d : Device) : d.LinkKeeps d.settleLink :=
  d.arbitrate_linkKeeps.trans (Device.execute_linkKeeps _)

theorem Device.catchUp_linkKeeps (d : Device) : d.LinkKeeps d.catchUp :=
  (Device.LinkKeeps.traffic d.finish_traffic).trans (Device.settleLink_linkKeeps _)

theorem Device.catchUp_lineTaken (h : d.linkServed) (k : d.restartSound) : d.catchUp.lineTaken := by
  have f := (Device.LinkKeeps.traffic d.finish_traffic).served h k
  have a := d.finish.arbitrate_linkKeeps.served f.1 f.2
  unfold Device.catchUp Device.settleLink
  rw [Device.execute_served a.1]
  exact d.finish.arbitrate_lineTaken

/-- Beside an idle line the executor is ready, unless a restart is due. -/
theorem Device.lineTaken.held (h : d.lineTaken) (k : d.restartSound) (ready : d.link.ready = false) :
    d.link.line.isSome = true ∨ d.link.restart = .due := by
  obtain h | h | replies := h
  · exact .inl h
  · exact .inr h
  · cases restart : d.link.restart with
    | none =>
      unfold Link.ready at ready
      rw [replies, restart] at ready
      cases ready
    | due => exact .inr rfl
    | awaiting =>
      obtain ⟨x, line, -⟩ | ⟨r, mem, -⟩ := k restart
      · exact .inl (by rw [line]; rfl)
      · rw [replies] at mem; cases mem

/-- A frame offered to the link joins the queue, or is answered BUSY, or is counted alone (R180). -/
theorem Link.offer_cases (l : Link) (body : List Byte) :
    (l.queue.length < 4 ∧ l.offer body = { l with queue := l.queue ++ [body] }) ∨
      (4 ≤ l.queue.length ∧ l.busyCount < 4 ∧
        l.offer body = { l with replies := l.replies ++ [busyReply (bodyType body) (bodyTag body)] }) ∨
      (4 ≤ l.queue.length ∧ 4 ≤ l.busyCount ∧ l.offer body = l.countError) := by
  unfold Link.offer
  split_ifs with queue busy
  · exact .inl ⟨queue, rfl⟩
  · exact .inr (.inl ⟨by omega, busy, rfl⟩)
  · exact .inr (.inr ⟨by omega, by omega, rfl⟩)

/-- The part with a frame offered to its link. -/
def Device.offered (d : Device) (body : List Byte) : Device :=
  d.modLink fun l => { l.offer body with assembler := .awaitStart }

theorem Device.offered_bounds (body : List Byte) (h : d.linkSound) : (d.offered body).linkSound := by
  unfold Device.linkSound Device.offered at *
  obtain ⟨hq, hb, he⟩ := h
  simp only [Device.modLink_link]
  obtain ⟨room, offer⟩ | ⟨-, room, offer⟩ | ⟨-, -, offer⟩ := d.link.offer_cases body
  · rw [offer]
    exact ⟨by simp only [List.length_append, List.length_cons, List.length_nil]; omega, hb, he⟩
  · rw [offer]
    refine ⟨hq, ?_, ?_⟩
    · unfold Link.busyCount at *
      simp only [List.filter_append, List.length_append]
      exact room
    · simp only [List.filter_append, List.length_append]
      exact he
  · rw [offer]
    exact ⟨hq, hb, he⟩

/-- The executor, taking the one frame of the queue, leaves the link served. -/
theorem Device.execute_one {body : List Byte} (queue : d.link.queue = [body]) (ready : d.link.ready = true) :
    d.execute.linkServed ∧ d.execute.restartSound := by
  obtain ⟨empty, -, a, replies, restart⟩ := Device.execute_ready queue ready
  refine ⟨.inl empty, fun awaiting => ?_⟩
  obtain none | marked := restart
  · rw [none] at awaiting; cases awaiting
  · exact .inr ⟨_, by rw [replies]; exact List.mem_append_right _ (List.mem_singleton_self _), marked⟩

theorem Device.offered_served (body : List Byte) (h : d.linkServed) (k : d.restartSound) (idle : d.lineTaken) :
    (d.offered body).execute.linkServed ∧ (d.offered body).execute.restartSound := by
  have settled (e : Device) (h : e.linkServed) (k : e.restartSound) : e.execute.linkServed ∧ e.execute.restartSound := by
    rw [Device.execute_served h]
    exact ⟨h, k⟩
  obtain ⟨-, offer⟩ | ⟨full, -, offer⟩ | ⟨-, -, offer⟩ := d.link.offer_cases body
  · cases ready : d.link.ready with
    | true =>
      refine Device.execute_one (body := body) ?_ ?_
      · obtain empty | ⟨-, h⟩ | h := h
        · simp only [Device.offered, Device.modLink_link, offer, empty, List.nil_append]
        · rw [h] at ready; cases ready
        · simp [Link.ready, h] at ready
      · simp only [Device.offered, Device.modLink_link, offer]
        exact ready
    | false =>
      refine settled _ ?_ ?_
      · obtain line | due := idle.held k ready
        · exact .inr (.inl (by simp only [Device.offered, Device.modLink_link, offer]; exact ⟨line, ready⟩))
        · exact .inr (.inr (by simp only [Device.offered, Device.modLink_link, offer]; exact due))
      · unfold Device.restartSound Device.offered
        simp only [Device.modLink_link, offer]
        exact k
  · have held : (d.link.line.isSome = true ∧ d.link.ready = false) ∨ d.link.restart = .due := by
      obtain h | h := h
      · rw [h] at full; simp at full
      · exact h
    refine settled _ ?_ fun awaiting => ?_
    · unfold Device.linkServed Device.offered
      simp only [Device.modLink_link, offer]
      refine .inr (held.imp_left fun ⟨line, ready⟩ => ⟨line, ?_⟩)
      unfold Link.ready at *
      simp only [List.all_append]
      rw [Bool.and_eq_false_iff] at ready ⊢
      exact ready.imp_left fun h => by rw [h]; rfl
    · unfold Device.offered at awaiting ⊢
      simp only [Device.modLink_link, offer] at awaiting ⊢
      exact (k awaiting).imp_right fun ⟨r, mem, marked⟩ => ⟨r, List.mem_append_left _ mem, marked⟩
  · refine settled _ ?_ ?_
    · unfold Device.linkServed Device.offered
      simp only [Device.modLink_link, offer]
      exact h
    · unfold Device.restartSound Device.offered
      simp only [Device.modLink_link, offer]
      exact k

theorem Device.completeFrame_linkKeeps (d : Device) (body : List Byte) : d.LinkKeeps (d.completeFrame body) where
  bounds s := Device.execute_bounds (Device.offered_bounds body (d.catchUp_linkKeeps.bounds s))
  served s k :=
    have c := d.catchUp_linkKeeps.served s k
    Device.offered_served body c.1 c.2 (Device.catchUp_lineTaken s k)

theorem Device.frameReceived_linkKeeps (d : Device) (body : List Byte) (crc : BitVec 16) :
    d.LinkKeeps (d.frameReceived body crc) :=
  .iteSelf (.ite (d.completeFrame_linkKeeps body) (.traffic ⟨rfl, rfl, rfl, rfl⟩))

theorem Device.requestFrame_linkKeeps (d : Device) (body : List Byte) : d.LinkKeeps (d.requestFrame body) :=
  .iteSelf (d.completeFrame_linkKeeps body)

theorem Device.receiveByte_linkKeeps (d : Device) (b : Byte) (stopLow : Bool) : d.LinkKeeps (d.receiveByte b stopLow) := by
  refine .ite (.traffic ?_) ?_
  · unfold Link.framingError
    constructor <;> simp only [Device.modLink_link] <;> split <;> rfl
  · unfold Device.assemble
    split
    · exact .iteSelf (.traffic ⟨rfl, rfl, rfl, rfl⟩)
    · exact .ite (.traffic ⟨rfl, rfl, rfl, rfl⟩) (.traffic ⟨rfl, rfl, rfl, rfl⟩)
    · exact .ite (.traffic ⟨rfl, rfl, rfl, rfl⟩) (.traffic ⟨rfl, rfl, rfl, rfl⟩)
    · exact .traffic ⟨rfl, rfl, rfl, rfl⟩
    · exact d.frameReceived_linkKeeps _ _

/-! ## The line comes free (R184, R190) -/

/-- What the line's end leaves of the link. -/
theorem Link.lineFree_cases (l : Link) : (l.line = none ∧ l.lineFree = l) ∨
    ∃ t, l.line = some t ∧ l.lineFree = { l with line := none, restart := if t.isRestart then .due else l.restart } := by
  unfold Link.lineFree
  cases l.line with
  | none => exact .inl ⟨rfl, rfl⟩
  | some t => exact .inr ⟨t, rfl, rfl⟩

/-- The executor beside a busy line leaves the link served, whatever waits. -/
theorem Device.execute_busy (line : d.link.line.isSome = true) (k : d.restartSound) :
    d.execute.linkServed ∧ d.execute.restartSound := by
  cases ready : d.link.ready with
  | false =>
    rw [Device.execute_served (.inr (.inl ⟨line, ready⟩))]
    exact ⟨.inr (.inl ⟨line, ready⟩), k⟩
  | true =>
    cases queue : d.link.queue with
    | nil =>
      rw [Device.execute_served (.inl queue)]
      exact ⟨.inl queue, k⟩
    | cons body rest =>
      obtain ⟨-, same, a, replies, restart⟩ := Device.execute_ready queue ready
      have mem : replyTo body a ∈ d.execute.link.replies := by
        rw [replies]
        exact List.mem_append_right _ (List.mem_singleton_self _)
      refine ⟨.inr (.inl ⟨by rw [same]; exact line, Link.ready_false mem (replyTo_executed body a)⟩), fun awaiting => ?_⟩
      obtain none | marked := restart
      · rw [none] at awaiting; cases awaiting
      · exact .inr ⟨_, mem, marked⟩

/-- With the line free, what is served is served again once the arbiter and the executor have acted. -/
theorem Device.settleLink_served (h : d.linkServed) (k : d.restartSound) :
    (d.modLink Link.lineFree).settleLink.linkServed ∧ (d.modLink Link.lineFree).settleLink.restartSound := by
  obtain ⟨-, same⟩ | ⟨t, line, free⟩ := d.link.lineFree_cases
  · rw [d.modLink_eq _ same]
    exact d.settleLink_linkKeeps.served h k
  generalize hx : d.modLink Link.lineFree = x
  have link : x.link = { d.link with line := none, restart := if t.isRestart then .due else d.link.restart } := by
    rw [← hx, Device.modLink_link, free]
  cases marked : t.isRestart with
  | true =>
    have due : x.link.restart = .due := by rw [link, marked]; rfl
    exact x.settleLink_linkKeeps.served (.inr (.inr due)) fun a => by rw [due] at a; cases a
  | false =>
    have restart : x.link.restart = d.link.restart := by rw [link, marked]; rfl
    have waits (a : x.link.restart = .awaiting) : ∃ r ∈ x.link.replies, r.isRestart = true := by
      obtain ⟨y, hy, yes⟩ | ⟨r, mem, yes⟩ := k (restart ▸ a)
      · rw [line] at hy
        cases hy
        rw [marked] at yes
        cases yes
      · exact ⟨r, by rw [link]; exact mem, yes⟩
    cases replies : x.link.replies with
    | nil =>
      have sound : x.restartSound := fun a => by
        obtain ⟨r, mem, -⟩ := waits a
        rw [replies] at mem
        cases mem
      refine x.settleLink_linkKeeps.served ?_ sound
      obtain empty | ⟨-, ready⟩ | due := h
      · exact .inl (by rw [link]; exact empty)
      · refine .inr (.inr ?_)
        cases r : x.link.restart with
        | none =>
          have dr : d.link.replies = [] := by rw [link] at replies; exact replies
          unfold Link.ready at ready
          rw [dr, restart.symm.trans r] at ready
          cases ready
        | awaiting => exact absurd replies (by obtain ⟨r, mem, -⟩ := waits r; exact List.ne_nil_of_mem mem)
        | due => rfl
      · exact .inr (.inr (restart.trans due))
    | cons r rest =>
      by_cases due : x.link.restart = .due
      · exact x.settleLink_linkKeeps.served (.inr (.inr due)) fun a => by rw [due] at a; cases a
      · have idle : x.link.line = none := by rw [link]
        have taken : x.arbitrate = x.modLink fun l => { l with replies := rest, line := some r.transmission } := by
          unfold Device.arbitrate
          rw [if_neg (by simp [idle, due]), replies]
        unfold Device.settleLink
        rw [taken]
        refine Device.execute_busy rfl fun awaiting => ?_
        obtain ⟨y, mem, yes⟩ := waits awaiting
        rw [replies] at mem
        cases mem with
        | head => exact .inl ⟨_, rfl, yes⟩
        | tail _ mem => exact .inr ⟨y, mem, yes⟩

theorem Link.lineFree_bounds (d : Device) : d.linkSound → (d.modLink Link.lineFree).linkSound := by
  unfold Device.linkSound Link.busyCount
  simp only [Device.modLink_link]
  obtain ⟨-, free⟩ | ⟨t, -, free⟩ := d.link.lineFree_cases <;> rw [free] <;> exact id

theorem Device.transmitLineFree_linkKeeps (d : Device) : d.LinkKeeps d.transmitLineFree := by
  have a := (Device.LinkKeeps.traffic d.finish_traffic).trans (Device.arbitrate_linkKeeps _)
  refine ⟨fun h => ?_, fun h k => ?_⟩
  · exact (Device.settleLink_linkKeeps _).bounds (Link.lineFree_bounds _ (a.bounds h))
  · exact Device.settleLink_served (a.served h k).1 (a.served h k).2

/-! ## Resets, the house sample and the step -/

theorem Device.subBlockEnd_traffic (d : Device) : d.SameTraffic d.subBlockEnd := .iteSelf d.takeBoundary_traffic

theorem Device.secondBoundary_traffic (d : Device) : d.SameTraffic d.secondBoundary := .iteSelf d.takeBoundary_traffic

theorem Device.frameArrival_traffic (d : Device) (p : Ix8) (f : LaneInput) : d.SameTraffic (d.frameArrival p f) :=
  .iteSelf (d.arrive_traffic p f)

theorem Device.presenceWindowEnd_traffic (d : Device) : d.SameTraffic d.presenceWindowEnd := by
  unfold Device.presenceWindowEnd
  refine .iteSelf ?_
  simp only
  split <;> exact .same rfl

theorem Device.raiseRefLoss_link (d : Device) : d.raiseRefLoss.link = d.link := by
  unfold Device.raiseRefLoss
  split <;> rfl

theorem Device.restartPerformed_linkKeeps (d : Device) : d.LinkKeeps d.restartPerformed := by
  have link : d.restarted.link = { Link.reset with part := .run } := by
    unfold Device.restarted
    exact Device.raiseRefLoss_link _
  exact .iteSelf (.ofReset (by rw [link]; rfl) (by rw [link]; rfl) (by rw [link]; rfl))

theorem Device.settle_linkKeeps (d : Device) : d.LinkKeeps d.settle := by
  have a := d.catchUp_linkKeeps.trans (.traffic (.forEight (g := Device.settlePort) (fun p e => e.settlePort_traffic p) _))
  have b := a.trans (.traffic (.forEight (g := fun e n => (e.crossfadeCompletion n).told)
    (fun n e => (e.crossfadeCompletion_traffic n).told) _))
  have c := b.trans (.traffic (Device.settleLines_traffic _))
  exact (c.trans (.traffic (.forEight (g := Device.crossfadeStart) (fun n e => e.crossfadeStart_traffic n) _))).trans
    (Device.catchUp_linkKeeps _)

theorem Device.prepare_linkKeeps (d : Device) : d.LinkKeeps d.prepare := by
  have a := d.settle_linkKeeps
  unfold Device.prepare
  exact .ite ((a.trans (.traffic (Device.takeBoundary_traffic _))).trans (Device.settle_linkKeeps _)) a

theorem Device.houseSample_linkKeeps (d : Device) (p : Pace) : d.LinkKeeps (d.houseSample p) := by
  have pace (e : Device) : e.LinkKeeps (e.pace p) := by
    have a : e.LinkKeeps { e with time := e.time.paced p (e.time.makes p) } := .traffic (.same rfl)
    exact a.trans (.iteSelf ((Device.prepare_linkKeeps _).trans (.traffic (Device.work_traffic _))))
  exact d.restartPerformed_linkKeeps.trans (pace _)

/-- A command that comes after everything left undone and leaves the link alone. -/
theorem Device.LinkKeeps.prompt {f : Device → Device} (h : ∀ d, Device.SameTraffic d (f d)) (d : Device) :
    d.LinkKeeps (f d.catchUp) := d.catchUp_linkKeeps.trans (.traffic (h _))

/-- Every command keeps the bounds of the link and what is served. -/
theorem exec_linkKeeps (i : Instr) (s : State) : ∃ e, exec i s = .next { s with dev := e } ∧ s.dev.LinkKeeps e := by
  cases hr : i.request with
  | some x => exact ⟨_, exec_request hr, s.dev.requestFrame_linkKeeps _⟩
  | none =>
    cases i with
    | powerOnReset => exact ⟨_, rfl, .ofReset rfl rfl rfl⟩
    | lineReset => exact ⟨_, rfl, .ofReset rfl rfl rfl⟩
    | houseSample pace => exact ⟨_, rfl, s.dev.houseSample_linkKeeps pace⟩
    | subBlockEnd => exact ⟨_, rfl, .prompt Device.subBlockEnd_traffic _⟩
    | secondBoundary => exact ⟨_, rfl, .prompt Device.secondBoundary_traffic _⟩
    | presenceWindowEnd => exact ⟨_, rfl, .prompt Device.presenceWindowEnd_traffic _⟩
    | frameArrival p f => exact ⟨_, rfl, .prompt (fun d => d.frameArrival_traffic p f) _⟩
    | laneDarkTimeout p => exact ⟨_, rfl, .prompt (fun d => d.laneDark_traffic p) _⟩
    | intervalEnd p => exact ⟨_, rfl, .prompt (fun d => d.intervalEnd_traffic p) _⟩
    | lockCountExpiry p => exact ⟨_, rfl, .prompt (fun d => d.modConv_traffic p _) _⟩
    | underrunWaitEnd p => exact ⟨_, rfl, .prompt (fun d => d.underrunWaitEnd_traffic p) _⟩
    | converterFadeInEnd p => exact ⟨_, rfl, .prompt (fun d => d.modConv_traffic p _) _⟩
    | holdoverFadeOutEnd p => exact ⟨_, rfl, .prompt (fun d => d.modConv_traffic p _) _⟩
    | holdoverRefillEnd p => exact ⟨_, rfl, .prompt (fun d => d.holdoverRefillEnd_traffic p) _⟩
    | holdoverTimerExpiry p => exact ⟨_, rfl, .prompt (fun d => d.modPort_traffic p _) _⟩
    | crossfadeStart n => exact ⟨_, rfl, .prompt (fun d => d.crossfadeStart_traffic n) _⟩
    | crossfadeCompletion n => exact ⟨_, rfl, .prompt (fun d => d.crossfadeCompletion_traffic n) _⟩
    | returnTimerExpiry n => exact ⟨_, rfl, .traffic (s.dev.returnExpiry_traffic n)⟩
    | grant => exact ⟨_, rfl, .traffic (.engine ((s.dev.grantTest_engine none).trans (Device.takeNotice_engine _)))⟩
    | slewAction n m => exact ⟨_, rfl, .prompt (fun d => .engine (d.slewAction_engine n m)) _⟩
    | fadeOutEnd n => exact ⟨_, rfl, .prompt (fun d => .engine (d.fadeOutEnd_engine n)) _⟩
    | freezeEnd n m => exact ⟨_, rfl, .prompt (fun d => .engine (d.freezeEnd_engine n m)) _⟩
    | gapEnd n => exact ⟨_, rfl, .prompt (fun d => .engine (d.gapEnd_engine n)) _⟩
    | fadeInEnd n => exact ⟨_, rfl, .prompt (fun d => .engine (d.fadeInEnd_engine n)) _⟩
    | stopFadeEnd n => exact ⟨_, rfl, .prompt (fun d => d.stopFadeEnd_traffic n) _⟩
    | appliedGainRampEnd n m => exact ⟨_, rfl, .prompt (fun d => d.modStage_traffic n _) _⟩
    | trimRampEnd n => exact ⟨_, rfl, .prompt (fun d => d.modStage_traffic n _) _⟩
    | checkerSync c => exact ⟨_, rfl, .traffic (s.dev.checkerSync_traffic c)⟩
    | checkerLoss c => exact ⟨_, rfl, .traffic (s.dev.checkerLoss_traffic c)⟩
    | setTimerExpiry k x => exact ⟨_, rfl, .traffic (s.dev.setTimerExpiry_traffic k x)⟩
    | clearTimerExpiry k x => exact ⟨_, rfl, .traffic (s.dev.clearTimerExpiry_traffic k x)⟩
    | frameReceived body crc => exact ⟨_, rfl, s.dev.frameReceived_linkKeeps body crc⟩
    | interByteTimeout => exact ⟨_, rfl, .traffic ⟨rfl, rfl, rfl, rfl⟩⟩
    | transmitLineFree => exact ⟨_, rfl, s.dev.transmitLineFree_linkKeeps⟩
    | restartPerformed => exact ⟨_, rfl, s.dev.restartPerformed_linkKeeps⟩
    | unknownType type tag fields => exact ⟨_, rfl, s.dev.requestFrame_linkKeeps _⟩
    | receivedByte byte stopLow => exact ⟨_, rfl, s.dev.receiveByte_linkKeeps byte stopLow⟩
    | _ => cases hr

theorem step_linkKeeps (h : step s = .next t) : s.dev.LinkKeeps t.dev := by
  unfold step at h
  split at h
  · cases h
    exact .refl _
  · next c rest _ =>
    obtain ⟨e, run, keeps⟩ := exec_linkKeeps c { s with pending := rest }
    rw [run] at h
    cases h
    exact keeps

/-- Settles O58: the arbiter, the executor and the arrival of a frame keep both, and nothing else touches what the
link carries. -/
theorem stepKeepsTheLinkBounds : Obligations.StepKeepsTheLinkBounds :=
  ⟨fun _ _ sound h => (step_linkKeeps h).bounds sound, fun _ _ served restart h => (step_linkKeeps h).served served restart⟩

end Sys2Proof.Machine
end

section
/-!
PROOF. One step, the receive assembler, the completed frame and the checks of the executor (R176 to R182, R188).
-/

namespace Sys2Proof.Machine

variable {d e : Device} {s : State} {i : Instr} {tag : Byte} {r : Request}

/-- Settles O1: a request row and the arrival of its frame are the same completion. -/
theorem stepRunsTheFrontCommand : Obligations.StepRunsTheFrontCommand := by
  refine ⟨fun _ _ _ => rfl, fun _ => rfl, fun i tag r s h => ?_⟩
  have arrival : exec (.frameReceived (requestBody tag r) (frameCrc (requestBody tag r))) s =
      .next { s with dev := s.dev.frameReceived (requestBody tag r) (frameCrc (requestBody tag r)) } := rfl
  rw [exec_request h, arrival, Device.frameReceived, Device.requestFrame]
  simp only [if_true]

/-! ## The receive assembler (R176, R178) -/

theorem exec_receivedByte (b : Byte) (s : State) :
    exec (.receivedByte b false) s = .next { s with dev := s.dev.assemble b } := rfl

theorem exec_receivedByte_low (b : Byte) (s : State) :
    exec (.receivedByte b true) s = .next { s with dev := s.dev.modLink Link.framingError } := rfl

theorem Link.framingError_awaitStart {l : Link} (h : l.assembler = .awaitStart) : l.framingError = l := by
  simp only [Link.framingError, h]

theorem Link.framingError_busy {l : Link} (h : l.assembler ≠ .awaitStart) :
    l.framingError = { l.countError with assembler := .awaitStart } := by
  unfold Link.framingError
  split
  · next e => exact absurd e h
  all_goals rfl

/-- Settles O5: by the state of the assembler. -/
theorem assemblerTakesBytes : Obligations.AssemblerTakesBytes := by
  intro b s
  refine ⟨rfl, fun start => ⟨?_, ?_⟩, fun busy => ?_, fun length => ⟨fun fits => ?_, fun short => ?_⟩,
    fun n kept body => ⟨fun more => ?_, fun last => ?_⟩, fun body check => ?_⟩
  · rw [exec_receivedByte, Device.assemble]
    simp only [start, if_true]
    rfl
  · rw [exec_receivedByte_low, s.dev.modLink_eq _ (Link.framingError_awaitStart start)]
  · rw [exec_receivedByte_low, Device.modLink, Link.framingError_busy busy]
    rfl
  · rw [exec_receivedByte, Device.assemble]
    simp only [length, if_pos fits]
    rfl
  · rw [exec_receivedByte, Device.assemble]
    simp only [length, if_neg (show ¬ (2 ≤ b.toNat ∧ b.toNat ≤ 250) by omega)]
    rfl
  · rw [exec_receivedByte, Device.assemble]
    simp only [body, List.length_append, List.length_cons, List.length_nil, if_neg (show ¬ n ≤ kept.length + (0 + 1) by omega)]
    rfl
  · rw [exec_receivedByte, Device.assemble]
    simp only [body, List.length_append, List.length_cons, List.length_nil, if_pos (show n ≤ kept.length + (0 + 1) by omega)]
    rfl
  · rw [exec_receivedByte, Device.assemble]
    simp only [check]
    rfl

/-! ## A completed frame (R179, R180) -/

theorem Link.offer_line (l : Link) (body : List Byte) : (l.offer body).line = l.line := by
  unfold Link.offer
  split_ifs <;> rfl

theorem Link.offer_ready {l : Link} (h : l.ready = false) (body : List Byte) : (l.offer body).ready = false := by
  obtain ⟨-, offer⟩ | ⟨-, -, offer⟩ | ⟨-, -, offer⟩ := l.offer_cases body
  · rw [offer]; exact h
  · unfold Link.ready at *
    rw [Bool.and_eq_false_iff] at h
    simp only [offer, List.all_append, Bool.and_eq_false_iff]
    exact h.imp_left .inl
  · rw [offer]; exact h

/-- With the executor held a complete frame is offered to the link, and that is all. -/
theorem Device.completeFrame_held (h : d.linkHeld) (body : List Byte) : d.completeFrame body = d.offered body := by
  rw [Device.completeFrame, Device.catchUp_calm h.calm]
  obtain ⟨line, ready, -⟩ := h
  refine Device.execute_served (d := d.offered body) (.inr (.inl ⟨?_, Link.offer_ready ready body⟩))
  simp only [Device.offered, Device.modLink_link, Link.offer_line, line]

theorem exec_frameReceived (body : List Byte) (crc : BitVec 16) (s : State) :
    exec (.frameReceived body crc) s = .next { s with dev := s.dev.frameReceived body crc } := rfl

theorem bodyFits_of_fitsFrame {body : List Byte} (h : fitsFrame body.length = true) : bodyFits body = true := h

theorem Device.frameReceived_good {body : List Byte} (h : bodyFits body = true) (d : Device) :
    d.frameReceived body (frameCrc body) = d.completeFrame body := by
  rw [Device.frameReceived, if_pos h, if_pos rfl]

/-- A body that the executor refuses leaves the part and a refusal. -/
theorem Device.performBody_error {body : List Byte} {x : Reason} (h : readBody body = .error x) :
    d.performBody body = (d, .refused x) := by simp only [Device.performBody, h]

theorem replyTo_refused (body : List Byte) (x : Reason) :
    replyTo body (.refused x) = refusedReply (replyType (bodyType body)) (bodyTag body) x := by
  have mark : (typeOf (bodyType body) == some .restart && (Answer.refused x).status == .ok) = false := by
    rw [Bool.and_eq_false_iff]
    exact .inr rfl
  simp only [replyTo, mark]
  rfl

/-- With the link at rest a frame whose body is refused is answered, and nothing else. -/
theorem exec_frameReceived_refused {body : List Byte} {x : Reason} (fits : bodyFits body = true)
    (quiet : s.dev.linkQuiet) (h : readBody body = .error x) :
    exec (.frameReceived body (frameCrc body)) s =
      .next (s.answered s.dev (refusedReply (replyType (bodyType body)) (bodyTag body) x)) := by
  have run := Device.requestFrame_answered quiet (body := body) fits s
  rw [Device.performBody_error h, replyTo_refused, Device.requestFrame, if_pos fits] at run
  rw [exec_frameReceived, Device.frameReceived_good fits, run]

/-- Settles O6: by the CRC, the length of the queue and the BUSY count. -/
theorem completedFramesAreJudgedAndQueued : Obligations.CompletedFramesAreJudgedAndQueued := by
  intro body crc s fits
  replace fits := bodyFits_of_fitsFrame fits
  refine ⟨fun bad => ?_, fun good held room => ?_, fun good held full => ⟨fun few => ?_, fun many => ?_⟩,
    fun x good quiet refused => ?_⟩
  · rw [exec_frameReceived, Device.frameReceived, if_pos fits, if_neg bad]
    rfl
  all_goals subst good
  · rw [exec_frameReceived, Device.frameReceived_good fits, Device.completeFrame_held held, Device.offered,
      Device.modLink, Link.offer, if_pos room]
  · rw [exec_frameReceived, Device.frameReceived_good fits, Device.completeFrame_held held, Device.offered,
      Device.modLink, Link.offer, if_neg (by omega), if_pos few]
    rfl
  · rw [exec_frameReceived, Device.frameReceived_good fits, Device.completeFrame_held held, Device.offered,
      Device.modLink, Link.offer, if_neg (by omega), if_neg (by omega)]
    rfl
  · exact exec_frameReceived_refused fits quiet refused

/-! ## The checks of the executor (R181, R188) -/

/-- A well-formed request's body reads back (Table 11-5). -/
theorem readBody_request (h : i.request = some (tag, r)) (w : i.wellFormed = true) :
    readBody (requestBody tag r) = .ok r := by
  refine readBody_requestBody tag r fun n m l define => ?_
  subst define
  cases i <;> simp [Instr.request] at h
  obtain ⟨rfl, rfl, rfl, rfl⟩ := h
  simp [Instr.wellFormed, fitsFrame] at w
  omega

/-- With the link at rest a well-formed request is carried out and answered. -/
theorem exec_request_answered (h : i.request = some (tag, r)) (w : i.wellFormed = true) (quiet : s.dev.linkQuiet) :
    exec i s = .next (s.answered (s.dev.perform r).1
      ((s.dev.perform r).2.reply (typeCode (requestType r)) tag
        (requestType r == .restart && (s.dev.perform r).2.status == .ok))) :=
  exec_request_quiet h w quiet (readBody_request h w)

theorem replyType_typeCode (t : ReqType) : replyType (typeCode t) = typeCode t + 0x80 := by cases t <;> rfl

/-- With the link at rest a well-formed request that is refused is answered, and nothing else. -/
theorem exec_request_refused {x : Reason} (h : i.request = some (tag, r)) (w : i.wellFormed = true)
    (quiet : s.dev.linkQuiet) (refused : s.dev.perform r = (s.dev, .refused x)) :
    exec i s = .next (s.answered s.dev (refusedReply (typeCode (requestType r) + 0x80) tag x)) := by
  have mark : (requestType r == .restart && (Answer.refused x).status == .ok) = false := by
    rw [Bool.and_eq_false_iff]
    exact .inr rfl
  rw [exec_request_answered h w quiet, refused]
  simp only [mark, Answer.reply, replyType_typeCode]
  rfl

/-- With the link at rest a well-formed request other than RESTART is answered OK or CLAMPED with its fields. -/
theorem exec_request_executed (h : i.request = some (tag, r)) (w : i.wellFormed = true) (quiet : s.dev.linkQuiet)
    {a : Answer} (run : s.dev.perform r = (e, a)) (other : requestType r ≠ .restart) :
    exec i s = .next (s.answered e (executedReply (typeCode (requestType r) + 0x80) tag a.status a.segments)) := by
  have mark : (requestType r == .restart && a.status == .ok) = false := by
    rw [Bool.and_eq_false_iff]
    exact .inl (beq_false_of_ne other)
  rw [exec_request_answered h w quiet, run]
  simp only [mark, Answer.reply, replyType_typeCode]
  rfl

/-- The fields of a request have the length of Table 11-5. -/
theorem readFields_length {t : ReqType} {l : List Byte} (h : readFields t l = some r) : l.length + 2 = tableLength t l := by
  obtain ⟨rfl, rfl⟩ := writeFields_of_read h
  cases r with
  | define a b ms =>
    obtain ⟨ms', read, -⟩ := Option.map_eq_some_iff.1 h
    have count := (writeMembers_of_read read).1
    have bytes := (writeMembers_of_read read).2
    have length := congrArg List.length bytes
    rw [length_writeMembers, length_writeMembers, count] at length
    have third : byteAt (writeFields (.define a b ms)) 2 = byteOf ms.length := rfl
    simp only [tableLength, requestType, third]
    simp only [writeFields, List.length_cons, length_writeMembers]
    omega
  | setup a f b => simp [writeFields, requestType, tableLength, put24, length_writeBlock]
  | _ => rfl

theorem stateRefusal_config {t : ReqType} (ident : t ≠ .ident) (status : t ≠ .status) (start : t ≠ .start) :
    stateRefusal .config t = some .notStarted := by
  unfold stateRefusal
  split <;> simp_all

/-- Settles O8: an unknown type, a wrong length and a refusing part state leave the part alone. -/
theorem typeLengthAndPartStateAreChecked : Obligations.TypeLengthAndPartStateAreChecked := by
  intro s quiet
  refine ⟨fun type tag fields short unknown => ?_, fun t tag fields short wrong => ?_,
    fun i tag r h w => ⟨fun config a b c => ?_, fun run start => ?_⟩⟩
  · have fits : bodyFits (type :: tag :: fields) = true := by simp [bodyFits]; omega
    have none : typeOf type = none := by
      cases found : typeOf type with
      | none => rfl
      | some t => exact absurd (typeCode_of_typeOf found) (unknown t)
    have refused : readBody (type :: tag :: fields) = .error .unknownType := by
      have : typeOf (bodyType (type :: tag :: fields)) = Option.none := none
      simp only [readBody, this]
    have run := Device.requestFrame_answered quiet (body := type :: tag :: fields) fits s
    rw [Device.performBody_error refused, replyTo_refused] at run
    exact congrArg Host.Outcome.next run
  · have fits : bodyFits (typeCode t :: tag :: fields) = true := by simp [bodyFits]; omega
    have refused : readBody (typeCode t :: tag :: fields) = .error .badLength := by
      have type : typeOf (bodyType (typeCode t :: tag :: fields)) = some t := typeOf_typeCode t
      have none : readFields t ((typeCode t :: tag :: fields).drop 2) = none := by
        cases read : readFields t fields with
        | none => exact read
        | some r => exact absurd (readFields_length read) wrong
      simp only [readBody, type, none]
    have run := exec_frameReceived_refused fits quiet refused
    rwa [show replyType (bodyType (typeCode t :: tag :: fields)) = typeCode t + 0x80 from replyType_typeCode t] at run
  · refine exec_request_refused h w quiet ?_
    have refusal : stateRefusal s.dev.link.part (requestType r) = some .notStarted := by
      rw [config, stateRefusal_config a b c]
    simp only [Device.perform, refusal]
  · have refused := exec_request_refused (x := .wrongState) h w quiet (by
      have refusal : stateRefusal s.dev.link.part (requestType r) = some .wrongState := by rw [run, start]; rfl
      simp only [Device.perform, refusal])
    rw [start] at refused
    exact refused

end Sys2Proof.Machine
end

section
/-!
PROOF. Every request is answered once, and a refused request changes nothing (R3, R181, R182).
-/

namespace Sys2Proof.Machine

variable {d e : Device} {s : State} {x : Reason}

/-! ## A refusal changes nothing -/

/-- A result of a request that is no refusal, or a refusal that leaves the part alone. -/
def Device.Clean (d : Device) (y : Device × Answer) : Prop := ∀ x, y.2.status = .refused x → y = (d, .refused x)

theorem Device.Clean.refused (d : Device) (x : Reason) : d.Clean (d, .refused x) := fun y h => by
  cases h
  rfl

theorem Device.Clean.ok (d e : Device) (l : List Byte) : d.Clean (e, .ok l) := fun _ h => by cases h

theorem Device.Clean.clampedIf (d e : Device) (c : Bool) (l : List Byte) : d.Clean (e, .clampedIf c l) := fun _ h => by
  cases c <;> cases h

theorem Device.Clean.segments (d e : Device) (l : List (List Byte)) : d.Clean (e, { status := .ok, segments := l }) :=
  fun _ h => by cases h

open Device.Clean

/-- A request that its own rule refuses changes nothing. -/
theorem Device.carryOut_clean (d : Device) (r : Request) : d.Clean (d.carryOut r) := by
  cases r with
  | ident | restart | status | routeq | poolq | counts | mstop => exact ok d _ _
  | start a b =>
    simp only [Device.carryOut, Device.requestStart]
    split
    · exact ok d _ _
    · exact refused d _
  | port a b c f =>
    simp only [Device.carryOut, Device.requestPort]
    split
    · exact ok d _ _
    · exact refused d _
  | portq a =>
    simp only [Device.carryOut, Device.requestPortq]
    split_ifs
    · exact ok d _ _
    · split
      · exact ok d _ _
      · exact refused d _
  | define a b ms =>
    simp only [Device.carryOut, Device.requestDefine]
    split
    · split_ifs
      · exact refused d _
      · exact refused d _
      · exact ok d _ _
      · exact refused d _
    · exact refused d _
  | setup a f b =>
    simp only [Device.carryOut, Device.requestSetup]
    split
    · exact refused d _
    · split
      · split_ifs
        · exact refused d _
        · exact clampedIf d _ _ _
      · exact refused d _
  | run a =>
    simp only [Device.carryOut, Device.requestRun]
    split
    · exact refused d _
    · split
      · exact refused d _
      · exact refused d _
      · exact ok d _ _
      · split_ifs
        · exact refused d _
        · exact ok d _ _
  | stop a =>
    simp only [Device.carryOut, Device.requestStop]
    split
    · exact refused d _
    · split
      · exact refused d _
      · exact ok d _ _
      · exact ok d _ _
      · exact ok d _ _
  | delete a =>
    simp only [Device.carryOut, Device.requestDelete]
    split
    · exact refused d _
    · split_ifs
      · exact ok d _ _
      · exact refused d _
  | progq a =>
    simp only [Device.carryOut, Device.requestProgq]
    split_ifs
    · exact segments d _ _
    · split
      · exact ok d _ _
      · exact refused d _
  | switch a b =>
    simp only [Device.carryOut, Device.requestSwitch]
    split
    · split_ifs
      · exact ok d _ _
      · exact refused d _
      · exact refused d _
    · exact refused d _
  | lreset a =>
    simp only [Device.carryOut, Device.requestLreset]
    split
    · exact refused d _
    · split_ifs
      · exact ok d _ _
      · exact refused d _
  | route a b c f g =>
    simp only [Device.carryOut, Device.requestRoute]
    split
    · split_ifs
      · exact ok d _ _
      · exact refused d _
    · exact refused d _
  | amask a b c =>
    simp only [Device.carryOut, Device.requestAmask]
    split
    · exact ok d _ _
    · exact refused d _
  | aquery a b =>
    simp only [Device.carryOut, Device.requestAquery]
    split
    · exact segments d _ _
    · exact refused d _
  | aclear a b =>
    simp only [Device.carryOut, Device.requestAclear]
    split
    · exact ok d _ _
    · exact refused d _
  | meter a b c =>
    simp only [Device.carryOut, Device.requestMeter]
    split_ifs
    · exact clampedIf d _ _ _
    · exact clampedIf d _ _ _
    · exact refused d _
  | tgen a b v =>
    simp only [Device.carryOut, Device.requestTgen]
    split
    · exact clampedIf d _ _ _
    · exact refused d _
  | tcheck a b c f =>
    simp only [Device.carryOut, Device.requestTcheck]
    split
    · exact ok d _ _
    · split
      · exact ok d _ _
      · exact refused d _
    · exact refused d _
  | tcheckq a =>
    simp only [Device.carryOut, Device.requestTcheckq]
    split_ifs
    · exact ok d _ _
    · split
      · exact ok d _ _
      · exact refused d _

theorem Device.perform_clean (d : Device) (r : Request) : d.Clean (d.perform r) := by
  unfold Device.perform
  split
  · exact refused d _
  · exact d.carryOut_clean r

theorem Device.perform_frame (d : Device) (r : Request) : d.RequestFrame (d.perform r).1 := by
  unfold Device.perform
  split
  · exact .refl d
  · exact d.carryOut_frame r

/-- Settles O7: the executor's answer of the request, and the frame that every request keeps. -/
theorem everyRequestIsAnsweredOnce : Obligations.EveryRequestIsAnsweredOnce := by
  intro i tag r s h w quiet
  have frame := s.dev.perform_frame r
  refine ⟨_, _, exec_request_answered h w quiet, replyType_typeCode _, rfl, rfl, ?_, frame.h, frame.seconds, frame.mem,
    frame.formed, frame.emitted, fun x refused => ?_⟩
  · rw [frame.queue]
    exact quiet.2.1
  · have same := s.dev.perform_clean r x refused
    rw [same]
    exact ⟨rfl, rfl⟩

end Sys2Proof.Machine
end

section
/-!
PROOF. START, RESTART and the resets (R4, R74, R189, R190, R192).
-/

namespace Sys2Proof.Machine

variable {d e : Device} {s : State} {i : Instr} {tag : Byte} {r : Request} {x : Reason}

/-! ## Requests in RUN with the link at rest -/

/-- In RUN with the link at rest a request that its rule refuses is answered, and nothing else. -/
theorem exec_run_refused (h : i.request = some (tag, r)) (w : i.wellFormed = true) (ready : s.dev.readyInRun)
    (n : requestType r ≠ .start) (refused : s.dev.carryOut r = (s.dev, .refused x)) :
    exec i s = .next (s.answered s.dev (refusedReply (typeCode (requestType r) + 0x80) tag x)) := by
  obtain ⟨quiet, run⟩ := ready
  exact exec_request_refused h w quiet (by rw [Device.perform_run run n, refused])

/-- In RUN with the link at rest a request other than RESTART is answered as its rule answers. -/
theorem exec_run_executed (h : i.request = some (tag, r)) (w : i.wellFormed = true) (ready : s.dev.readyInRun)
    (n : requestType r ≠ .start) (other : requestType r ≠ .restart) {a : Answer} (run : s.dev.carryOut r = (e, a)) :
    exec i s = .next (s.answered e (executedReply (typeCode (requestType r) + 0x80) tag a.status a.segments)) := by
  obtain ⟨quiet, inRun⟩ := ready
  exact exec_request_executed h w quiet (by rw [Device.perform_run inRun n, run]) other

/-! ## START and RESTART -/

theorem refMode?_none {b : Byte} (h : 1 < b.toNat) : refMode? b = none := by
  unfold refMode?
  rw [if_neg (ne_of_toNat_lt (y := 0) (by simp; omega)), if_neg (ne_of_toNat_lt (y := 1) (by simp; omega))]

theorem poolSizeOf_none {b : Byte} (h : 2 < b.toNat) : poolSizeOf b = none := by
  unfold poolSizeOf
  rw [if_neg (ne_of_toNat_lt (y := 0) (by simp; omega)), if_neg (ne_of_toNat_lt (y := 1) (by simp; omega)),
    if_neg (ne_of_toNat_lt (y := 2) (by simp; omega))]

/-- A START with both codes in their ranges (R4, R74, R189). -/
theorem Device.requestStart_ok (d : Device) {code mode : Byte} {size : Nat} {m : RefMode}
    (hs : (code = 0 ∧ size = 1024) ∨ (code = 1 ∧ size = 2048) ∨ (code = 2 ∧ size = 4096))
    (hm : (mode = 0 ∧ m = RefMode.word) ∨ (mode = 1 ∧ m = RefMode.internal)) :
    d.requestStart code mode = (({ d with
      pool := Pool.formed size, time := d.time.choose m, link := { d.link with part := .run } } : Device).raiseRefLoss,
      .ok (nat16 size ++ [mode, if m = .word then 2 else 0])) := by
  have size' : poolSizeOf code = some size := by obtain ⟨rfl, rfl⟩ | ⟨rfl, rfl⟩ | ⟨rfl, rfl⟩ := hs <;> rfl
  have mode' : refMode? mode = some m := by obtain ⟨rfl, rfl⟩ | ⟨rfl, rfl⟩ := hm <;> rfl
  simp only [Device.requestStart, size', mode']
  obtain ⟨rfl, rfl⟩ | ⟨rfl, rfl⟩ := hm <;> rfl

/-- Settles O13: the two codes of a START, the reply of RESTART and the part formed afresh. -/
theorem startAndRestartFormThePool : Obligations.StartAndRestartFormThePool := by
  refine ⟨fun s tag code mode quiet config => ⟨fun size m hs hm => ?_, fun wrong => ?_⟩, fun s tag ready => ?_,
    fun s m due mode => ?_⟩
  · have run : s.dev.perform (.start code mode) = s.dev.requestStart code mode := by
      simp only [Device.perform, config]
      rfl
    rw [Device.requestStart_ok s.dev hs hm] at run
    have answer := exec_request_executed (i := .start tag code mode) rfl rfl quiet run nofun
    rw [answer]
    cases m <;> rfl
  · have run : s.dev.perform (.start code mode) = (s.dev, .refused .badValue) := by
      simp only [Device.perform, config]
      have none : poolSizeOf code = none ∨ refMode? mode = none := wrong.imp poolSizeOf_none refMode?_none
      simp only [requestType, stateRefusal, Device.carryOut, Device.requestStart]
      split
      · next a b => rw [a, b] at none; simp at none
      · rfl
    exact exec_request_refused (i := .start tag code mode) rfl rfl quiet run
  · have answer := exec_request_answered (i := .restart tag) rfl rfl ready.1
    have run : s.dev.perform .restart = s.dev.requestRestart := Device.perform_run ready.2 nofun
    rw [run] at answer
    exact answer
  · have run : exec .restartPerformed s = .next { s with dev := s.dev.restartPerformed } := rfl
    rw [run, Device.restartPerformed, if_pos due, Device.restarted, mode]
    cases m <;> rfl

end Sys2Proof.Machine
end

section
/-!
PROOF. The values that the resets leave, and that they meet every invariant (R192).
-/

namespace Sys2Proof.Machine

theorem Device.reset_port (p : Ix8) : Device.reset.port p = .reset := Oct.get_fill Port.reset p

theorem Device.reset_prog (n : Ix8) : Device.reset.prog n = .reset := Oct.get_fill Programme.reset n

theorem Device.reset_line (n m : Ix8) : Device.reset.line n m = .reset := by
  rw [Device.line, Device.reset_prog]
  exact Oct.get_fill Line.reset m

/-- The part after a reset meets every invariant. -/
theorem State.reset_sound : State.reset.Sound where
  pin := AlarmUnit.reset_pin
  latch a h := by
    change (AlarmUnit.reset.get a).active = true at h
    rw [AlarmUnit.reset_get] at h
    cases h
  marks := ⟨fun a => .inl (congrArg AlarmRecord.expiry (AlarmUnit.reset_get a)), fun n h => by
    change (Device.reset.prog n).ctx.returnDue = true at h
    rw [Device.reset_prog] at h
    cases h⟩
  opens := ⟨fun h => absurd rfl h, fun n h => by
    change (Device.reset.prog n).ctx.startDue = true at h
    rw [Device.reset_prog] at h
    cases h⟩
  refLoss := Device.refLossSound_reset rfl rfl
  link := ⟨Nat.zero_le 4, Nat.zero_le 4, Nat.zero_le 1⟩
  served := .inl rfl
  restart h := by cases h
  blocks := by
    rw [Device.blocksSound_iff, Device.bag_of_progs_reset fun n => by
      change linesBag (Device.reset.prog n).delay.lines = 0
      rw [Device.reset_prog]
      exact linesBag_reset]
    exact ⟨rfl, fun _ => rfl⟩
  memory := rfl

/-- Settles O14: table by table, and the invariants. -/
theorem resetsLeaveTheTableValues : Obligations.ResetsLeaveTheTableValues := by
  refine ⟨fun s => ⟨rfl, rfl⟩, fun p => ?_, fun n => ?_, AlarmUnit.reset_get, fun k => by cases k <;> rfl, rfl, rfl,
    fun i => by fin_cases i <;> rfl, fun q k => ?_, rfl, rfl, rfl, rfl, rfl, rfl, State.reset_sound⟩
  · rw [show State.reset.dev.port p = .reset from Device.reset_port p]
    exact ⟨rfl, rfl, rfl, rfl, rfl⟩
  · rw [show State.reset.dev.prog n = .reset from Device.reset_prog n]
    exact ⟨rfl, rfl, rfl, rfl, rfl, rfl, rfl, Device.reset_line n, Oct.get_fill MeterMember.reset, rfl, rfl, rfl, rfl,
      rfl, rfl, rfl, rfl, rfl, Oct.get_fill StageMember.reset, rfl, rfl, rfl, rfl⟩
  · change ((Oct.fill (Quad.fill MapEntry.silence)).get q).get k = .silence
    rw [Oct.get_fill, Quad.get_fill]

end Sys2Proof.Machine
end

section
/-!
PROOF. PORT, the refusals of SETUP, RUN and ROUTE, the subscriptions, TGEN and TCHECK, and the presence window.
-/

namespace Sys2Proof.Machine

variable {d e : Device} {s : State} {tag : Byte}

/-! ## Codes that name nothing -/

theorem ne_of_code_lt {b : Byte} {k : Nat} (h : k < b.toNat) (c : Byte) (hc : c.toNat ≤ k) : b ≠ c :=
  ne_of_toNat_lt (hc.trans_lt h)

theorem loudMode?_none {b : Byte} (h : 2 < b.toNat) : loudMode? b = none := by
  unfold loudMode?
  rw [if_neg (ne_of_code_lt h 0 (by decide)), if_neg (ne_of_code_lt h 1 (by decide)), if_neg (ne_of_code_lt h 2 (by decide))]

theorem changeMode?_none {b : Byte} (h : 2 < b.toNat) : changeMode? b = none := by
  unfold changeMode?
  rw [if_neg (ne_of_code_lt h 0 (by decide)), if_neg (ne_of_code_lt h 1 (by decide)), if_neg (ne_of_code_lt h 2 (by decide))]

theorem loudMode?_isSome {b : Byte} (h : b.toNat ≤ 2) : ∃ l, loudMode? b = some l := by
  have cases : b = 0 ∨ b = 1 ∨ b = 2 := by
    have : b.toNat = 0 ∨ b.toNat = 1 ∨ b.toNat = 2 := by omega
    exact this.imp (fun h => BitVec.eq_of_toNat_eq h)
      (Or.imp (fun h => BitVec.eq_of_toNat_eq h) fun h => BitVec.eq_of_toNat_eq h)
  obtain rfl | rfl | rfl := cases
  exacts [⟨_, rfl⟩, ⟨_, rfl⟩, ⟨_, rfl⟩]

theorem changeMode?_isSome {b : Byte} (h : b.toNat ≤ 2) : ∃ l, changeMode? b = some l := by
  have cases : b = 0 ∨ b = 1 ∨ b = 2 := by
    have : b.toNat = 0 ∨ b.toNat = 1 ∨ b.toNat = 2 := by omega
    exact this.imp (fun h => BitVec.eq_of_toNat_eq h)
      (Or.imp (fun h => BitVec.eq_of_toNat_eq h) fun h => BitVec.eq_of_toNat_eq h)
  obtain rfl | rfl | rfl := cases
  exacts [⟨_, rfl⟩, ⟨_, rfl⟩, ⟨_, rfl⟩]

/-- An entry kind, a programme or a member out of range names no map entry (R140). -/
theorem mapEntry?_none {a b c : Byte} (h : 2 < a.toNat ∨ (a ≠ 0 ∧ 7 < b.toNat) ∨ (a = 1 ∧ 7 < c.toNat)) :
    mapEntry? a b c = none := by
  unfold mapEntry?
  obtain h | ⟨h, hb⟩ | ⟨rfl, hc⟩ := h
  · rw [if_neg (ne_of_code_lt h 0 (by decide)), if_neg (ne_of_code_lt h 1 (by decide)),
      if_neg (ne_of_code_lt h 2 (by decide))]
  · rw [if_neg h, ix8?_none hb]
    split_ifs <;> rfl
  · rw [ix8?_none hc]
    cases ix8? b.toNat <;> rfl

/-! ## The refusals of SETUP, RUN and ROUTE (R48, R50, R140) -/

theorem Device.requestSetup_badValue (d : Device) {x : Byte} {f : BitVec 24} {b : SettingsBlock}
    (h : 7 < x.toNat ∨ (f.getLsbD 1 = true ∧ 2 < b.loudnessMode.toNat) ∨
      (f.getLsbD 8 = true ∧ 2 < b.changeoverMode.toNat)) : d.requestSetup x f b = (d, .refused .badValue) := by
  unfold Device.requestSetup present
  obtain h | ⟨p, h⟩ | ⟨p, h⟩ := h
  · rw [ix8?_none h]
  · cases ix8? x.toNat with
    | none => rfl
    | some n => simp only [p, if_true, loudMode?_none h]
  · cases ix8? x.toNat with
    | none => rfl
    | some n =>
      simp only [p, if_true, changeMode?_none h]
      split
      · next e => cases e
      · rfl

/-- Settles O18: the codes out of range, and the states that refuse or answer without effect. -/
theorem setupRunAndRouteChecks : Obligations.SetupRunAndRouteChecks := by
  intro s tag ready
  refine ⟨fun x f b h => ?_, fun n f b loud change state => ?_, fun x h => ?_, fun n => ⟨fun state => ?_, fun state => ?_,
    fun state empty => ?_⟩, fun q k a b c h => ?_⟩
  · exact exec_run_refused (i := .setup tag x f b) rfl rfl ready nofun (s.dev.requestSetup_badValue h)
  · refine exec_run_refused (i := .setup tag (byteOf n.val) f b) rfl rfl ready nofun ?_
    have l : ∃ l, (if present f 1 then loudMode? b.loudnessMode else some .off) = some l := by
      split_ifs with p
      · exact loudMode?_isSome (loud p)
      · exact ⟨_, rfl⟩
    have c : ∃ c, (if present f 8 then changeMode? b.changeoverMode else some .manual) = some c := by
      split_ifs with p
      · exact changeMode?_isSome (change p)
      · exact ⟨_, rfl⟩
    obtain ⟨l, hl⟩ := l
    obtain ⟨c, hc⟩ := c
    have refuses : s.dev.inState n .free = true ∨ s.dev.inState n .stopping = true := by
      simpa only [Device.inState, beq_iff_eq] using state
    simp only [Device.carryOut, Device.requestSetup, ix8?_byteOf, hl, hc, if_pos refuses]
  · refine exec_run_refused (i := .run tag x) rfl rfl ready nofun ?_
    simp only [Device.carryOut, Device.requestRun, ix8?_none h]
  · refine exec_run_refused (i := .run tag (byteOf n.val)) rfl rfl ready nofun ?_
    simp only [Device.carryOut, Device.requestRun, ix8?_byteOf]
    obtain state | state := state <;> rw [state]
  · have run : s.dev.carryOut (.run (byteOf n.val)) = (s.dev, .ok (s.dev.stateFields n)) := by
      simp only [Device.carryOut, Device.requestRun, ix8?_byteOf, state]
    have answer := exec_run_executed (i := .run tag (byteOf n.val)) rfl rfl ready nofun nofun run
    simp only [Device.stateFields, state] at answer
    exact answer
  · refine exec_run_refused (i := .run tag (byteOf n.val)) rfl rfl ready nofun ?_
    simp only [Device.carryOut, Device.requestRun, ix8?_byteOf, state, if_pos empty]
  · refine exec_run_refused (i := .route tag q k a b c) rfl rfl ready nofun ?_
    have none : ix8? q.toNat = none ∨ ix4? k.toNat = none ∨ mapEntry? a b c = none :=
      h.imp ix8?_none (Or.imp ix4?_none mapEntry?_none)
    simp only [Device.carryOut, Device.requestRoute]
    split
    · next x y z => rw [x, y, z] at none; simp at none
    · rfl

/-! ## METER and MSTOP (R185) -/

/-- The part with a subscription for the programmes of a set (R185). -/
def Device.subscribed (d : Device) (set : Byte) (sub : Subscription) : Device :=
  d.modLink fun l => { l with subscriptions := Oct.ofFn fun n => if inSet set n then sub else l.subscriptions.get n }

theorem Device.requestMeter_continuous (d : Device) (set count : Byte) :
    d.requestMeter set 0 count =
      (d.subscribed set .continuous, .ok (d.subscribed set .continuous).subscriptionFields) := by
  unfold Device.requestMeter
  rw [if_pos (by decide)]
  rfl

theorem Device.requestMeter_count (d : Device) (set count : Byte) :
    d.requestMeter set 1 count = (d.subscribed set (.count (max 1 count.toNat)),
      .clampedIf (decide (count = 0) && decide (set ≠ 0)) (d.subscribed set (.count (max 1 count.toNat))).subscriptionFields) := by
  unfold Device.requestMeter
  rw [if_pos (by decide)]
  rfl

/-- Settles O29: the table of subscriptions under a set of programmes. -/
theorem meterAndMstopSubscribe : Obligations.MeterAndMstopSubscribe := by
  intro s tag set count ready
  refine ⟨?_, ?_, fun mode h => ?_, ?_⟩
  · exact exec_run_executed (i := .meter tag set 0 count) rfl rfl ready nofun nofun (s.dev.requestMeter_continuous set count)
  · rw [exec_run_executed (i := .meter tag set 1 count) rfl rfl ready nofun nofun (s.dev.requestMeter_count set count)]
    simp only [Answer.clampedIf, Bool.and_eq_true, decide_eq_true_eq]
    rfl
  · exact exec_run_refused (i := .meter tag set mode count) rfl rfl ready nofun (if_neg (by omega))
  · exact exec_run_executed (i := .mstop tag set) rfl rfl ready nofun nofun rfl

/-! ## TGEN and TCHECK (R165 to R173) -/

theorem Generator.set_eq (g : Generator) (on : Bool) (l : Int) : g.set on l =
    if on = true ∧ g.on = false then
      { g with on := on, level := l, amplitude := amplitudeOf l, register := BitVec.allOnes 23, epochs := [], flag := true }
    else { g with on := on, level := l, amplitude := amplitudeOf l } := by
  unfold Generator.set
  cases on <;> cases h : g.on <;> rfl

/-- Settles O30: the generator and the checker that the request names. -/
theorem tgenAndTcheckAct : Obligations.TgenAndTcheckAct := by
  refine ⟨fun s tag n on level ready => ⟨?_, fun x y h => ?_⟩, fun s tag i ready => ⟨fun q k => ?_, fun q k => ?_,
    fun x on q k h => ?_⟩⟩
  · have clamp : clampInt level.toInt (-400) (-60) = max (-400) (min (-60) level.toInt) := clampInt_eq (by decide)
    have run : s.dev.carryOut (.tgen (byteOf n.val) (boolByte on) level) =
        (s.dev.modGen n fun g => g.set on (max (-400) (min (-60) level.toInt)),
          .clampedIf (max (-400) (min (-60) level.toInt) != level.toInt)
            ((s.dev.modGen n fun g => g.set on (max (-400) (min (-60) level.toInt))).tgenFields n)) := by
      simp only [Device.carryOut, Device.requestTgen, ix8?_byteOf, flag?_boolByte, clamp]
    rw [exec_run_executed (i := .tgen tag (byteOf n.val) (boolByte on) level) rfl rfl ready nofun nofun run]
    have level (g : Generator) (l : Int) : (g.set on l).on = on ∧ (g.set on l).level = l := by
      rw [Generator.set_eq]
      split_ifs <;> exact ⟨rfl, rfl⟩
    simp only [Answer.clampedIf, bne_iff_ne, ne_eq, ite_not, Device.tgenFields, Device.modGen, Device.prog_modProg_self,
      level]
    simp only [Device.modProg, Generator.set_eq]
    rfl
  · refine exec_run_refused (i := .tgen tag x y level) rfl rfl ready nofun ?_
    have none : ix8? x.toNat = none ∨ flag? y = none := h.imp ix8?_none flag?_none
    simp only [Device.carryOut, Device.requestTgen]
    split
    · next a b => rw [a, b] at none; simp at none
    · rfl
  · have run : s.dev.carryOut (.tcheck (byteOf i.val) 1 (byteOf q.val) (byteOf k.val)) =
        (s.dev.enableChecker i q k, .ok ((s.dev.enableChecker i q k).tcheckFields i)) := by
      simp only [Device.carryOut, Device.requestTcheck, ix2?_byteOf, flag?_one, ix8?_byteOf, ix4?_byteOf]
    rw [exec_run_executed (i := .tcheck tag (byteOf i.val) 1 (byteOf q.val) (byteOf k.val)) rfl rfl ready nofun nofun run]
    fin_cases i <;> rfl
  · have run : s.dev.carryOut (.tcheck (byteOf i.val) 0 q k) =
        (s.dev.disableChecker i, .ok ((s.dev.disableChecker i).tcheckFields i)) := by
      simp only [Device.carryOut, Device.requestTcheck, ix2?_byteOf, flag?_zero]
    rw [exec_run_executed (i := .tcheck tag (byteOf i.val) 0 q k) rfl rfl ready nofun nofun run]
    fin_cases i <;> rfl
  · refine exec_run_refused (i := .tcheck tag x on q k) rfl rfl ready nofun ?_
    simp only [Device.carryOut, Device.requestTcheck]
    obtain h | h | ⟨rfl, h⟩ := h
    · rw [ix2?_none h]
    · rw [flag?_none h]
      cases ix2? x.toNat <;> rfl
    · rw [flag?_one]
      have none : ix8? q.toNat = none ∨ ix4? k.toNat = none := h.imp ix8?_none ix4?_none
      cases ix2? x.toNat with
      | none => rfl
      | some i =>
        dsimp only
        split
        · next a b => rw [a, b] at none; simp at none
        · rfl

/-! ## The presence window (R4, R5) -/

theorem refPresent_iff (edges : Nat) : refPresent edges = true ↔ 4776 ≤ edges ∧ edges ≤ 4824 := by
  simp [refPresent]

/-- Settles O31: by the state of the timebase and the count of edges. -/
theorem presenceWindowDecidesTheState : Obligations.PresenceWindowDecidesTheState := by
  intro s calm
  have run : exec .presenceWindowEnd s = .next { s with dev := s.dev.presenceWindowEnd } := State.prompt_calm calm _
  rw [run]
  refine ⟨fun word holding present => ?_, fun word external absent => ?_, fun word other => ?_, fun other => ?_⟩
  · rw [Device.presenceWindowEnd, if_pos word]
    simp only [holding, (refPresent_iff _).2 present]
    rfl
  · rw [Device.presenceWindowEnd, if_pos word]
    simp only [external, eq_false_of_ne_true (mt (refPresent_iff _).1 absent)]
    rfl
  · rw [Device.presenceWindowEnd, if_pos word]
    obtain ⟨holding, absent⟩ | ⟨external, present⟩ | internal := other
    · simp only [holding, eq_false_of_ne_true (mt (refPresent_iff _).1 absent)]
    · simp only [external, (refPresent_iff _).2 present]
    · simp only [internal]
  · rw [Device.presenceWindowEnd, if_neg other]

end Sys2Proof.Machine
end

section
/-!
PROOF. PORT disables, enables or re-sources a port (R15 to R17, R40).
-/

namespace Sys2Proof.Machine

variable {d : Device} {s : State} {tag src lane : Byte} {p : Ix8} {l : LaneSource}

/-- The lane byte that names a lane source (Table 11-11). -/
def loopByte : LaneSource → Byte
  | .pins => 0xFF
  | .loop q => byteOf q.val

/-- The two bytes of a lane source are those that name it (Table 11-11). -/
theorem sourceBytes_of_names (h : namesLaneSource src lane l) :
    laneSource? src lane = some l ∧ sourceBytes l = [src, loopByte l] := by
  obtain ⟨rfl, rfl⟩ | ⟨rfl, q, rfl, rfl⟩ := h
  · exact ⟨rfl, rfl⟩
  · refine ⟨?_, rfl⟩
    simp [laneSource?, ix8?_byteOf]

/-- What a PORT for a port in range is answered with. -/
theorem exec_port (ready : s.dev.readyInRun) (h : namesLaneSource src lane l) (enable : Byte) :
    exec (.port tag (byteOf p.val) enable src lane) s = .next (s.answered (s.dev.setPort p (portFlag enable) l)
      (okReply 0x90 tag ((s.dev.setPort p (portFlag enable) l).portFields p))) := by
  have run : s.dev.carryOut (.port (byteOf p.val) enable src lane) =
      (s.dev.setPort p (portFlag enable) l, .ok ((s.dev.setPort p (portFlag enable) l).portFields p)) := by
    simp only [Device.carryOut, Device.requestPort, ix8?_byteOf, (sourceBytes_of_names h).1]
  exact exec_run_executed (i := .port tag (byteOf p.val) enable src lane) rfl rfl ready nofun nofun run

theorem laneSource?_none {source q : Byte} (h : 1 < source.toNat ∨ (source = 1 ∧ 7 < q.toNat)) :
    laneSource? source q = none := by
  unfold laneSource?
  obtain h | ⟨rfl, h⟩ := h
  · rw [if_neg (ne_of_code_lt h 0 (by decide)), if_neg (ne_of_code_lt h 1 (by decide))]
  · rw [ix8?_none h]
    rfl

/-- Settles O15: by the enable asked for and the one in force, and by the lane source. -/
theorem portSetsEnableAndSource : Obligations.PortSetsEnableAndSource := by
  intro s tag src lane p l ready names
  have bytes := (sourceBytes_of_names names).2
  refine ⟨fun on => ?_, fun off => ?_, fun change => ?_, fun on same => ?_, fun enable h => ?_, fun port enable source q h => ?_⟩
  · have set : s.dev.setPort p false l = s.dev.disablePort p l := by
      rw [Device.setPort, if_neg Bool.false_ne_true, if_pos on]
    rw [exec_port ready names, portFlag_zero, set]
    simp only [Device.portFields, Device.disablePort, Device.force, Device.port_modAlarms, Device.port_modPort_self, bytes]
    rfl
  · have set : s.dev.setPort p false l = s.dev.modLane p fun k => { k with source := l } := by
      rw [Device.setPort, if_neg Bool.false_ne_true, if_neg (by simp [off])]
    rw [exec_port ready names, portFlag_zero, set]
    have fields : (s.dev.modLane p fun k => { k with source := l }).portFields p =
        [byteOf p.val, 0, src, loopByte l, convCode (s.dev.port p).conv.state] := by
      simp only [Device.portFields, Device.modLane, Device.port_modPort_self, bytes, off]
      rfl
    rw [fields]
    rfl
  · have set : s.dev.setPort p true l = s.dev.startPort p l := by
      rw [Device.setPort, if_pos rfl, if_neg]
      rw [Bool.and_eq_true, beq_iff_eq]
      exact fun h => change.elim (fun off => by rw [off] at h; cases h.1) fun ne => ne h.2
    rw [exec_port ready names, portFlag_one, set]
    simp only [Device.portFields, Device.startPort, Device.port_modPort_self, bytes]
    rfl
  · have set : s.dev.setPort p true l = s.dev := by
      rw [Device.setPort, if_pos rfl, if_pos]
      rw [on, same, beq_self_eq_true]
      rfl
    rw [exec_port ready names, portFlag_one, set]
    simp only [Device.portFields, same, bytes, on]
    rfl
  · rw [exec_port ready names, exec_port ready names, portFlag_open h, portFlag_boolByte]
  · refine exec_run_refused (i := .port tag port enable source q) rfl rfl ready nofun ?_
    have none : ix8? port.toNat = none ∨ laneSource? source q = none := h.imp ix8?_none laneSource?_none
    simp only [Device.carryOut, Device.requestPort]
    split
    · next x y => rw [x, y] at none; simp at none
    · rfl

end Sys2Proof.Machine
end

section
/-!
PROOF. What the line takes as it comes free, and the bytes of what it carries (R181 to R184, R187, R190, R193).
-/

namespace Sys2Proof.Machine

variable {d e : Device} {s : State}

/-! ## The arbiter, case by case (R184) -/

theorem Device.arbitrate_held (h : d.link.line.isSome = true ∨ d.link.restart = .due) : d.arbitrate = d := if_pos h

section
variable (line : d.link.line = none) (restart : d.link.restart ≠ .due)
include line restart

theorem Device.not_held : ¬ (d.link.line.isSome = true ∨ d.link.restart = .due) := by simp [line, restart]

theorem Device.arbitrate_reply {r : Reply} {rest : List Reply} (replies : d.link.replies = r :: rest) :
    d.arbitrate = { d with link := { d.link with replies := rest, line := some r.transmission } } := by
  rw [Device.arbitrate, if_neg (Device.not_held line restart), replies]
  rfl

theorem Device.arbitrate_notice {q : Notice} {rest : List Notice} (replies : d.link.replies = [])
    (queue : d.alarms.queue = q :: rest) :
    d.arbitrate =
      { d with alarms := d.alarms.dropNotice q.alarm, link := { d.link with line := some (single q.body) } } := by
  rw [Device.arbitrate, if_neg (Device.not_held line restart), replies, queue]
  rfl

theorem Device.arbitrate_report {n : Ix8} {r : Report} (replies : d.link.replies = []) (queue : d.alarms.queue = [])
    (first : d.link.firstReport = some (n, r)) :
    d.arbitrate =
      { d with link := { d.link with slots := d.link.slots.set n none, line := some (single r.body) } } := by
  rw [Device.arbitrate, if_neg (Device.not_held line restart), replies, queue, first]
  rfl

theorem Device.arbitrate_nothing (replies : d.link.replies = []) (queue : d.alarms.queue = [])
    (first : d.link.firstReport = none) : d.arbitrate = d := by
  rw [Device.arbitrate, if_neg (Device.not_held line restart), replies, queue, first]

end

/-- The lowest programme with a report in its slot. -/
theorem Link.firstReport_eq {l : Link} {n : Ix8} {r : Report} (slot : l.slots.get n = some r)
    (lower : ∀ k, k < n → l.slots.get k = none) : l.firstReport = some (n, r) := by
  unfold Link.firstReport
  have split : eight = eight.take n.val ++ n :: eight.drop (n.val + 1) := by fin_cases n <;> rfl
  have before : ∀ k ∈ eight.take n.val, k < n := by fin_cases n <;> decide
  have none : (eight.take n.val).findSome? (fun k => (l.slots.get k).map fun r => (k, r)) = none :=
    List.findSome?_eq_none_iff.2 fun k mem => by rw [lower k (before k mem)]; rfl
  rw [split, List.findSome?_append, none, List.findSome?_cons, slot]
  rfl

theorem Link.firstReport_none {l : Link} (h : ∀ k, l.slots.get k = none) : l.firstReport = none :=
  List.findSome?_eq_none_iff.2 fun k _ => by rw [h k]; rfl

/-! ## Bytes, most significant first (R193) -/

/-- A list of bytes as a number, the first byte the most significant. -/
def numberOf (l : List Byte) : Nat := l.foldl (fun a b => 256 * a + b.toNat) 0

theorem toNat_byte {w : Nat} (x : BitVec w) (k : Nat) : (x.extractLsb' k 8).toNat = x.toNat / 2 ^ k % 256 := by
  rw [BitVec.extractLsb'_toNat, Nat.shiftRight_eq_div_pow]

theorem numberOf_put16 (x : BitVec 16) : numberOf (put16 x) = x.toNat := by
  simp only [numberOf, put16, List.foldl, toNat_byte]
  omega

theorem numberOf_put32 (x : BitVec 32) : numberOf (put32 x) = x.toNat := by
  simp only [numberOf, put32, List.foldl, toNat_byte]
  omega

theorem numberOf_put48 (x : BitVec 48) : numberOf (put48 x) = x.toNat := by
  simp only [numberOf, put48, List.foldl, toNat_byte]
  omega

/-! ## What the line carries (Tables 11-3, 11-9 and 11-10) -/

theorem Reply.bodies_getElem? {r : Reply} {i : Nat} {g : List Byte} (h : r.segments[i]? = some g) :
    r.bodies[i]? = some ([r.type, r.tag] ++ statusBytes r.status ++ [segmentByte i r.segments.length] ++ g) := by
  rw [Reply.bodies, List.getElem?_map, List.getElem?_zipIdx, h]
  simp

theorem statusBytes_eq (x : Status) : statusBytes x = match x with
    | .ok => [0, 0]
    | .clamped => [1, 0]
    | .refused x => [2, 1 + codeIn [Reason.unknownType, .badLength, .badValue, .notStarted, .wrongState,
        .sourceInUse, .noSuchProg, .listFull, .noBackup, .busy] x] := by
  cases x with
  | ok => rfl
  | clamped => rfl
  | refused x => cases x <;> rfl

theorem segmentByte_eq (i count : Nat) :
    segmentByte i count = if i + 1 = count then byteOf i + 0x80 else byteOf i := by
  unfold segmentByte
  split_ifs
  · rfl
  · exact BitVec.add_zero _

theorem alarmCodes_eq (a : Alarm) : [byteOf a.kind.code, byteOf a.number, classCode a.kind] = alarmCodes a := by
  cases a <;> rfl

theorem Notice.body_eq (q : Notice) : q.body = [0x7E, 0] ++ alarmCodes q.alarm ++ [boolByte q.active] ++ put16 q.count ++
    [byteOf q.changes] ++ put32 q.time := by
  rw [← alarmCodes_eq]
  rfl

theorem sideCodes_eq (x : Selection) (y : Origin) (z : CtxState) :
    [selectionCode x, originCode y, ctxCode z] = [codeIn [Selection.primary, .backup] x,
      codeIn [Origin.host, .auto] y, codeIn [CtxState.idle, .pending, .fading] z] := by
  cases x <;> cases y <;> cases z <;> rfl

/-! ## The line comes free (R184, R190) -/

theorem exec_transmitLineFree (h : s.dev.finished) : exec .transmitLineFree s =
    .next { s with dev := (s.dev.arbitrate.modLink Link.lineFree).settleLink } := by
  have run : exec .transmitLineFree s = .next { s with dev := s.dev.transmitLineFree } := rfl
  rw [run, Device.transmitLineFree, Device.finish_finished h]

/-- The part with its line idle. -/
def Device.idled (d : Device) : Device := { d with link := { d.link with line := none } }

/-- The end of a transmission frees the line; that of the RESTART reply makes the restart due (R190). -/
theorem Device.lineFree_busy {x : Transmission} (line : d.link.line = some x) :
    d.arbitrate.modLink Link.lineFree =
      if x.isRestart then { d.idled with link := { d.idled.link with restart := .due } } else d.idled := by
  rw [Device.arbitrate_held (.inl (by rw [line]; rfl)), Device.modLink, Link.lineFree, line]
  cases mark : x.isRestart <;> simp only [mark] <;> rfl

/-- The executor finds nothing on an empty queue. -/
theorem Device.execute_empty (h : d.link.queue = []) : d.execute = d := Device.execute_served (.inl h)

/-- The executor takes nothing while a restart is due. -/
theorem Device.execute_due (h : d.link.restart = .due) : d.execute = d := Device.execute_served (.inr (.inr h))

/-- What waits beside an idle line counts as on it: the arbiter takes it, and the command ends it. -/
theorem Device.transmit_idle (e : Device) (h : d.arbitrate = e) (line : e.link.line.isSome = true) :
    (d.arbitrate.modLink Link.lineFree).settleLink = (e.arbitrate.modLink Link.lineFree).settleLink := by
  rw [h, Device.arbitrate_held (.inl line)]

theorem AlarmUnit.dropNotice_expiry (u : AlarmUnit) (a b : Alarm) : ((u.dropNotice a).get b).expiry = (u.get b).expiry := by
  rw [u.dropNotice_get]
  split_ifs with h
  · rw [h]
  · rfl

/-- The arbiter leaves the alarms, the slots and the notices it does not take: what was finished stays so. -/
theorem Device.finished_of_same (h : d.finished) (alarms : ∀ a, (e.alarms.get a).expiry = (d.alarms.get a).expiry)
    (checkers : e.checkers = d.checkers) (progs : e.progs = d.progs) (pool : e.pool = d.pool) : e.finished := by
  obtain ⟨c, a, r, n⟩ := h
  exact ⟨by rw [checkers]; exact c, fun b => (alarms b).trans (a b), by unfold Device.prog; rw [progs]; exact r,
    by rw [pool]; exact n⟩

/-- Settles O9: the bytes of what is sent, and the arbiter's choice for a line that comes free. -/
theorem freeLineTakesByPriority : Obligations.FreeLineTakesByPriority := by
  refine ⟨fun r => ⟨by simp [Reply.bodies], fun i g h => ?_⟩, Notice.body_eq, fun r => ?_, fun x => ⟨rfl, numberOf_put16 x⟩,
    fun x => ⟨rfl, numberOf_put32 x⟩, fun x => ⟨rfl, numberOf_put48 x⟩, fun v => ⟨rfl, rfl⟩, fun s x done line => ?_,
    fun s done line => ?_, fun s x r busy body rest done line plain restart replies waiting queue => ?_⟩
  · rewrite [Reply.bodies_getElem? h, statusBytes_eq, segmentByte_eq]
    cases r.status <;> rfl
  · have sides := sideCodes_eq r.selection r.selectedBy r.ctx
    simp only [List.cons.injEq, and_true] at sides
    simp only [Report.body, sides]
    rfl
  · have next {e : Device} (h : s.dev.idled.arbitrate = e) (queue : e.link.queue = []) :
        (.next { s with dev := s.dev.idled.settleLink } : Host.Outcome State Fault Refusal) = .next { s with dev := e } := by
      rw [Device.settleLink, h, Device.execute_empty queue]
    rw [exec_transmitLineFree done, Device.lineFree_busy line]
    refine ⟨fun mark => ?_, fun plain queue restart => ⟨fun r rest replies => ?_, fun q rest replies notices => ?_,
      fun n r replies notices slot lower => ?_, fun replies notices slots => ?_⟩⟩
    · rw [mark, if_pos rfl, Device.settleLink, Device.arbitrate_held (.inr rfl), Device.execute_due rfl]
      rfl
    all_goals rw [plain, if_neg Bool.false_ne_true]
    · exact next (Device.arbitrate_reply (d := s.dev.idled) rfl restart replies) queue
    · exact next (Device.arbitrate_notice (d := s.dev.idled) rfl restart replies notices) queue
    · exact next (Device.arbitrate_report (d := s.dev.idled) rfl restart replies notices (Link.firstReport_eq slot lower)) queue
    · exact next (Device.arbitrate_nothing (d := s.dev.idled) rfl restart replies notices (Link.firstReport_none slots)) queue
  · have same (e : Device) (h : s.dev.arbitrate = e) (done' : e.finished) (busy : e.link.line.isSome = true) :
        exec .transmitLineFree s = exec .transmitLineFree { s with dev := e } := by
      rw [exec_transmitLineFree done, exec_transmitLineFree (s := { s with dev := e }) done',
        Device.transmit_idle e h busy]
    refine ⟨fun restart => ⟨fun r rest replies => ?_, fun q rest replies notices => ?_,
      fun n r replies notices slot lower => ?_⟩, fun queue nothing => ?_⟩
    · exact same _ (Device.arbitrate_reply line restart replies) done rfl
    · exact same _ (Device.arbitrate_notice line restart replies notices)
        (Device.finished_of_same done (s.dev.alarms.dropNotice_expiry q.alarm) rfl rfl rfl) rfl
    · exact same _ (Device.arbitrate_report line restart replies notices (Link.firstReport_eq slot lower)) done rfl
    · have idle : s.dev.arbitrate = s.dev := by
        by_cases due : s.dev.link.restart = .due
        · exact Device.arbitrate_held (.inr due)
        · obtain ⟨replies, notices, slots⟩ := nothing.resolve_left due
          exact Device.arbitrate_nothing line due replies notices (Link.firstReport_none slots)
      have free : s.dev.link.lineFree = s.dev.link := by rw [Link.lineFree, line]
      rw [exec_transmitLineFree done, idle, s.dev.modLink_eq _ free, Device.settleLink, idle, Device.execute_empty queue]
  · have free : s.dev.arbitrate.modLink Link.lineFree = s.dev.idled := by
      rw [Device.lineFree_busy line, plain, if_neg Bool.false_ne_true]
    have taken := Device.arbitrate_reply (d := s.dev.idled) rfl (by rw [show s.dev.idled.link.restart = .none from restart]; nofun)
      replies
    have ready : s.dev.idled.arbitrate.link.ready = true := by
      rw [taken]
      simp only [Link.ready, Bool.and_eq_true, List.all_eq_true, Bool.not_eq_true', beq_iff_eq]
      exact ⟨waiting, restart⟩
    have queue' : s.dev.idled.arbitrate.link.queue = body :: rest := by rw [taken]; exact queue
    obtain ⟨rest', line', a, replies', -⟩ := Device.execute_ready queue' ready
    refine ⟨_, replyTo body a, exec_transmitLineFree done, ?_, ?_, ?_, rfl, rfl, rfl⟩
    · rw [free, Device.settleLink, line', taken]
      rfl
    · rw [free, Device.settleLink, rest']
    · rw [free, Device.settleLink, replies', taken]

end Sys2Proof.Machine
end

section
/-!
PROOF. SETUP: the settings that it leaves, its answer, and what it does in STANDBY (R48, R49, R64).
-/

namespace Sys2Proof.Machine

variable {d : Device} {s : State} {f : BitVec 24} {b : SettingsBlock} {loud : LoudMode} {change : ChangeMode}

/-! ## The settings stored (R48) -/

theorem setNum_eq {w : Nat} (f : BitVec 24) (i : Nat) (old : Int) (v : BitVec w) {lo hi : Int} (h : lo ≤ hi) :
    setNum f i old v lo hi = if f.getLsbD i then max lo (min hi v.toInt) else old := by
  rw [setNum, clampInt_eq h]
  rfl

theorem switch_byte (v : Byte) : (v != 0) = decide (1 ≤ v.toNat) := by
  rw [Bool.eq_iff_iff, bne_iff_ne, decide_eq_true_iff, Nat.one_le_iff_ne_zero, ne_eq, ne_eq,
    ← BitVec.toNat_inj (x := v) (y := 0)]
  rfl

/-- A SETUP stores each present field clamped into its range. -/
theorem Settings.take_eq_storing (o : Settings) (f : BitVec 24) (b : SettingsBlock) (loud : LoudMode)
    (change : ChangeMode) : o.take f b loud change = o.storing f b loud change := by
  unfold Settings.take Settings.storing present
  simp only [switch_byte, setNum_eq _ _ _ _ (by decide : (0 : Int) ≤ 480000), setNum_eq _ _ _ _ (by decide : (-400 : Int) ≤ -100),
    setNum_eq _ _ _ _ (by decide : (0 : Int) ≤ 120), setNum_eq _ _ _ _ (by decide : (0 : Int) ≤ 200),
    setNum_eq _ _ _ _ (by decide : (1 : Int) ≤ 100), setNum_eq _ _ _ _ (by decide : (-2000 : Int) ≤ 2000),
    setNum_eq _ _ _ _ (by decide : (-700 : Int) ≤ -300), setNum_eq _ _ _ _ (by decide : (0 : Int) ≤ 100),
    setNum_eq _ _ _ _ (by decide : (5 : Int) ≤ 600), setNum_eq _ _ _ _ (by decide : (-800 : Int) ≤ -300),
    setNum_eq _ _ _ _ (by decide : (1 : Int) ≤ 300), setNum_eq _ _ _ _ (by decide : (1 : Int) ≤ 60),
    setNum_eq _ _ _ _ (by decide : (5 : Int) ≤ 100), setNum_eq _ _ _ _ (by decide : (-60 : Int) ≤ 0)]

theorem clampInt_eq_self {v lo hi : Int} (h : lo ≤ hi) : clampInt v lo hi = v ↔ lo ≤ v ∧ v ≤ hi := by
  rw [clampInt_eq h]
  omega

theorem numClamped_eq_false {w : Nat} (f : BitVec 24) (i : Nat) (v : BitVec w) {lo hi : Int} (h : lo ≤ hi) :
    numClamped f i v lo hi = false ↔ (f.getLsbD i = true → lo ≤ v.toInt ∧ v.toInt ≤ hi) := by
  rw [numClamped, Bool.and_eq_false_imp, bne_eq_false_iff_eq, clampInt_eq_self h]
  rfl

theorem switchClamped_eq_false (f : BitVec 24) (v : Byte) : (present f 7 && decide (1 < v.toNat)) = false ↔
    (f.getLsbD 7 = true → (0 : Int) ≤ v.toNat ∧ (v.toNat : Int) ≤ 1) := by
  rw [Bool.and_eq_false_imp, decide_eq_false_iff_not]
  refine imp_congr Iff.rfl ?_
  omega

/-- A SETUP is CLAMPED unless every present field lies in its range. -/
theorem setupClamped_eq_false : setupClamped f b = false ↔ fieldsInRange f b := by
  unfold setupClamped fieldsInRange numericFields
  simp only [Bool.or_eq_false_iff, List.forall_mem_cons, List.not_mem_nil, false_imp_iff, implies_true, and_true,
    switchClamped_eq_false, and_assoc]
  simp only [numClamped_eq_false _ _ _ (by decide : (0 : Int) ≤ 480000), numClamped_eq_false _ _ _ (by decide : (-400 : Int) ≤ -100),
    numClamped_eq_false _ _ _ (by decide : (0 : Int) ≤ 120), numClamped_eq_false _ _ _ (by decide : (0 : Int) ≤ 200),
    numClamped_eq_false _ _ _ (by decide : (1 : Int) ≤ 100), numClamped_eq_false _ _ _ (by decide : (-2000 : Int) ≤ 2000),
    numClamped_eq_false _ _ _ (by decide : (-700 : Int) ≤ -300), numClamped_eq_false _ _ _ (by decide : (0 : Int) ≤ 100),
    numClamped_eq_false _ _ _ (by decide : (5 : Int) ≤ 600), numClamped_eq_false _ _ _ (by decide : (-800 : Int) ≤ -300),
    numClamped_eq_false _ _ _ (by decide : (1 : Int) ≤ 300), numClamped_eq_false _ _ _ (by decide : (1 : Int) ≤ 60),
    numClamped_eq_false _ _ _ (by decide : (5 : Int) ≤ 100), numClamped_eq_false _ _ _ (by decide : (-60 : Int) ≤ 0)]

theorem Answer.clampedIf_segments (c : Bool) (l : List Byte) : (Answer.clampedIf c l).segments = [l] := by
  cases c <;> rfl

/-- A SETUP is OK where every present field lies in its range, and CLAMPED otherwise (R48). -/
theorem setupStatus (f : BitVec 24) (b : SettingsBlock) (l : List Byte) :
    (fieldsInRange f b → (Answer.clampedIf (setupClamped f b) l).status = .ok) ∧
      (¬ fieldsInRange f b → (Answer.clampedIf (setupClamped f b) l).status = .clamped) := by
  refine ⟨fun h => ?_, fun h => ?_⟩
  · rw [setupClamped_eq_false.2 h]
    rfl
  · rw [eq_true_of_ne_false (mt setupClamped_eq_false.1 h)]
    rfl

/-! ## The mode codes and the check of the state -/

theorem loudMode?_of_code (l : LoudMode) : loudMode? (loudCode l) = some l := by cases l <;> rfl

theorem changeMode?_of_code (c : ChangeMode) : changeMode? (changeCode c) = some c := by cases c <;> rfl

/-- What a SETUP does in STANDBY and ACTIVE depends on a mode only where its field is present. -/
theorem Settings.storing_congr (o : Settings) {l l' : LoudMode} {c c' : ChangeMode} (hl : f.getLsbD 1 = true → l = l')
    (hc : f.getLsbD 8 = true → c = c') : o.storing f b l c = o.storing f b l' c' := by
  unfold Settings.storing
  have loud : (if f.getLsbD 1 then l else o.loudnessMode) = if f.getLsbD 1 then l' else o.loudnessMode := by
    split_ifs with h
    · exact hl h
    · rfl
  have change : (if f.getLsbD 8 then c else o.changeoverMode) = if f.getLsbD 8 then c' else o.changeoverMode := by
    split_ifs with h
    · exact hc h
    · rfl
  rw [loud, change]

/-- A SETUP with its mode codes named, in STANDBY or ACTIVE, is taken (R48). -/
theorem exec_setup {tag : Byte} {n : Ix8} (ready : s.dev.readyInRun) (names : namesModes f b loud change)
    (state : (s.dev.prog n).record.state = .standby ∨ (s.dev.prog n).record.state = .active) :
    ∃ l c, (s.dev.prog n).record.settings.take f b l c = (s.dev.prog n).record.settings.storing f b loud change ∧
      exec (.setup tag (byteOf n.val) f b) s = .next (s.answered (s.dev.setup n f b l c)
        (executedReply 0xA1 tag (Answer.clampedIf (setupClamped f b) []).status
          [(s.dev.setup n f b l c).setupFields n])) := by
  obtain ⟨loudName, changeName⟩ := names
  refine ⟨if f.getLsbD 1 then loud else .off, if f.getLsbD 8 then change else .manual, ?_, ?_⟩
  · rw [Settings.take_eq_storing]
    exact Settings.storing_congr _ (fun h => if_pos h) fun h => if_pos h
  · have l : (if present f 1 then loudMode? b.loudnessMode else some .off) =
        some (if f.getLsbD 1 then loud else .off) := by
      unfold present
      split_ifs with h
      · rw [loudName h, loudMode?_of_code]
      · rfl
    have c : (if present f 8 then changeMode? b.changeoverMode else some .manual) =
        some (if f.getLsbD 8 then change else .manual) := by
      unfold present
      split_ifs with h
      · rw [changeName h, changeMode?_of_code]
      · rfl
    have taken : ¬ (s.dev.inState n .free = true ∨ s.dev.inState n .stopping = true) := by
      obtain h | h := state <;> simp [Device.inState, h]
    have run : s.dev.carryOut (.setup (byteOf n.val) f b) =
        (s.dev.setup n f b (if f.getLsbD 1 then loud else .off) (if f.getLsbD 8 then change else .manual),
          .clampedIf (setupClamped f b) ((s.dev.setup n f b (if f.getLsbD 1 then loud else .off)
            (if f.getLsbD 8 then change else .manual)).setupFields n)) := by
      simp only [Device.carryOut, Device.requestSetup, ix8?_byteOf, l, c, if_neg taken]
    rw [exec_run_executed (i := .setup tag (byteOf n.val) f b) rfl rfl ready nofun nofun run, Answer.clampedIf_segments]
    rfl

/-! ## SETUP in STANDBY -/

theorem Oct.set_set {α : Type} (o : Oct α) (i : Ix8) (a b : α) : (o.set i a).set i b = o.set i b := by
  fin_cases i <;> rfl

theorem Device.modProg_congr (d : Device) (n : Ix8) {f g : Programme → Programme} (h : f (d.prog n) = g (d.prog n)) :
    d.modProg n f = d.modProg n g := by
  unfold Device.modProg Oct.modify
  rw [show f (d.progs.get n) = g (d.progs.get n) from h]

/-- Two changes of one programme, one after the other. -/
theorem Device.modProg_modProg (d : Device) (n : Ix8) (f g : Programme → Programme) :
    (d.modProg n f).modProg n g = d.modProg n fun x => g (f x) := by
  unfold Device.modProg Oct.modify
  dsimp only
  rw [Oct.set_set, Oct.get_set_self]

/-- The part with the settings of a programme stored, and the threshold of a stored gap level (R48, R64). -/
def Device.stored (d : Device) (n : Ix8) (f : BitVec 24) (o : Settings) : Device :=
  d.modProg n fun x => { x with
    record := { x.record with settings := o }
    ctx := { x.ctx with gapThreshold := if f.getLsbD 9 then amplitudeOf o.gapLevel else x.ctx.gapThreshold } }

/-- A SETUP stores the settings, and passes them to the other blocks of an ACTIVE programme (R48, R49). -/
theorem Device.setup_eq (d : Device) (n : Ix8) (f : BitVec 24) (b : SettingsBlock) (l : LoudMode) (c : ChangeMode) :
    d.setup n f b l c =
      let e := d.stored n f ((d.prog n).record.settings.take f b l c)
      if d.active n then e.applySetup n f else e := by
  have stored : (if present f 9 then
      (d.modRecord n fun r => { r with settings := r.settings.take f b l c }).modCtx n fun x => { x with
        gapThreshold := amplitudeOf
          ((d.modRecord n fun r => { r with settings := r.settings.take f b l c }).prog n).record.settings.gapLevel }
      else d.modRecord n fun r => { r with settings := r.settings.take f b l c }) =
      d.stored n f ((d.prog n).record.settings.take f b l c) := by
    unfold Device.modCtx Device.modRecord Device.stored present
    rw [Device.modProg_modProg, Device.prog_modProg_self]
    split_ifs <;> exact d.modProg_congr n rfl
  unfold Device.setup
  simp only [stored]
  have same : (d.stored n f ((d.prog n).record.settings.take f b l c)).active n = d.active n := by
    simp only [Device.active, Device.inState, Device.stored, Device.prog_modProg_self]
  rw [same]

/-- Settles O17: a programme in STANDBY keeps the settings stored, and nothing else follows. -/
theorem setupInStandbyStoresSettings : Obligations.SetupInStandbyStoresSettings := by
  intro s tag n f b loud change ready standby names
  obtain ⟨l, c, take, run⟩ := exec_setup (tag := tag) ready names (.inl standby)
  have inactive : s.dev.active n = false := by simp [Device.active, Device.inState, standby]
  have setup : s.dev.setup n f b l c = s.dev.stored n f ((s.dev.prog n).record.settings.storing f b loud change) := by
    rw [Device.setup_eq, take, inactive]
    rfl
  have fields : (s.dev.setup n f b l c).setupFields n =
      byteOf n.val :: settingsBytes ((s.dev.prog n).record.settings.storing f b loud change) := by
    rw [setup, Device.setupFields, Device.stored, Device.prog_modProg_self]
  rw [run, fields, setup]
  exact ⟨fun h => by rw [(setupStatus f b []).1 h]; rfl, fun h => by rw [(setupStatus f b []).2 h]; rfl⟩

end Sys2Proof.Machine
end

section
/-!
SUPPORT. What a change of the output slot map does: the entries, the checkers that watch a changed slot, and the
alarms (R47, R55, R139, R140, R174).
-/

namespace Sys2Proof.Machine

variable {d e f : Device}

/-- A place of the output slot map. -/
abbrev Place := Ix8 × Ix4

/-- The map entry of a place. -/
def Device.entryAt (d : Device) (p : Place) : MapEntry := (d.map.get p.1).get p.2

/-- The entries `new` stand in the map; where `hit` holds of the place a checker watches, the checker hunts again, with
CHECK_LOSS active where it was in SYNC; and nothing else has changed but the CHECK_LOSS records. -/
structure Device.Remapped (d e : Device) (hit : Place → Prop) : Prop where
  frame : e = { d with map := e.map, checkers := e.checkers, alarms := e.alarms }
  hunts : ∀ i p, (d.checkers.get i).watched = some p → hit p → (d.checkers.get i).state ≠ .idle →
    e.checkers.get i = (d.checkers.get i).hunt
  stays : ∀ i, (∀ p, (d.checkers.get i).watched = some p → hit p → (d.checkers.get i).state = .idle) →
    e.checkers.get i = d.checkers.get i
  active : ∀ i p, (d.checkers.get i).watched = some p → hit p → (d.checkers.get i).state = .sync →
    (e.alarms.get (.checkLoss i)).active = true
  kept : ∀ i, (d.alarms.get (.checkLoss i)).active = true → (e.alarms.get (.checkLoss i)).active = true
  others : ∀ a, (∀ c, a ≠ .checkLoss c) → e.alarms.get a = d.alarms.get a

theorem Checker.hunt_hunt (c : Checker) : c.hunt.hunt = c.hunt := rfl

theorem Device.Remapped.refl (d : Device) {hit : Place → Prop} (h : ∀ p, ¬ hit p) : d.Remapped d hit where
  frame := rfl
  hunts _ p _ yes := absurd yes (h p)
  stays _ _ := rfl
  active _ p _ yes := absurd yes (h p)
  kept _ := id
  others _ _ := rfl

/-- What watches a place watches it still. -/
theorem Device.Remapped.watched {hit : Place → Prop} (h : d.Remapped e hit) (i : Ix2) :
    (e.checkers.get i).watched = (d.checkers.get i).watched := by
  by_cases hits : ∃ p, (d.checkers.get i).watched = some p ∧ hit p ∧ (d.checkers.get i).state ≠ .idle
  · obtain ⟨p, w, yes, busy⟩ := hits
    rw [h.hunts i p w yes busy]
    rfl
  · rw [h.stays i fun p w yes => by_contra fun busy => hits ⟨p, w, yes, busy⟩]

/-- Two changes of the map, one after the other. -/
theorem Device.Remapped.trans {hit more : Place → Prop} (h : d.Remapped e hit) (k : e.Remapped f more) :
    d.Remapped f fun p => hit p ∨ more p where
  frame := by
    rw [k.frame, h.frame]
  hunts i p w yes busy := by
    by_cases first : hit p
    · have c := h.hunts i p w first busy
      by_cases second : more p
      · rw [k.hunts i p ((h.watched i).trans w) second (by rw [c]; nofun), c, Checker.hunt_hunt]
      · rw [k.stays i fun q w' yes' => absurd yes' (by
          rw [h.watched i, w] at w'
          cases w'
          exact second), c]
    · have c := h.stays i fun q w' yes' => absurd yes' (by
        rw [w] at w'
        cases w'
        exact first)
      rw [k.hunts i p ((h.watched i).trans w) (yes.resolve_left first) (by rw [c]; exact busy), c]
  stays i none := by
    have c := h.stays i fun p w yes => none p w (.inl yes)
    rw [k.stays i fun p w yes => by
      rw [c] at w ⊢
      exact none p w (.inr yes), c]
  active i p w yes sync := by
    by_cases first : hit p
    · exact k.kept i (h.active i p w first sync)
    · have c := h.stays i fun q w' yes' => absurd yes' (by
        rw [w] at w'
        cases w'
        exact first)
      exact k.active i p ((h.watched i).trans w) (yes.resolve_left first) (by rw [c]; exact sync)
  kept i on := k.kept i (h.kept i on)
  others a other := (k.others a other).trans (h.others a other)

/-- The same places said otherwise. -/
theorem Device.Remapped.congr {hit more : Place → Prop} (h : d.Remapped e hit) (same : ∀ p, hit p ↔ more p) :
    d.Remapped e more := by
  rwa [show more = hit from funext fun p => propext (same p).symm]

/-! ## A place written (R140, R174) -/

theorem Device.modChecker_get (d : Device) (i j : Ix2) (g : Checker → Checker) :
    (d.modChecker i g).checkers.get j = if j = i then g (d.checkers.get i) else d.checkers.get j := by
  unfold Device.modChecker
  simp only [Duo.get_set, eq_comm]

/-- One checker hunts again, unless it is idle (R174). -/
theorem Device.rehunt_get (d : Device) (i j : Ix2) : (d.rehunt i).checkers.get j =
    if j = i ∧ (d.checkers.get i).state ≠ .idle then (d.checkers.get i).hunt else d.checkers.get j := by
  unfold Device.rehunt
  split
  · next idle => rw [if_neg fun h => h.2 idle]
  · next hunt =>
    rw [Device.modChecker_get]
    simp only [hunt, ne_eq, reduceCtorEq, not_false_eq_true, and_true]
  · next sync =>
    rw [show ((d.modChecker i Checker.hunt).activate (.checkLoss i)).checkers = (d.modChecker i Checker.hunt).checkers from rfl,
      Device.modChecker_get]
    simp only [sync, ne_eq, reduceCtorEq, not_false_eq_true, and_true]

theorem Device.rehunt_frame_eq (d : Device) (i : Ix2) :
    d.rehunt i = { d with checkers := (d.rehunt i).checkers, alarms := (d.rehunt i).alarms } := by
  unfold Device.rehunt
  split <;> rfl

theorem Device.rehunt_alarm (d : Device) (i : Ix2) {a : Alarm} (h : a ≠ .checkLoss i) :
    (d.rehunt i).alarms.get a = d.alarms.get a := by
  unfold Device.rehunt
  split
  · rfl
  · rfl
  · change (d.alarms.activate _ (.checkLoss i)).get a = _
    rw [AlarmUnit.activate_get, if_neg fun k => h k.1]

theorem Device.rehunt_kept (d : Device) (i j : Ix2) (on : (d.alarms.get (.checkLoss j)).active = true) :
    ((d.rehunt i).alarms.get (.checkLoss j)).active = true := by
  unfold Device.rehunt
  split
  · exact on
  · exact on
  · by_cases same : j = i
    · rw [same]
      exact AlarmUnit.activate_active _ _ _
    · change ((d.alarms.activate _ (.checkLoss i)).get (.checkLoss j)).active = true
      rw [AlarmUnit.activate_get, if_neg fun k => same (Alarm.checkLoss.inj k.1)]
      exact on

theorem Device.rehunt_sync (d : Device) (i : Ix2) (sync : (d.checkers.get i).state = .sync) :
    ((d.rehunt i).alarms.get (.checkLoss i)).active = true := by
  unfold Device.rehunt
  simp only [sync]
  exact AlarmUnit.activate_active _ _ _

/-- One checker takes a change at a place, where it watches it. -/
def Device.rehuntAt (d : Device) (p : Place) (i : Ix2) : Device :=
  if (d.checkers.get i).watched = some p then d.rehunt i else d

/-- Both checkers take a change at a place. -/
theorem Device.rehuntBoth (d : Device) (p : Place) :
    d.Remapped ((d.rehuntAt p 0).rehuntAt p 1) (fun q => q = p) ∧ ((d.rehuntAt p 0).rehuntAt p 1).map = d.map := by
  have frame (d : Device) (i : Ix2) :
      d.rehuntAt p i = { d with checkers := (d.rehuntAt p i).checkers, alarms := (d.rehuntAt p i).alarms } := by
    unfold Device.rehuntAt
    split
    · exact d.rehunt_frame_eq i
    · rfl
  have get (d : Device) (i j : Ix2) : (d.rehuntAt p i).checkers.get j =
      if j = i ∧ (d.checkers.get i).watched = some p ∧ (d.checkers.get i).state ≠ .idle then (d.checkers.get i).hunt
      else d.checkers.get j := by
    unfold Device.rehuntAt
    split
    · next w => rw [d.rehunt_get]; simp only [w, true_and]
    · next w => simp only [w, false_and, and_false, if_false]
  have both (j : Ix2) : ((d.rehuntAt p 0).rehuntAt p 1).checkers.get j =
      if (d.checkers.get j).watched = some p ∧ (d.checkers.get j).state ≠ .idle then (d.checkers.get j).hunt
      else d.checkers.get j := by
    rw [get, get, get]
    fin_cases j <;> simp
  have kept (d : Device) (i j : Ix2) (on : (d.alarms.get (.checkLoss j)).active = true) :
      ((d.rehuntAt p i).alarms.get (.checkLoss j)).active = true := by
    unfold Device.rehuntAt
    split
    · exact d.rehunt_kept i j on
    · exact on
  have sync (d : Device) (i : Ix2) (w : (d.checkers.get i).watched = some p) (s : (d.checkers.get i).state = .sync) :
      ((d.rehuntAt p i).alarms.get (.checkLoss i)).active = true := by
    rw [Device.rehuntAt, if_pos w]
    exact d.rehunt_sync i s
  have other (d : Device) (i : Ix2) (a : Alarm) (h : a ≠ .checkLoss i) :
      (d.rehuntAt p i).alarms.get a = d.alarms.get a := by
    unfold Device.rehuntAt
    split
    · exact d.rehunt_alarm i h
    · rfl
  refine ⟨⟨?_, fun i q w same busy => ?_, fun i idle => ?_, fun i q w same s => ?_, fun i on => kept _ 1 i (kept d 0 i on),
    fun a h => (other _ 1 a (h 1)).trans (other d 0 a (h 0))⟩, ?_⟩
  · rw [frame, frame d]
  · rw [both, if_pos ⟨by rw [w, same], busy⟩]
  · rw [both, if_neg fun h => h.2 (idle p h.1 rfl)]
  · subst same
    fin_cases i
    · exact kept _ 1 0 (sync d 0 w s)
    · refine sync _ 1 ?_ ?_ <;> rw [get, if_neg (by simp)]
      · exact w
      · exact s
  · rw [frame, frame d]

theorem Quad.set_get {α : Type} (o : Quad α) (k : Ix4) : o.set k (o.get k) = o := by fin_cases k <;> rfl

/-- A place written: the entry stands there, and the checkers that watch it hunt again where it differs. -/
theorem Device.putMap_remapped (d : Device) (q : Ix8) (k : Ix4) (x : MapEntry) :
    d.Remapped (d.putMap q k x) (fun p => p = (q, k) ∧ d.entryAt p ≠ x) ∧
      (d.putMap q k x).map = d.map.set q ((d.map.get q).set k x) := by
  unfold Device.putMap
  split
  · next same =>
    refine ⟨.refl d fun p h => ?_, ?_⟩
    · obtain ⟨rfl, differs⟩ := h
      exact differs same
    · rw [← same, Quad.set_get, Oct.set_get]
  · next differs =>
    obtain ⟨b, map⟩ := Device.rehuntBoth { d with map := d.map.set q ((d.map.get q).set k x) } (q, k)
    refine ⟨⟨b.frame, fun i p w h => b.hunts i p w h.1, fun i idle => b.stays i fun p w h => idle p w ⟨h, ?_⟩,
      fun i p w h => b.active i p w h.1, b.kept, b.others⟩, map⟩
    subst h
    exact differs

theorem Device.putMap_entryAt (d : Device) (q : Ix8) (k : Ix4) (x : MapEntry) (p : Place) :
    (d.putMap q k x).entryAt p = if p = (q, k) then x else d.entryAt p := by
  rw [Device.entryAt, (d.putMap_remapped q k x).2, Oct.get_set]
  obtain ⟨i, j⟩ := p
  simp only [Prod.mk.injEq, Device.entryAt]
  by_cases row : q = i
  · subst row
    rw [if_pos rfl, Quad.get_set]
    simp only [true_and, eq_comm]
  · rw [if_neg row, if_neg fun h => row h.1.symm]

/-! ## Every place of which a test holds (R47, R55, R139) -/

/-- The places of the map in ascending order. -/
def places : List Place := eight.flatMap fun q => four.map fun k => (q, k)

theorem mem_places (p : Place) : p ∈ places := by
  obtain ⟨q, k⟩ := p
  fin_cases q <;> fin_cases k <;> decide

/-- One place is reset to SILENCE where the test holds of its entry. -/
def Device.silenceAt (test : MapEntry → Bool) (d : Device) (p : Place) : Device :=
  if test (d.entryAt p) then d.putMap p.1 p.2 .silence else d

theorem Device.silenceWhere_eq (d : Device) (test : MapEntry → Bool) :
    d.silenceWhere test = places.foldl (Device.silenceAt test) d := by
  unfold Device.silenceWhere places
  rw [List.foldl_flatMap]
  congr 1

/-- The places of a list of which the test holds are reset, and their checkers hunt again. -/
theorem Device.silenceList_remapped {test : MapEntry → Bool} (silence : test .silence = false) (l : List Place) (d : Device) :
    d.Remapped (l.foldl (Device.silenceAt test) d) (fun p => p ∈ l ∧ test (d.entryAt p) = true) ∧
      ∀ p, (l.foldl (Device.silenceAt test) d).entryAt p =
        if p ∈ l ∧ test (d.entryAt p) = true then .silence else d.entryAt p := by
  induction l generalizing d with
  | nil => exact ⟨.refl d fun p h => (by cases h.1), fun p => by simp⟩
  | cons p l ih =>
    obtain ⟨rest, entries⟩ := ih (d.silenceAt test p)
    have step : d.Remapped (d.silenceAt test p) (fun r => r = p ∧ test (d.entryAt r) = true) ∧
        ∀ r, (d.silenceAt test p).entryAt r = if r = p ∧ test (d.entryAt r) = true then .silence else d.entryAt r := by
      unfold Device.silenceAt
      by_cases yes : test (d.entryAt p) = true
      · rw [if_pos yes]
        refine ⟨(d.putMap_remapped p.1 p.2 .silence).1.congr fun r => and_congr_right fun same => ?_, fun r => ?_⟩
        · subst same
          refine iff_of_true (fun h => ?_) yes
          rw [h, silence] at yes
          cases yes
        · rw [Device.putMap_entryAt]
          refine if_congr ?_ rfl rfl
          exact ⟨fun h => ⟨h, by rw [h]; exact yes⟩, And.left⟩
      · rw [if_neg yes]
        have none (r : Place) : ¬ (r = p ∧ test (d.entryAt r) = true) := by
          rintro ⟨rfl, h⟩
          exact yes h
        exact ⟨.refl d none, fun r => by rw [if_neg (none r)]⟩
    have hits (r : Place) : test ((d.silenceAt test p).entryAt r) = true ↔ r ≠ p ∧ test (d.entryAt r) = true := by
      rw [step.2]
      split_ifs with h
      · exact iff_of_false (by simp [silence]) fun k => k.1 h.1
      · exact ⟨fun k => ⟨fun same => h ⟨same, k⟩, k⟩, And.right⟩
    refine ⟨(step.1.trans rest).congr fun r => ?_, fun r => ?_⟩
    · rw [hits, List.mem_cons]
      by_cases same : r = p <;> simp [same]
    · simp only [List.foldl_cons, entries, hits]
      simp only [step.2, List.mem_cons]
      by_cases same : r = p <;> simp [same]

/-- Every place of which the test holds is reset, and the checkers that watch one hunt again. -/
theorem Device.silenceWhere_remapped (d : Device) {test : MapEntry → Bool} (silence : test .silence = false) :
    d.Remapped (d.silenceWhere test) (fun p => test (d.entryAt p) = true) ∧
      ∀ p, (d.silenceWhere test).entryAt p = if test (d.entryAt p) = true then .silence else d.entryAt p := by
  obtain ⟨remapped, entries⟩ := Device.silenceList_remapped silence places d
  rw [Device.silenceWhere_eq]
  exact ⟨remapped.congr fun p => and_iff_right (mem_places p), fun p => by rw [entries]; simp only [mem_places, true_and]⟩

end Sys2Proof.Machine
end

section
/-!
PROOF. The requests that change the output slot map: ROUTE, DELETE and DEFINE (R45 to R47, R55, R139, R140, R162).
-/

namespace Sys2Proof.Machine

variable {d e : Device} {s : State} {tag : Byte}

/-! ## ROUTE (R140) -/

theorem mapEntry?_names {a b c : Byte} {x : MapEntry}
    (names : (a = 0 ∧ x = .silence) ∨ (∃ n m : Ix8, a = 1 ∧ b = byteOf n.val ∧ c = byteOf m.val ∧ x = .member n m) ∨
      (∃ n : Ix8, a = 2 ∧ b = byteOf n.val ∧ x = .test n)) : mapEntry? a b c = some x := by
  obtain ⟨rfl, rfl⟩ | ⟨n, m, rfl, rfl, rfl, rfl⟩ | ⟨n, rfl, rfl, rfl⟩ := names
  · rfl
  · simp [mapEntry?]
  · simp [mapEntry?]

theorem Device.entryExists_iff (d : Device) (x : MapEntry) : d.entryExists x = true ↔
    ∀ n m : Ix8, x = .member n m → (d.prog n).record.state ≠ .free ∧ m.val < (d.prog n).record.members.length := by
  cases x with
  | silence => exact iff_of_true rfl nofun
  | test n => exact iff_of_true rfl nofun
  | member n m =>
    simp only [Device.entryExists, Device.inState, Bool.and_eq_true, Bool.not_eq_true', beq_eq_false_iff_ne,
      decide_eq_true_eq, MapEntry.member.injEq]
    exact ⟨fun h _ _ ⟨i, j⟩ => i ▸ j ▸ h, fun h => h n m ⟨rfl, rfl⟩⟩

theorem Device.putMap_present (d : Device) (q : Ix8) (k : Ix4) : d.putMap q k (d.entryAt (q, k)) = d := if_pos rfl

theorem Device.putMap_fields (d : Device) (q : Ix8) (k : Ix4) (x : MapEntry) :
    (d.putMap q k x).routeFields q k = [byteOf q.val, byteOf k.val] ++ entryBytes x := by
  have entry : (d.putMap q k x).entryAt (q, k) = x := by rw [Device.putMap_entryAt, if_pos rfl]
  rw [Device.routeFields]
  exact congrArg (fun y => [byteOf q.val, byteOf k.val] ++ entryBytes y) entry

/-- Settles O26: the entry stored, and the checkers that watch its slot. -/
theorem routeStoresTheEntry : Obligations.RouteStoresTheEntry := by
  intro s tag q k a b c x ready names
  have run : s.dev.carryOut (.route (byteOf q.val) (byteOf k.val) a b c) = if s.dev.entryExists x then
      (s.dev.putMap q k x, .ok ((s.dev.putMap q k x).routeFields q k)) else (s.dev, .refused .noSuchProg) := by
    simp only [Device.carryOut, Device.requestRoute, ix8?_byteOf, ix4?_byteOf, mapEntry?_names names]
  rw [← Device.entryExists_iff]
  have stores (there : s.dev.entryExists x = true) : exec (.route tag (byteOf q.val) (byteOf k.val) a b c) s =
      .next (s.answered (s.dev.putMap q k x) (okReply 0xB0 tag ([byteOf q.val, byteOf k.val] ++ entryBytes x))) := by
    rw [if_pos there] at run
    rw [exec_run_executed (i := .route tag (byteOf q.val) (byteOf k.val) a b c) rfl rfl ready nofun nofun run,
      Device.putMap_fields]
    rfl
  refine ⟨fun unknown => ?_, fun there same => ?_, fun there differs => ?_⟩
  · rw [if_neg unknown] at run
    exact exec_run_refused (i := .route tag (byteOf q.val) (byteOf k.val) a b c) rfl rfl ready nofun run
  · rw [stores there]
    have unchanged : s.dev.putMap q k x = s.dev := by
      rw [same]
      exact s.dev.putMap_present q k
    rw [unchanged]
  · obtain ⟨b, map⟩ := s.dev.putMap_remapped q k x
    have hit : s.dev.entryAt (q, k) ≠ x := fun h => differs h.symm
    refine ⟨_, stores there, by rw [← map]; exact b.frame, fun i => ⟨fun h => b.hunts i (q, k) h.1 ⟨rfl, hit⟩ h.2,
      fun h => b.stays i fun p w yes => h.resolve_left fun no => no (by rw [w, yes.1]),
      fun h => b.active i (q, k) h.1 ⟨rfl, hit⟩ h.2⟩⟩

/-! ## DELETE (R55, R162) -/

theorem MapEntry.names_iff (x : MapEntry) (n : Ix8) (first : Nat) : x.names n first = true ↔ isMemberFrom n first x := by
  cases x with
  | silence => exact iff_of_false nofun nofun
  | test j => exact iff_of_false nofun nofun
  | member j m =>
    simp only [MapEntry.names, Bool.and_eq_true, beq_iff_eq, decide_eq_true_eq]
    constructor
    · rintro ⟨rfl, h⟩
      exact ⟨m, rfl, h⟩
    · rintro ⟨m, ⟨⟩, h⟩
      exact ⟨rfl, h⟩

theorem AlarmUnit.foldl_wipe_get (l : List Alarm) (u : AlarmUnit) (b : Alarm) :
    (l.foldl AlarmUnit.wipe u).get b = if b ∈ l then .reset else u.get b := by
  induction l generalizing u with
  | nil => rfl
  | cons a l ih =>
    rw [List.foldl_cons, ih, AlarmUnit.wipe_get]
    by_cases same : b = a <;> simp [same]

theorem AlarmUnit.foldl_wipe_queue (l : List Alarm) (u : AlarmUnit) :
    (l.foldl AlarmUnit.wipe u).queue = u.queue.filter fun q => q.alarm ∉ l := by
  induction l generalizing u with
  | nil => simp
  | cons a l ih =>
    rw [List.foldl_cons, ih]
    change (u.queue.filter fun q => q.alarm ≠ a).filter _ = _
    rw [List.filter_filter]
    refine List.filter_congr fun q _ => ?_
    rw [Bool.eq_iff_iff]
    simp [not_or, and_comm]

theorem Device.entryAt_modProg (d : Device) (n : Ix8) (f : Programme → Programme) (p : Place) :
    (d.modProg n f).entryAt p = d.entryAt p := by
  unfold Device.entryAt
  rfl

/-- What a DELETE taken in STANDBY leaves (R55, R162). -/
theorem Device.deleteProgramme_eq (d : Device) (n : Ix8) :
    (d.deleteProgramme n).progs =
      d.progs.set n { d.prog n with record := Record.reset, ctx := Context.reset, meter := Meter.reset } ∧
    (∀ p, (d.deleteProgramme n).entryAt p = if (d.entryAt p).names n 0 = true then .silence else d.entryAt p) ∧
    (∀ a ∈ recordsOf n, (d.deleteProgramme n).alarms.get a = AlarmRecord.reset ∧
      ∀ q ∈ (d.deleteProgramme n).alarms.queue, q.alarm ≠ a) ∧
    (∀ a, a ∉ recordsOf n → (∀ c, a ≠ .checkLoss c) → (d.deleteProgramme n).alarms.get a = d.alarms.get a) ∧
    (d.deleteProgramme n).time = d.time ∧ (d.deleteProgramme n).ports = d.ports ∧ (d.deleteProgramme n).pool = d.pool ∧
    (d.deleteProgramme n).mem = d.mem ∧ (d.deleteProgramme n).link = d.link := by
  obtain ⟨b, entries⟩ := (d.modProg n fun x => { x with record := .reset, ctx := .reset, meter := .reset }).silenceWhere_remapped
    (test := fun x => x.names n 0) rfl
  simp only [Device.entryAt_modProg] at entries
  have get (u : AlarmUnit) (y : Alarm) : ((fun u => (recordsOf n).foldl AlarmUnit.wipe u) u).get y =
      if y ∈ recordsOf n then .reset else u.get y := AlarmUnit.foldl_wipe_get (recordsOf n) u y
  have queue (u : AlarmUnit) : ((fun u => (recordsOf n).foldl AlarmUnit.wipe u) u).queue =
      u.queue.filter fun q => q.alarm ∉ recordsOf n := AlarmUnit.foldl_wipe_queue (recordsOf n) u
  unfold Device.deleteProgramme
  extract_lets a
  generalize a.silenceWhere _ = f at b entries
  generalize (fun u => (recordsOf n).foldl AlarmUnit.wipe u) = wipe at get queue
  have progs : f.progs = a.progs := by rw [b.frame]
  have same : f.time = d.time ∧ f.ports = d.ports ∧ f.pool = d.pool ∧ f.mem = d.mem ∧ f.link = d.link := by
    rw [b.frame]
    exact ⟨rfl, rfl, rfl, rfl, rfl⟩
  refine ⟨progs, entries, fun x listed => ⟨(get _ _).trans (if_pos listed), fun q queued same => ?_⟩,
    fun x unlisted other => ((get _ _).trans (if_neg unlisted)).trans (b.others x other), same⟩
  have queued : q ∈ (wipe f.alarms).queue := queued
  rw [queue, List.mem_filter, same] at queued
  exact absurd listed (of_decide_eq_true queued.2)

/-- Settles O23: the record and what belongs to it, the map entries, and the alarm records. -/
theorem deleteFreesTheRecord : Obligations.DeleteFreesTheRecord := by
  intro s tag n ready
  refine ⟨fun v big => exec_run_refused (i := .delete tag v) rfl rfl ready nofun ?_, fun other => ?_, fun standby => ?_⟩
  · simp only [Device.carryOut, Device.requestDelete, ix8?_none big]
  · refine exec_run_refused (i := .delete tag (byteOf n.val)) rfl rfl ready nofun ?_
    have no : ¬ s.dev.inState n .standby = true := by simpa [Device.inState] using other
    simp only [Device.carryOut, Device.requestDelete, ix8?_byteOf, if_neg no]
  · have run : s.dev.carryOut (.delete (byteOf n.val)) =
        (s.dev.deleteProgramme n, .ok ((s.dev.deleteProgramme n).stateFields n)) := by
      simp only [Device.carryOut, Device.requestDelete, ix8?_byteOf, Device.inState, standby, beq_self_eq_true, if_true]
    obtain ⟨progs, entries, rest⟩ := s.dev.deleteProgramme_eq n
    generalize s.dev.deleteProgramme n = e at run progs entries rest
    have fields : e.stateFields n = [byteOf n.val, 0] := by
      rw [Device.stateFields, Device.prog, progs, Oct.get_set_self]
      rfl
    rw [fields] at run
    refine ⟨e, exec_run_executed (i := .delete tag (byteOf n.val)) rfl rfl ready nofun nofun run, progs, fun q k => ?_, rest⟩
    refine (entries (q, k)).trans ?_
    unfold Device.entryAt
    dsimp only
    cases (s.dev.map.get q).get k <;> simp [MapEntry.names]

/-! ## The values and the checks of DEFINE (R45, R46) -/

theorem role?_eq (b : Byte) (r : Role) : role? b = some r ↔ b = codeIn [Role.front, .surround, .low] r := by
  have code : codeIn [Role.front, .surround, .low] r = match r with
      | .front => 0
      | .surround => 1
      | .low => 2 := by cases r <;> rfl
  rw [code]
  unfold role?
  split_ifs with h0 h1 h2 <;> cases r <;> simp_all

theorem source?_sourceByte (q : Source) : source? (sourceByte q) = some q := by
  obtain ⟨p, k⟩ := q
  fin_cases p <;> fin_cases k <;> rfl

theorem source?_eq (b : Byte) (q : Source) : source? b = some q ↔ b = sourceByte q := by
  refine ⟨fun h => ?_, fun h => h ▸ source?_sourceByte q⟩
  unfold source? at h
  simp only [Option.bind_eq_some_iff, Option.map_eq_some_iff] at h
  obtain ⟨p, hp, k, hk, rfl⟩ := h
  have p' : p.val = b.toNat / 4 := by
    unfold ix8? at hp
    split at hp
    · exact (congrArg Fin.val (Option.some.inj hp)).symm
    · cases hp
  have k' : k.val = b.toNat % 4 := by
    unfold ix4? at hk
    split at hk
    · exact (congrArg Fin.val (Option.some.inj hk)).symm
    · cases hk
  rw [sourceByte, p', k', Nat.div_add_mod]
  exact BitVec.eq_of_toNat_eq (by simp [byteOf])

theorem sourceByte_ne_ff (q : Source) : sourceByte q ≠ 0xFF := by
  obtain ⟨p, k⟩ := q
  fin_cases p <;> fin_cases k <;> decide

theorem backup?_eq (b : Byte) (z : Option Source) : backup? b = some z ↔ b = z.elim 0xFF sourceByte := by
  unfold backup?
  split_ifs with absent
  · cases z with
    | none => exact iff_of_true rfl absent
    | some q => exact iff_of_false nofun fun h => sourceByte_ne_ff q (h.symm.trans absent)
  · cases z with
    | none => exact iff_of_false (by simp) absent
    | some q =>
      simp only [Option.map_eq_some_iff, Option.some.injEq, exists_eq_right, source?_eq]
      rfl

theorem member?_eq (f : MemberField) (z : Member) : member? f = some z ↔ namesMember f z := by
  obtain ⟨r, p, b⟩ := z
  have named : namesMember f ⟨r, p, b⟩ ↔ role? f.role = some r ∧ source? f.primary = some p ∧ backup? f.backup = some b := by
    rw [role?_eq, source?_eq, backup?_eq]
    cases b <;> rfl
  rw [named]
  unfold member?
  constructor
  · intro h
    split at h
    · next hr hp hb =>
      cases h
      exact ⟨hr, hp, hb⟩
    · cases h
  · rintro ⟨hr, hp, hb⟩
    simp only [hr, hp, hb]

theorem members?_eq (l : List MemberField) (given : List Member) :
    members? l = some given ↔ List.Forall₂ namesMember l given := by
  induction l generalizing given with
  | nil => simp [members?, eq_comm]
  | cons f l ih =>
    simp only [members?, Option.bind_eq_some_iff, Option.map_eq_some_iff, List.forall₂_cons_left_iff, member?_eq, ih]
    grind

theorem distinctSources_eq (l : List Source) : distinctSources l = true ↔ l.Nodup := by
  induction l with
  | nil => simp [distinctSources]
  | cons q l ih => simp [distinctSources, ih]

/-- The test of source exclusivity is that of R46. -/
theorem Device.exclusive_iff (d : Device) (n : Ix8) (append : Bool) (given : List Member) :
    d.exclusive n append given = true ↔ d.mayName n append given := by
  have all (k : Ix8) : k ∈ eight := by fin_cases k <;> decide
  have held (x : Source) : x ∈ d.sourcesHeld n append ↔
      ∃ k : Ix8, (k ≠ n ∨ append = true) ∧ x ∈ sourcesNamed (d.prog k).record.members := by
    simp only [Device.sourcesHeld, List.mem_append, List.mem_flatMap]
    constructor
    · rintro (⟨k, -, h⟩ | h)
      · split_ifs at h with other
        · cases h
        · exact ⟨k, .inl other, h⟩
      · split_ifs at h with on
        · exact ⟨n, .inr on, h⟩
        · cases h
    · rintro ⟨k, other | on, h⟩
      · exact .inl ⟨k, all k, by rwa [if_neg other]⟩
      · by_cases same : k = n
        · exact .inr (by rw [if_pos on, ← same]; exact h)
        · exact .inl ⟨k, all k, by rwa [if_neg same]⟩
  simp only [Device.exclusive, Bool.and_eq_true, distinctSources_eq, List.all_eq_true, Bool.not_eq_true',
    List.contains_eq_mem, decide_eq_false_iff_not, held, Device.mayName]
  refine and_congr_right fun _ => ⟨fun h k other x named there => h x named ⟨k, other, there⟩, ?_⟩
  rintro h x named ⟨k, other, there⟩
  exact h k other x named there

/-- DEFINE of values that name a programme, a mode and members (R45 to R47). -/
theorem Device.carryOut_define (d : Device) (n : Ix8) (append : Bool) {fields : List MemberField} {given : List Member}
    (names : List.Forall₂ namesMember fields given) :
    d.carryOut (.define (byteOf n.val) (boolByte append) fields) =
      let r := (d.prog n).record
      let l := if append then r.members ++ given else given
      if r.state = .active ∨ r.state = .stopping then (d, .refused .wrongState)
      else if 8 < l.length then (d, .refused .listFull)
      else if d.exclusive n append given then (d.define n l, .ok ((d.define n l).defineFields n))
      else (d, .refused .sourceInUse) := by
  simp only [Device.carryOut, Device.requestDefine, ix8?_byteOf, flag?_boolByte, (members?_eq _ _).2 names]
  rfl

/-- The record and the map of a DEFINE that passes its checks (R47). -/
theorem Device.define_remapped (d : Device) (n : Ix8) (l : List Member) :
    (d.modRecord n fun r => { r with members := l, state := .standby }).Remapped (d.define n l)
        (fun p => isMemberFrom n l.length (d.entryAt p)) ∧
      ∀ p, (isMemberFrom n l.length (d.entryAt p) → (d.define n l).entryAt p = .silence) ∧
        (¬ isMemberFrom n l.length (d.entryAt p) → (d.define n l).entryAt p = d.entryAt p) := by
  obtain ⟨b, entries⟩ := (d.modRecord n fun r => { r with members := l, state := .standby }).silenceWhere_remapped
    (test := fun x => x.names n l.length) rfl
  refine ⟨b.congr fun p => MapEntry.names_iff _ n l.length, fun p => ⟨fun yes => ?_, fun no => ?_⟩⟩
  · exact (entries p).trans (if_pos ((MapEntry.names_iff _ n l.length).2 yes))
  · exact (entries p).trans (if_neg (mt (MapEntry.names_iff _ n l.length).1 no))

/-- Settles O16: the checks in their order, and the record and the map of what passes them. -/
theorem defineChecksAndStoresTheList : Obligations.DefineChecksAndStoresTheList := by
  intro s tag programme mode fields ready short
  have formed : (Instr.define tag programme mode fields).wellFormed = true := by
    simp only [Instr.wellFormed, fitsFrame, Bool.and_eq_true, decide_eq_true_eq]
    omega
  refine ⟨fun bad => exec_run_refused (i := .define tag programme mode fields) rfl formed ready nofun ?_, ?_⟩
  · have none : ix8? programme.toNat = none ∨ flag? mode = none ∨ members? fields = none :=
      bad.imp ix8?_none (Or.imp flag?_none fun h => Option.eq_none_iff_forall_ne_some.2 fun given named =>
        h ⟨given, (members?_eq fields given).1 named⟩)
    simp only [Device.carryOut, Device.requestDefine]
    split
    · next x y z => rw [x, y, z] at none; simp at none
    · rfl
  · rintro n append given rfl rfl names r l
    have run := s.dev.carryOut_define n append names
    change _ = (if r.state = .active ∨ r.state = .stopping then (s.dev, .refused .wrongState)
      else if 8 < l.length then (s.dev, .refused .listFull)
      else if s.dev.exclusive n append given then (s.dev.define n l, .ok ((s.dev.define n l).defineFields n))
      else (s.dev, .refused .sourceInUse) : Device × Answer) at run
    have idle (h : r.state = .free ∨ r.state = .standby) : ¬ (r.state = .active ∨ r.state = .stopping) := by
      obtain h | h := h <;> rw [h] <;> decide
    have refused {x : Reason} (h : s.dev.carryOut (.define (byteOf n.val) (boolByte append) fields) = (s.dev, .refused x)) :
        exec (.define tag (byteOf n.val) (boolByte append) fields) s =
          .next (s.answered s.dev (refusedReply 0xA0 tag x)) :=
      exec_run_refused (i := .define tag (byteOf n.val) (boolByte append) fields) rfl formed ready nofun h
    refine ⟨fun busy => refused (run.trans (if_pos busy)), fun free long => ?_, fun free fits taken => ?_,
      fun free fits may => ?_⟩
    · exact refused (run.trans ((if_neg (idle free)).trans (if_pos long)))
    · rw [if_neg (idle free), if_neg (by omega), if_neg (mt (s.dev.exclusive_iff n append given).1 taken)] at run
      exact refused run
    · rw [if_neg (idle free), if_neg (by omega), if_pos ((s.dev.exclusive_iff n append given).2 may)] at run
      obtain ⟨b, entries⟩ := s.dev.define_remapped n l
      have progs : (s.dev.define n l).progs =
          (s.dev.modRecord n fun r => { r with members := l, state := .standby }).progs := by rw [b.frame]
      have fields' : (s.dev.define n l).defineFields n = [byteOf n.val, 1, byteOf l.length] := by
        rw [Device.defineFields, Device.prog, progs]
        change [byteOf n.val, progCode ((s.dev.modProg n _).prog n).record.state,
          byteOf ((s.dev.modProg n _).prog n).record.members.length] = _
        rw [Device.prog_modProg_self]
        rfl
      refine ⟨_, exec_run_executed (i := .define tag (byteOf n.val) (boolByte append) fields) rfl formed ready nofun nofun
        (run.trans (by rw [fields'])), progs, fun q k => entries (q, k), fun c q k w => ⟨fun yes busy => ?_, fun no => ?_⟩,
        fun a other => b.others a other, ?_, ?_, ?_, ?_, ?_, ?_, ?_⟩
      · rw [b.hunts c (q, k) w yes busy]
        rfl
      · refine b.stays c fun p w' yes => absurd yes ?_
        cases w.symm.trans w'
        exact no
      all_goals
        rw [b.frame]
        rfl

end Sys2Proof.Machine
end

section
/-!
PROOF. AMASK, ACLEAR, COUNTS and LRESET (R121, R155, R156, R159, R160).
-/

namespace Sys2Proof.Machine

variable {u : AlarmUnit} {d e : Device} {s : State} {tag : Byte}

/-! ## The pin as the records and the enables put it -/

/-- The pin stands at the level of the latches and the enables. -/
def AlarmUnit.Judged (u : AlarmUnit) : Prop := u.pin = pinLevel u.records u.masks

theorem AlarmUnit.Judged.pin_iff (h : u.Judged) :
    u.pin = true ↔ ∃ a, (u.masks.get a.kind).summary = true ∧ (u.get a).latch = true := by
  rw [h, pinLevel_iff]
  rfl

/-! ## AMASK (R155) -/

theorem AlarmUnit.foldl_dropNotice (l : List Alarm) (u : AlarmUnit) :
    (∀ a, (l.foldl AlarmUnit.dropNotice u).get a = if a ∈ l then { u.get a with noticed := false } else u.get a) ∧
      (l.foldl AlarmUnit.dropNotice u).queue = u.queue.filter (fun q => q.alarm ∉ l) ∧
      (l.foldl AlarmUnit.dropNotice u).masks = u.masks ∧ (u.Judged → (l.foldl AlarmUnit.dropNotice u).Judged) := by
  induction l generalizing u with
  | nil => exact ⟨fun a => rfl, by simp, rfl, id⟩
  | cons b l ih =>
    obtain ⟨get, queue, masks, pin⟩ := ih (u.dropNotice b)
    refine ⟨fun a => ?_, ?_, masks, fun _ => pin rfl⟩
    · rw [List.foldl_cons, get, AlarmUnit.dropNotice_get]
      by_cases same : a = b <;> simp [same]
    · rw [List.foldl_cons, queue]
      change (u.queue.filter fun q => q.alarm ≠ b).filter _ = _
      rw [List.filter_filter]
      refine List.filter_congr fun q _ => ?_
      rw [Bool.eq_iff_iff]
      simp [and_comm]

/-- One kind takes its enables, and its notices go where notify is disabled. -/
theorem AlarmUnit.mask_eq (u : AlarmUnit) (k : Kind) (m : Mask) :
    (∀ j, (u.mask k m).masks.get j = if j = k then m else u.masks.get j) ∧
      (∀ a, (u.mask k m).get a =
        if a.kind = k ∧ m.notify = false then { u.get a with noticed := false } else u.get a) ∧
      (u.mask k m).queue = u.queue.filter (fun q => m.notify = true ∨ q.alarm.kind ≠ k) ∧ (u.mask k m).Judged := by
  unfold AlarmUnit.mask
  cases on : m.notify with
  | true => exact ⟨fun j => PerKind.get_set _ _ _ _, fun a => by simp; rfl, by simp; rfl, rfl⟩
  | false =>
    obtain ⟨get, queue, masks, pin⟩ := AlarmUnit.foldl_dropNotice k.instances (u.setMask k m)
    simp only [Bool.false_eq_true, if_false, and_true, false_or]
    refine ⟨fun j => by rw [masks]; exact PerKind.get_set _ _ _ _, fun a => ?_, ?_, pin rfl⟩
    · rw [get]
      simp only [Kind.mem_instances]
      rfl
    · rw [queue]
      simp only [Kind.mem_instances]
      rfl

/-- The kinds of a list take the enables. -/
theorem AlarmUnit.foldl_mask (ks : List Kind) (m : Mask) (u : AlarmUnit) :
    (∀ j, (ks.foldl (fun v k => v.mask k m) u).masks.get j = if j ∈ ks then m else u.masks.get j) ∧
      (∀ a, (ks.foldl (fun v k => v.mask k m) u).get a =
        if a.kind ∈ ks ∧ m.notify = false then { u.get a with noticed := false } else u.get a) ∧
      (ks.foldl (fun v k => v.mask k m) u).queue =
        u.queue.filter (fun q => m.notify = true ∨ q.alarm.kind ∉ ks) ∧
      (ks ≠ [] ∨ u.Judged → (ks.foldl (fun v k => v.mask k m) u).Judged) := by
  induction ks generalizing u with
  | nil => exact ⟨fun j => rfl, fun a => by simp, by simp, fun h => h.resolve_left (· rfl)⟩
  | cons k ks ih =>
    obtain ⟨masks, get, queue, pin⟩ := ih (u.mask k m)
    obtain ⟨masks1, get1, queue1, pin1⟩ := u.mask_eq k m
    refine ⟨fun j => ?_, fun a => ?_, ?_, fun _ => pin (.inr pin1)⟩
    · rw [List.foldl_cons, masks, masks1]
      by_cases same : j = k <;> simp [same]
    · rw [List.foldl_cons, get, get1]
      by_cases same : a.kind = k <;> cases m.notify <;> simp [same]
    · rw [List.foldl_cons, queue, queue1, List.filter_filter]
      refine List.filter_congr fun q _ => ?_
      rw [Bool.eq_iff_iff]
      cases m.notify <;> simp [and_comm]

/-- The kinds that a kind byte of AMASK names. -/
theorem kinds?_eq {kind : Byte} (names : kind.toNat ≤ 10 ∨ kind = 0xFF) :
    ∃ ks, kinds? kind = some ks ∧ ks ≠ [] ∧ ∀ k : Kind, k ∈ ks ↔ kind = 0xFF ∨ k.code = kind.toNat := by
  by_cases all : kind = 0xFF
  · exact ⟨allKinds, if_pos all, nofun, fun k => iff_of_true (mem_allKinds k) (.inl all)⟩
  · have small : kind.toNat < allKinds.length := Nat.lt_succ_of_le (names.resolve_right all)
    refine ⟨[allKinds[kind.toNat]], ?_, nofun, fun k => ?_⟩
    · rw [kinds?, if_neg all, List.getElem?_eq_getElem small]
      rfl
    · rw [List.mem_singleton, or_iff_right all, ← allKinds_getElem?_iff, List.getElem?_eq_getElem small,
        Option.some.injEq, eq_comm]

theorem kinds?_none {kind : Byte} (big : 10 < kind.toNat) (some : kind ≠ 0xFF) : kinds? kind = none := by
  rw [kinds?, if_neg some, List.getElem?_eq_none (by exact big)]
  rfl

/-! ## ACLEAR (R159) -/

theorem AlarmUnit.clearLatch_rest (u : AlarmUnit) (a : Alarm) : (u.clearLatch a).queue = u.queue ∧
    (u.clearLatch a).masks = u.masks ∧ (u.Judged ∨ (u.get a).active = false → (u.clearLatch a).Judged) := by
  unfold AlarmUnit.clearLatch
  extract_lets r
  split_ifs with on
  · exact ⟨rfl, rfl, fun h => h.resolve_right (by rw [show (u.get a).active = true from on]; nofun)⟩
  · exact ⟨rfl, rfl, fun _ => rfl⟩

theorem AlarmUnit.foldl_clearLatch (l : List Alarm) (u : AlarmUnit) :
    (∀ a, (l.foldl AlarmUnit.clearLatch u).get a =
        if a ∈ l ∧ (u.get a).active = false then { u.get a with latch := false } else u.get a) ∧
      (l.foldl AlarmUnit.clearLatch u).queue = u.queue ∧ (l.foldl AlarmUnit.clearLatch u).masks = u.masks ∧
      (u.Judged ∨ (∃ a ∈ l, (u.get a).active = false) → (l.foldl AlarmUnit.clearLatch u).Judged) := by
  induction l generalizing u with
  | nil => exact ⟨fun a => by simp, rfl, rfl, fun h => h.resolve_right (by rintro ⟨a, h, -⟩; cases h)⟩
  | cons b l ih =>
    obtain ⟨get, queue, masks, pin⟩ := ih (u.clearLatch b)
    obtain ⟨queue1, masks1, pin1⟩ := u.clearLatch_rest b
    have active (a : Alarm) : ((u.clearLatch b).get a).active = (u.get a).active := by
      rw [AlarmUnit.clearLatch_get]
      split_ifs with h
      · rw [h.1]
      · rfl
    refine ⟨fun a => ?_, queue.trans queue1, masks.trans masks1, ?_⟩
    · rw [List.foldl_cons, get, active, AlarmUnit.clearLatch_get]
      by_cases same : a = b <;> cases off : (u.get a).active <;> simp_all
    · rintro (judged | ⟨a, listed, off⟩)
      · exact pin (.inl (pin1 (.inl judged)))
      · obtain rfl | later := List.mem_cons.1 listed
        · exact pin (.inl (pin1 (.inr off)))
        · exact pin (.inr ⟨a, later, (active a).trans off⟩)

/-- What a selection names, in the order of the instances (R157). -/
theorem selectAlarms_eq {kind number : Byte} (h : isSelection kind number) :
    selectAlarms kind number = some (namedBy kind number) := by
  obtain ⟨all, some⟩ := h
  obtain ⟨a, listed⟩ := List.exists_mem_of_ne_nil _ some
  simp only [namedBy, List.mem_filter, mem_allAlarms, true_and, Bool.and_eq_true, Bool.or_eq_true, beq_iff_eq] at listed
  obtain ⟨ofKind, numbered⟩ := listed
  by_cases every : kind = 0xFF
  · have number_ff := all every
    subst every number_ff
    simp [selectAlarms, namedBy]
  · have code : kind.toNat = a.kind.code := (ofKind.resolve_left every).symm
    have inKind (b : Alarm) : b.kind.code = kind.toNat ↔ b.kind = a.kind := by
      rw [code, ← allKinds_getElem?_iff, allKinds_getElem?_iff.2 rfl, Option.some.injEq, eq_comm]
    rw [selectAlarms_of_code code]
    split_ifs with any
    · rw [Kind.instances_eq_filter, namedBy]
      congr 1
      refine List.filter_congr fun b _ => ?_
      rw [Bool.eq_iff_iff]
      simp only [Bool.and_eq_true, Bool.or_eq_true, beq_iff_eq, decide_eq_true_eq, every, any, false_or, true_or, and_true,
        inKind]
    · have one := numbered.resolve_left any
      rw [Kind.instances_getElem?_iff.2 ⟨rfl, one⟩, Option.map_some, namedBy]
      congr 1
      have only (b : Alarm) : ((kind == 0xFF || b.kind.code == kind.toNat) &&
          (number == 0xFF || b.number == number.toNat)) = (b == a) := by
        rw [Bool.eq_iff_iff]
        simp only [Bool.and_eq_true, Bool.or_eq_true, beq_iff_eq, every, any, false_or, inKind]
        refine ⟨fun ⟨k, i⟩ => ?_, fun same => by rw [same]; exact ⟨rfl, one⟩⟩
        have here := Kind.instances_getElem?_iff.2 ⟨k, i⟩
        rw [Kind.instances_getElem?_iff.2 ⟨rfl, one⟩] at here
        exact (Option.some.inj here).symm
      simp only [only]
      rw [List.filter_beq, List.count_eq_one_of_mem allAlarms_nodup (mem_allAlarms a)]
      rfl

/-- Settles O27: the enables and the notices of the kinds named, and the latches of the instances named. -/
theorem amaskAndAclearActOnTheSelected : Obligations.AmaskAndAclearActOnTheSelected := by
  refine ⟨fun s tag kind notify summary ready names => ?_, fun s tag kind number ready selects => ?_⟩
  · obtain ⟨ks, found, some, mem⟩ := kinds?_eq names
    obtain ⟨masks, get, queue, pin⟩ := AlarmUnit.foldl_mask ks ⟨notify, summary⟩ s.dev.alarms
    generalize hu : ks.foldl (fun v k => v.mask k ⟨notify, summary⟩) s.dev.alarms = u at masks get queue pin
    have run : s.dev.carryOut (.amask kind (boolByte notify) (boolByte summary)) =
        ({ s.dev with alarms := u }, .ok ({ s.dev with alarms := u } : Device).amaskFields) := by
      simp only [Device.carryOut, Device.requestAmask, found, flag?_boolByte, ← hu]
      rfl
    have flags (x : Mask) : boolByte x.notify + 2 * boolByte x.summary =
        (if x.notify then 1 else 0) + (if x.summary then 2 else 0) := by
      obtain ⟨a, b⟩ := x
      cases a <;> cases b <;> rfl
    have bit (b : Bool) : boolByte b = if b then 1 else 0 := by cases b <;> rfl
    have fields : ({ s.dev with alarms := u } : Device).amaskFields = allKinds.map (fun k =>
        (if (u.masks.get k).notify then 1 else 0) + (if (u.masks.get k).summary then 2 else 0)) ++
          [if u.pin then 1 else 0] := by
      rw [Device.amaskFields, bit]
      simp only [flags]
    rw [fields] at run
    refine ⟨u, exec_run_executed (i := .amask tag kind (boolByte notify) (boolByte summary)) rfl rfl ready nofun nofun run,
      fun k => ?_, fun a => ?_, fun q => ?_, ?_, (pin (.inl some)).pin_iff, fun x y z bad => ?_⟩
    · rw [masks]
      exact ⟨fun h => if_pos ((mem k).2 h), fun h => if_neg (mt (mem k).1 h)⟩
    · rw [get]
      exact ⟨fun h off => if_pos ⟨(mem _).2 h, off⟩, fun h => if_neg fun k => h.elim (fun no => no ((mem _).1 k.1))
        fun on => by rw [show notify = false from k.2] at on; cases on⟩
    · rw [queue, List.mem_filter, decide_eq_true_eq, mem]
    · rw [queue]
      exact List.filter_sublist
    · refine exec_run_refused (i := .amask tag x y z) rfl rfl ready nofun ?_
      have none : kinds? x = none ∨ flag? y = none ∨ flag? z = none :=
        bad.imp (fun h => kinds?_none h.1 h.2) (Or.imp flag?_none flag?_none)
      simp only [Device.carryOut, Device.requestAmask]
      split
      · next a b c => rw [a, b, c] at none; simp at none
      · rfl
  · obtain ⟨get, queue, masks, pin⟩ := AlarmUnit.foldl_clearLatch (namedBy kind number) s.dev.alarms
    generalize hu : (namedBy kind number).foldl AlarmUnit.clearLatch s.dev.alarms = u at get queue masks pin
    have run : s.dev.carryOut (.aclear kind number) = ({ s.dev with alarms := u },
        .ok [byteOf (clearedBy s.dev.alarms (namedBy kind number)).length,
          byteOf (keptBy s.dev.alarms (namedBy kind number)).length, boolByte u.pin]) := by
      simp only [Device.carryOut, Device.requestAclear, selectAlarms_eq selects, ← hu]
      rfl
    refine ⟨u, (exec_run_executed (i := .aclear tag kind number) rfl rfl ready nofun nofun run).trans ?_, get, queue,
      masks, fun h => (pin (.inr h)).pin_iff⟩
    have bit : boolByte u.pin = if u.pin then 1 else 0 := by cases u.pin <;> rfl
    simp only [List.filter_filter, clearedBy, keptBy, Bool.and_comm, bit]
    rfl

/-! ## COUNTS and LRESET (R121, R160) -/

theorem AlarmUnit.foldl_zeroCount (l : List Alarm) (u : AlarmUnit) :
    (∀ a, (l.foldl AlarmUnit.zeroCount u).get a = if a ∈ l then { u.get a with count := 0 } else u.get a) ∧
      (l.foldl AlarmUnit.zeroCount u).queue = u.queue ∧ (l.foldl AlarmUnit.zeroCount u).masks = u.masks ∧
      (u.Judged → (l.foldl AlarmUnit.zeroCount u).pin = u.pin) := by
  induction l generalizing u with
  | nil => exact ⟨fun a => rfl, rfl, rfl, fun _ => rfl⟩
  | cons b l ih =>
    obtain ⟨get, queue, masks, pin⟩ := ih (u.zeroCount b)
    have get1 (a : Alarm) : (u.zeroCount b).get a = if a = b then { u.get b with count := 0 } else u.get a := u.put_get b a _
    refine ⟨fun a => ?_, queue, masks, fun judged => (pin rfl).trans ?_⟩
    · rw [List.foldl_cons, get, get1]
      by_cases same : a = b <;> simp [same]
    · refine Eq.trans ?_ judged.symm
      refine pinLevel_congr _ fun a => ?_
      change ((u.zeroCount b).get a).latch = (u.get a).latch
      rw [get1]
      split_ifs with same
      · rw [same]
      · rfl

theorem Device.countsFields_eq (d : Device) : d.countsFields =
    allAlarms.flatMap (fun a => put16 (d.alarms.get a).count) ++
      eight.flatMap (fun p => put16 (d.port p).lane.invalid) ++
      eight.flatMap (fun n => put16 (d.prog n).stage.clips) ++
      put16 (d.checkers.get 0).errors ++ put16 (d.checkers.get 1).errors ++ put16 d.link.errors := by
  have both : two.flatMap (fun c => put16 (d.checkers.get c).errors) =
      put16 (d.checkers.get 0).errors ++ put16 (d.checkers.get 1).errors := by
    simp [two]
  rw [Device.countsFields, both]
  simp only [List.append_assoc]

/-- Settles O28: every counter at 0, and the histogram of an ACTIVE programme cleared. -/
theorem countsAndLresetClear : Obligations.CountsAndLresetClear := by
  refine ⟨fun s tag ready => ?_, fun s tag ready => ⟨fun x big => ?_, fun n => ⟨fun inactive => ?_, fun active => ?_⟩⟩⟩
  · obtain ⟨get, queue, masks, pin⟩ := AlarmUnit.foldl_zeroCount allAlarms s.dev.alarms
    have run : s.dev.carryOut .counts = (s.dev.zeroCounters, .ok s.dev.countsFields) := rfl
    rw [Device.countsFields_eq] at run
    refine ⟨_, exec_run_executed (i := .counts tag) rfl rfl ready nofun nofun run, fun a => ?_, fun p => ?_, fun n => ?_,
      fun i => ?_, rfl, pin, queue, masks, rfl, rfl, rfl, rfl, rfl, rfl⟩
    · exact (get a).trans (if_pos (mem_allAlarms a))
    · fin_cases p <;> rfl
    · fin_cases n <;> rfl
    · fin_cases i <;> rfl
  · exact exec_run_refused (i := .lreset tag x) rfl rfl ready nofun (Device.requestLreset_badValue big)
  · exact exec_run_refused (i := .lreset tag (byteOf n.val)) rfl rfl ready nofun (Device.requestLreset_wrongState inactive)
  · exact exec_run_executed (i := .lreset tag (byteOf n.val)) rfl rfl ready nofun nofun (Device.requestLreset_ok active)

end Sys2Proof.Machine
end

section
/-!
PROOF. STOP and SWITCH (R52, R60 to R65).
-/

namespace Sys2Proof.Machine

variable {d e f : Device} {s : State} {tag : Byte} {n : Ix8}

/-! ## What a grant test leaves alone (R82, R83) -/

/-- Entries have left the pool's queue, needs have been met, and the lines hold more blocks; nothing else of the delay
engine and no alarm has changed. -/
structure Device.Granted (d e : Device) : Prop where
  engine : d.EngineOnly e
  alarms : e.alarms = d.alarms
  delay : ∀ n, (e.prog n).delay = { (d.prog n).delay with lines := (e.prog n).delay.lines }
  queue : ∀ x ∈ e.pool.queue, x ∈ d.pool.queue
  needs : ∀ n, d.pool.needs.get n = none → e.pool.needs.get n = none

theorem Device.Granted.refl (d : Device) : d.Granted d := ⟨.refl d, rfl, fun _ => rfl, fun _ => id, fun _ => id⟩

theorem Device.Granted.trans (h : d.Granted e) (k : e.Granted f) : d.Granted f where
  engine := h.engine.trans k.engine
  alarms := k.alarms.trans h.alarms
  delay n := by rw [k.delay, h.delay]
  queue x there := h.queue x (k.queue x there)
  needs n none := k.needs n (h.needs n none)

theorem Device.grantHead_granted (d : Device) (own : Option Ix8) (x : PoolEntry) : d.Granted (d.grantHead own x) where
  engine := d.grantHead_engine own x
  alarms := rfl
  delay n := by
    have delay (l : Oct Line) : ((d.modDelay x.prog fun y => { y with lines := l }).prog n).delay =
        { (d.prog n).delay with lines := ((d.modDelay x.prog fun y => { y with lines := l }).prog n).delay.lines } := by
      unfold Device.modDelay
      rw [Device.prog_modProg]
      split_ifs with same
      · rw [same]
      · rfl
    exact delay _
  queue y there := List.mem_of_mem_tail there
  needs n none := by
    change (d.pool.needs.set x.prog .none).get n = .none
    rw [Oct.get_set]
    split_ifs
    · rfl
    · exact none

theorem Device.grantLoop_granted (own : Option Ix8) (fuel : Nat) (d : Device) : d.Granted (Device.grantLoop own fuel d) := by
  induction fuel generalizing d with
  | zero => exact .refl d
  | succ fuel ih =>
    unfold Device.grantLoop
    split
    · exact .refl d
    · split
      · exact (d.grantHead_granted own _).trans (ih _)
      · exact .refl d

theorem Device.grantTest_granted (d : Device) (own : Option Ix8) : d.Granted (d.grantTest own) :=
  Device.grantLoop_granted own _ d

/-- A withdrawn programme has no entry and no need figures (R80, R81). -/
theorem Device.withdraw_granted (d : Device) (n : Ix8) :
    d.EngineOnly (d.withdraw n) ∧ (d.withdraw n).alarms = d.alarms ∧
      (∀ k, ((d.withdraw n).prog k).delay = { (d.prog k).delay with lines := ((d.withdraw n).prog k).delay.lines }) ∧
      (d.withdraw n).hasEntry n = false ∧ (d.withdraw n).pool.needs.get n = none := by
  have g := (d.modPool fun q => { q with
    queue := q.queue.filter fun e => e.prog ≠ n, needs := q.needs.set n none }).grantTest_granted none
  refine ⟨(Device.modPool_engine d _).trans g.engine, g.alarms, g.delay, ?_, g.needs n (Oct.get_set_self _ _ _)⟩
  rw [Device.hasEntry, List.any_eq_false]
  intro x there same
  have kept := g.queue x there
  exact absurd (by simpa using same) (of_decide_eq_true (List.mem_filter.1 kept).2)

/-! ## Conditions forced inactive (R161) -/

theorem Device.foldl_force (l : List Alarm) (d : Device) :
    l.foldl Device.force d = d.modAlarms fun u => l.foldl (fun v a => v.force d.time.seconds a) u := by
  induction l generalizing d with
  | nil => rfl
  | cons a l ih => exact ih _

/-- A record after its condition is forced inactive: the count and the latch stay. -/
def AlarmRecord.forcedTo (r t : AlarmRecord) : Prop :=
  t.active = false ∧ t.setTimer = 0 ∧ t.clearTimer = 0 ∧ t.count = r.count ∧ t.latch = r.latch

theorem AlarmUnit.force_forcedTo (u : AlarmUnit) (now : BitVec 32) (a : Alarm) :
    (u.get a).forcedTo ((u.force now a).get a) := by
  rw [AlarmUnit.force_get, if_pos rfl, AlarmUnit.deactivate_get]
  cases on : (u.get a).active with
  | true => simp [AlarmRecord.forcedTo]
  | false => simp [AlarmRecord.forcedTo, on]

theorem AlarmUnit.foldl_force_get (now : BitVec 32) (l : List Alarm) (u : AlarmUnit) (a : Alarm) :
    (a ∈ l → (u.get a).forcedTo ((l.foldl (fun v b => v.force now b) u).get a)) ∧
      (a ∉ l → (l.foldl (fun v b => v.force now b) u).get a = u.get a) := by
  induction l generalizing u with
  | nil => exact ⟨nofun, fun _ => rfl⟩
  | cons b l ih =>
    obtain ⟨later, not⟩ := ih (u.force now b)
    rw [List.foldl_cons, List.mem_cons, not_or]
    have other (differ : a ≠ b) : (u.force now b).get a = u.get a := by rw [AlarmUnit.force_get, if_neg differ]
    refine ⟨fun listed => ?_, fun ⟨differ, unlisted⟩ => (not unlisted).trans (other differ)⟩
    by_cases same : a = b
    · subst same
      have here := u.force_forcedTo now a
      by_cases again : a ∈ l
      · obtain ⟨h1, h2, h3, h4, h5⟩ := later again
        obtain ⟨-, -, -, k4, k5⟩ := here
        exact ⟨h1, h2, h3, h4.trans k4, h5.trans k5⟩
      · rw [not again]
        exact here
    · rw [← other same]
      exact later (listed.resolve_left same)

/-! ## STOP (R52) -/

/-- What a STOP does to the blocks of its programme once the request is withdrawn. -/
def Programme.stopBlocks (x : Programme) : Programme :=
  { x with
    ctx := x.ctx.stop, delay := { x.delay with pending := none }, meter := x.meter.stop
    stage := { x.stage with stopStep := 0 } }

theorem Device.stopBlocks_eq (a : Device) (n : Ix8) :
    (((conditionsOf n).foldl Device.force ((a.modCtx n Context.stop).stopDelay n)).modMeter n Meter.stop).modStage n
        (fun g => { g with stopStep := 0 }) =
      (a.modProg n Programme.stopBlocks).modAlarms fun u =>
        (conditionsOf n).foldl (fun v b => v.force a.time.seconds b) u := by
  rw [Device.foldl_force]
  unfold Device.modStage Device.modMeter Device.stopDelay Device.modDelay Device.modCtx
  have swap (b : Device) (g : AlarmUnit → AlarmUnit) (k : Programme → Programme) :
      (b.modAlarms g).modProg n k = (b.modProg n k).modAlarms g := rfl
  simp only [swap, Device.modProg_modProg]
  rfl

/-- The six effects of a STOP taken in ACTIVE. -/
theorem Device.stopProgramme_eq (d : Device) (n : Ix8) :
    (∃ lines, (d.stopProgramme n).prog n = Programme.stopBlocks { d.prog n with
      record := { (d.prog n).record with state := .stopping }, delay := { (d.prog n).delay with lines := lines } }) ∧
    (d.stopProgramme n).hasEntry n = false ∧ (d.stopProgramme n).pool.needs.get n = none ∧
    (∀ a, (a ∈ conditionsOf n → (d.alarms.get a).forcedTo ((d.stopProgramme n).alarms.get a)) ∧
      (a ∉ conditionsOf n → (d.stopProgramme n).alarms.get a = d.alarms.get a)) ∧
    (∀ k, k ≠ n → ((d.stopProgramme n).prog k).record = (d.prog k).record) ∧
    (d.stopProgramme n).time = d.time ∧ (d.stopProgramme n).ports = d.ports ∧ (d.stopProgramme n).mem = d.mem ∧
    (d.stopProgramme n).map = d.map ∧ (d.stopProgramme n).link = d.link := by
  obtain ⟨engine, alarms, delay, entry, needs⟩ :=
    (d.modRecord n fun r => { r with state := .stopping }).withdraw_granted n
  have whole : d.stopProgramme n = _ := Device.stopBlocks_eq
    ((d.modRecord n fun r => { r with state := .stopping }).withdraw n) n
  generalize (d.modRecord n fun r => { r with state := .stopping }).withdraw n = a at *
  have get (b : Alarm) :
      (b ∈ conditionsOf n → (a.alarms.get b).forcedTo
        (((fun u : AlarmUnit => (conditionsOf n).foldl (fun v b => AlarmUnit.force v a.time.seconds b) u) a.alarms).get b)) ∧
      (b ∉ conditionsOf n →
        ((fun u : AlarmUnit => (conditionsOf n).foldl (fun v b => AlarmUnit.force v a.time.seconds b) u) a.alarms).get b =
          a.alarms.get b) := AlarmUnit.foldl_force_get a.time.seconds (conditionsOf n) a.alarms b
  generalize (fun u : AlarmUnit => (conditionsOf n).foldl (fun v b => AlarmUnit.force v a.time.seconds b) u) = g at *
  have alarms : a.alarms = d.alarms := alarms
  rw [whole]
  refine ⟨⟨(a.prog n).delay.lines, ?_⟩, entry, needs, fun b => ?_, fun k other => ?_, engine.time, engine.ports, engine.mem,
    engine.map, engine.link⟩
  · refine (Device.prog_modProg_self _ _ _).trans (congrArg Programme.stopBlocks ?_)
    rw [engine.prog n, delay n, Device.modRecord, Device.prog_modProg_self]
  · rw [← alarms]
    exact get b
  · refine (congrArg Programme.record ((Device.prog_modProg _ _ _ _).trans (if_neg other.symm))).trans ?_
    rw [engine.record, Device.modRecord, Device.prog_modProg, if_neg other.symm]

/-- Settles O22: the state of the record decides. -/
theorem stopEntersStopping : Obligations.StopEntersStopping := by
  intro s tag n ready
  have answer {e : Device} {l : List Byte} (run : s.dev.carryOut (.stop (byteOf n.val)) = (e, .ok l)) :
      exec (.stop tag (byteOf n.val)) s = .next (s.answered e (okReply 0xA3 tag l)) :=
    exec_run_executed (i := .stop tag (byteOf n.val)) rfl rfl ready nofun nofun run
  refine ⟨fun v big => exec_run_refused (i := .stop tag v) rfl rfl ready nofun ?_, fun free => ?_, fun resting => answer ?_,
    fun active => ?_⟩
  · simp only [Device.carryOut, Device.requestStop, ix8?_none big]
  · refine exec_run_refused (i := .stop tag (byteOf n.val)) rfl rfl ready nofun ?_
    simp only [Device.carryOut, Device.requestStop, ix8?_byteOf, free]
  · obtain resting | resting := resting <;>
      simp only [Device.carryOut, Device.requestStop, ix8?_byteOf, resting, Device.stateFields]
  · have run : s.dev.carryOut (.stop (byteOf n.val)) = (s.dev.stopProgramme n, .ok ((s.dev.stopProgramme n).stateFields n)) := by
      simp only [Device.carryOut, Device.requestStop, ix8?_byteOf, active]
    obtain ⟨⟨lines, prog⟩, entry, needs, alarms, records, rest⟩ := s.dev.stopProgramme_eq n
    generalize s.dev.stopProgramme n = e at *
    have fields : e.stateFields n = [byteOf n.val, 3] := by
      rw [Device.stateFields, prog]
      rfl
    rw [fields] at run
    refine ⟨e, answer run, ?_⟩
    rw [prog]
    exact ⟨rfl, rfl, rfl, rfl, rfl, rfl, rfl, rfl, entry, needs, fun a => (alarms a).1, fun a => (alarms a).2, records, rest⟩

/-! ## SWITCH (R60 to R65) -/

theorem Device.arbitrate_progs (d : Device) : d.arbitrate.progs = d.progs ∧ d.arbitrate.link.queue = d.link.queue := by
  unfold Device.arbitrate
  split
  · exact ⟨rfl, rfl⟩
  · split
    · exact ⟨rfl, rfl⟩
    · split
      · exact ⟨rfl, rfl⟩
      · split <;> exact ⟨rfl, rfl⟩

/-- A finished part with no frame waiting only looks at its line. -/
theorem Device.catchUp_progs (h : d.finished) (queue : d.link.queue = []) : d.catchUp.progs = d.progs := by
  obtain ⟨progs, same⟩ := d.arbitrate_progs
  rw [Device.catchUp, Device.finish_finished h, Device.settleLink, Device.execute_empty (same.trans queue), progs]

/-- The fields of a SWITCH reply for a context (R60). -/
def switchBytes (n : Ix8) (c : Context) : List Byte :=
  [byteOf n.val, selectionCode c.selection, originCode c.selectedBy, ctxCode c.state] ++
    (match c.target with
      | some t => [selectionCode t.1, originCode t.2]
      | none => [absentByte, absentByte]) ++
    [match c.next with
      | some t => selectionCode t
      | none => absentByte]

/-- The state after an answered SWITCH that leaves a context. -/
def State.switched (s : State) (tag : Byte) (n : Ix8) (c : Context) : State :=
  s.answered { s.dev with progs := s.dev.progs.set n { s.dev.prog n with ctx := c } } (okReply 0xA6 tag (switchBytes n c))

theorem selection?_code (t : Selection) : selection? (selectionCode t) = some t := by cases t <;> rfl

theorem selection?_none {b : Byte} (h : 1 < b.toNat) : selection? b = none := by
  unfold selection?
  rw [if_neg (ne_of_toNat_lt (y := 0) (by simp; omega)), if_neg (ne_of_toNat_lt (y := 1) h)]

theorem Record.hasBackup_iff (r : Record) : r.hasBackup = true ↔ ∃ m ∈ r.members, m.backup ≠ none := by
  simp only [Record.hasBackup, List.any_eq_true, Member.watched, Option.isSome_iff_ne_none]

/-- A SWITCH that passes its checks leaves the context that R61 to R63 give. -/
theorem exec_switch (ready : s.dev.readyInRun) (active : (s.dev.prog n).record.state = .active)
    (backup : (s.dev.prog n).record.hasBackup = true) (side : Selection) :
    exec (.switch tag (byteOf n.val) (selectionCode side)) s =
      .next (s.switched tag n ((s.dev.prog n).ctx.switch (s.dev.prog n).record.settings side)) := by
  have run : s.dev.carryOut (.switch (byteOf n.val) (selectionCode side)) =
      (s.dev.modCtx n fun c => c.switch (s.dev.prog n).record.settings side,
        .ok ((s.dev.modCtx n fun c => c.switch (s.dev.prog n).record.settings side).switchFields n)) := by
    simp only [Device.carryOut, Device.requestSwitch, ix8?_byteOf, selection?_code, Device.active_iff.2 active, backup,
      if_true]
  have fields : (s.dev.modCtx n fun c => c.switch (s.dev.prog n).record.settings side).switchFields n =
      switchBytes n ((s.dev.prog n).ctx.switch (s.dev.prog n).record.settings side) := by
    rw [Device.switchFields, Device.prog_modCtx_self]
    rfl
  rw [fields] at run
  exact exec_run_executed (i := .switch tag (byteOf n.val) (selectionCode side)) rfl rfl ready nofun nofun run

/-- A context whose test passed at its entry into PENDING starts its crossfade with the next command that looks
(R65, log 48). -/
theorem crossfadeStart_switched (finished : s.dev.finished) (queue : s.dev.link.queue = [])
    (active : (s.dev.prog n).record.state = .active) {c : Context} (pending : c.state = .pending) (due : c.startDue = true)
    (noReturn : c.returnDue = false) :
    ∃ u, exec (.crossfadeStart n) (s.switched tag n c) = .next u ∧
      u.dev.progs = s.dev.progs.set n
        { s.dev.prog n with ctx := { c with state := .fading, startDue := false, fadeStep := 0, fadeFlag := true } } := by
  have prog (k : Ix8) : (s.switched tag n c).dev.prog k = if n = k then { s.dev.prog n with ctx := c } else s.dev.prog k :=
    Oct.get_set _ _ _ _
  obtain ⟨checkers, alarms, returns, notices⟩ := finished
  have still : (s.switched tag n c).dev.finished := by
    refine ⟨checkers, alarms, fun k => ?_, notices⟩
    rw [prog]
    split_ifs
    · exact noReturn
    · exact returns k
  have progs := Device.catchUp_progs still queue
  refine ⟨_, rfl, ?_⟩
  change ((s.switched tag n c).dev.catchUp.crossfadeStart n).progs = _
  generalize (s.switched tag n c).dev.catchUp = e at progs
  have here : e.prog n = { s.dev.prog n with ctx := c } := by
    rw [Device.prog, progs]
    exact (prog n).trans (if_pos rfl)
  have starts : (e.prog n).crossfadeDue = true := by
    rw [here]
    simp [Programme.crossfadeDue, active, pending, due]
  rw [Device.crossfadeStart, if_pos starts]
  change e.progs.set n { e.prog n with
    ctx := { (e.prog n).ctx with state := .fading, startDue := false, fadeStep := 0, fadeFlag := true } } = _
  rw [here, progs]
  exact Oct.set_set _ _ _ _

/-- Settles O24: the checks, and the context by its state. -/
theorem switchChecksAndActsByTheState : Obligations.SwitchChecksAndActsByTheState := by
  intro s tag ready
  refine ⟨fun programme target bad => exec_run_refused (i := .switch tag programme target) rfl rfl ready nofun ?_,
    fun n side => ?_⟩
  · have none : ix8? programme.toNat = none ∨ selection? target = none := bad.imp ix8?_none selection?_none
    simp only [Device.carryOut, Device.requestSwitch]
    split
    · next a b => rw [a, b] at none; simp at none
    · rfl
  intro x code command host t
  have code_eq : code = selectionCode := by
    funext t
    cases t <;> rfl
  have host_eq : host = originCode := by
    funext o
    cases o <;> rfl
  have t_eq : t = s.switched tag n := by
    funext c
    have bytes : [byteOf n.val, code c.selection, host c.selectedBy,
            match c.state with
            | .idle => 0
            | .pending => 1
            | .fading => 2] ++
          (match c.target with
            | some q => [code q.1, host q.2]
            | none => [0xFF, 0xFF]) ++
          [match c.next with
            | some q => code q
            | none => 0xFF] = switchBytes n c := by
      rw [code_eq, host_eq]
      unfold switchBytes
      cases c.state <;> cases c.target <;> cases c.next <;> rfl
    exact congrArg (fun l => s.answered { s.dev with progs := s.dev.progs.set n { x with ctx := c } } (okReply 0xA6 tag l)) bytes
  have command_eq : command = .switch tag (byteOf n.val) (selectionCode side) := by
    rw [← code_eq]
  clear_value t code host command
  subst t_eq code_eq host_eq command_eq
  have refused {r : Reason} (h : s.dev.carryOut (.switch (byteOf n.val) (selectionCode side)) = (s.dev, .refused r)) :
      exec (.switch tag (byteOf n.val) (selectionCode side)) s = .next (s.answered s.dev (refusedReply 0xA6 tag r)) :=
    exec_run_refused (i := .switch tag (byteOf n.val) (selectionCode side)) rfl rfl ready nofun h
  refine ⟨fun other => refused ?_, fun active none => refused ?_, fun active paired => ?_⟩
  · simp only [Device.carryOut, Device.requestSwitch, ix8?_byteOf, selection?_code, if_neg (mt Device.active_iff.1 other)]
  · have no : ¬ (s.dev.prog n).record.hasBackup = true := by
      rw [Record.hasBackup_iff]
      rintro ⟨m, listed, some⟩
      exact some (none m listed)
    simp only [Device.carryOut, Device.requestSwitch, ix8?_byteOf, selection?_code, if_pos (Device.active_iff.2 active),
      if_neg no]
  · have run := exec_switch (tag := tag) ready active ((Record.hasBackup_iff _).2 paired) side
    have switched : x.ctx.switch x.record.settings side = match x.ctx.state with
      | .idle => if side = x.ctx.selection then x.ctx else x.ctx.pend x.record.settings side .host
      | .pending =>
        if side = x.ctx.selection then { x.ctx with target := none, holdTimer := 0, startDue := false, state := .idle }
        else { x.ctx with target := some (side, .host) }
      | .fading => { x.ctx with next := some side } := rfl
    change exec _ s = .next (s.switched tag n (x.ctx.switch x.record.settings side)) at run
    rw [switched] at run
    refine ⟨fun idle same => ?_, fun idle other => ?_, fun pending same => ?_, fun pending other => ?_, fun fading => ?_⟩
    · simp only [idle, if_pos same] at run
      exact run
    · simp only [idle, if_neg other] at run
      rw [Context.pend_eq] at run
      refine ⟨run, fun passes => ?_⟩
      obtain ⟨⟨-, queue, -, -, -, finished⟩, -⟩ := ready
      refine crossfadeStart_switched finished queue active rfl ?_ (finished.2.2.1 n)
      exact decide_eq_true (passes.imp_right fun h => h.le)
    · simp only [pending, if_pos same] at run
      exact run
    · simp only [pending, if_neg other] at run
      simp only [pending]
      exact run
    · simp only [fading] at run
      simp only [fading]
      exact run

end Sys2Proof.Machine
end

section
/-!
PROOF. IDENT, STATUS and the queries (R18, R56, R88, R108, R157, R158, R175, R188, R191).
-/

namespace Sys2Proof.Machine

variable {d : Device} {s : State} {tag : Byte}

/-! ## Codes, and the lengths of figures -/

theorem boolByte_eq (b : Bool) : boolByte b = if b = true then (1 : Byte) else 0 := by cases b <;> rfl

theorem laneCode_eq (x : LaneState) : laneCode x = codeIn [LaneState.dark, .framing, .framed] x := by cases x <;> rfl

theorem convCode_eq (x : ConvState) :
    convCode x = codeIn [ConvState.off, .seek, .measure, .settle, .locked, .holdover] x := by cases x <;> rfl

theorem progCode_eq (x : ProgState) : progCode x = codeIn [ProgState.free, .standby, .active, .stopping] x := by
  cases x <;> rfl

theorem roleCode_eq (x : Role) : roleCode x = codeIn [Role.front, .surround, .low] x := by cases x <;> rfl

theorem loudCode_eq (x : LoudMode) : loudCode x = codeIn [LoudMode.off, .measure, .correct] x := by cases x <;> rfl

theorem changeCode_eq (x : ChangeMode) : changeCode x = codeIn [ChangeMode.manual, .auto, .autoReturn] x := by
  cases x <;> rfl

theorem changeStateCode_eq (x : ChangeState) :
    changeStateCode x = codeIn [ChangeState.steady, .slewUp, .slewDown, .wait] x := by cases x <;> rfl

theorem fadeCode_eq (x : FadeCtx) : fadeCode x = codeIn [FadeCtx.none, .fadeOut, .gap, .fadeIn] x := by cases x <;> rfl

theorem pendingCode_eq (x : Option PendingRecalc) : pendingCode x = x.elim 0 fun p =>
    1 + codeIn [RecalcMode.deadband, .exact] p.mode + (if p.host = true then 0x80 else 0) := by
  cases x with
  | none => rfl
  | some p =>
    obtain ⟨mode, host⟩ := p
    cases mode <;> cases host <;> rfl

theorem selectionCode_eq (x : Selection) : selectionCode x = codeIn [Selection.primary, .backup] x := by cases x <;> rfl

theorem originCode_eq (x : Origin) : originCode x = codeIn [Origin.host, .auto] x := by cases x <;> rfl

theorem ctxCode_eq (x : CtxState) : ctxCode x = codeIn [CtxState.idle, .pending, .fading] x := by cases x <;> rfl

theorem sourceCode_eq (q : Source) : sourceCode q = sourceByte q := by rw [sourceCode, sourceByte, Nat.mul_comm]

theorem backupCode_eq (q : Option Source) : backupCode q = q.elim 0xFF sourceByte := by
  cases q with
  | none => rfl
  | some q => exact sourceCode_eq q

theorem int32_length (v : Int) : (int32 v).length = 4 := rfl
theorem int16_length (v : Int) : (int16 v).length = 2 := rfl
theorem nat16_length (n : Nat) : (nat16 n).length = 2 := rfl
theorem put16_length (x : BitVec 16) : (put16 x).length = 2 := rfl
theorem put32_length (x : BitVec 32) : (put32 x).length = 4 := rfl

theorem numberOf_ident : identFields = [0x44, 0x32, 0x08, 0x01, 8, 8, 0x10, 0x00] := rfl

/-- One record for each member of a list of 8 or fewer. -/
theorem eight_records {α β : Type} (l : List α) (short : l.length ≤ 8) (f : Ix8 → α → List β) (k : Nat)
    (each : ∀ m a, (f m a).length = k) :
    (eight.flatMap fun m => l[m.val]?.elim [] (f m)).length = k * l.length := by
  have at_place (m : Ix8) : (l[m.val]?.elim [] (f m)).length = if m.val < l.length then k else 0 := by
    split_ifs with h
    · rw [List.getElem?_eq_getElem h]
      exact each _ _
    · rw [List.getElem?_eq_none (by omega)]
      rfl
  rw [List.length_flatMap]
  simp only [at_place]
  interval_cases h : l.length <;> simp [eight] <;> omega

/-- What the listed members give, position by position. -/
theorem Record.listed_flatMap {β : Type} (r : Record) (f : Ix8 → Member → List β) :
    (r.listed.flatMap fun m => f m.1 m.2) = eight.flatMap fun m => r.members[m.val]?.elim [] (f m) := by
  unfold Record.listed
  induction eight with
  | nil => rfl
  | cons m l ih =>
    rw [List.filterMap_cons, List.flatMap_cons, ← ih]
    cases r.members[m.val]? <;> rfl

/-! ## AQUERY (R157, R158) -/

theorem segmentsOf15_flatten {α : Type} (fuel : Nat) (l : List α) (h : l.length ≤ 15 * (fuel + 1)) :
    (segmentsOf15 (fuel + 1) l).flatten = l := by
  induction fuel generalizing l with
  | zero => rw [segmentsOf15, if_pos (by omega), List.flatten_cons, List.flatten_nil, List.append_nil]
  | succ fuel ih =>
    rw [segmentsOf15]
    split_ifs with short
    · simp
    · rw [List.flatten_cons, ih _ (by rw [List.length_drop]; omega), List.take_append_drop]

theorem segmentsOf15_length {α : Type} (fuel : Nat) (l : List α) : ∀ g ∈ segmentsOf15 fuel l, g.length ≤ 15 := by
  induction fuel generalizing l with
  | zero => nofun
  | succ fuel ih =>
    rw [segmentsOf15]
    split_ifs with short
    · rintro g (_ | ⟨_, ⟨⟩⟩)
      exact short
    · intro g listed
      obtain rfl | later := List.mem_cons.1 listed
      · exact List.length_take_le _ _
      · exact ih _ g later

theorem alarmRecordBytes_length (u : AlarmUnit) (a : Alarm) : (alarmRecordBytes u a).length = 16 := rfl

/-- The segments of an AQUERY reply hold the records of what is selected, and each fits a frame. -/
theorem Device.aquerySegments_eq (d : Device) (l : List Alarm) (short : l.length ≤ 75) :
    (d.aquerySegments l).flatten = [boolByte d.alarms.pin, byteOf l.length] ++ l.flatMap (alarmRecordBytes d.alarms) ∧
      ∀ g ∈ d.aquerySegments l, g.length + 5 ≤ 250 := by
  have records (g : List Alarm) : (g.flatMap (alarmRecordBytes d.alarms)).length = 16 * g.length := by
    simp [List.length_flatMap, alarmRecordBytes_length, Nat.mul_comm]
  have flat : ((segmentsOf15 5 l).map fun g => g.flatMap (alarmRecordBytes d.alarms)).flatten =
      l.flatMap (alarmRecordBytes d.alarms) := by
    rw [← List.flatMap_def, ← List.flatMap_assoc, List.flatMap_id', segmentsOf15_flatten 4 l short]
  have fits : ∀ g ∈ (segmentsOf15 5 l).map fun g => g.flatMap (alarmRecordBytes d.alarms), g.length ≤ 240 := by
    intro g listed
    obtain ⟨k, there, rfl⟩ := List.mem_map.1 listed
    have := segmentsOf15_length 5 l k there
    rw [records]
    omega
  unfold Device.aquerySegments
  generalize (segmentsOf15 5 l).map (fun g => g.flatMap (alarmRecordBytes d.alarms)) = segments at flat fits
  cases segments with
  | nil =>
    rw [← flat]
    exact ⟨rfl, by simp⟩
  | cons first rest =>
    rw [← flat]
    refine ⟨by simp, fun g listed => ?_⟩
    obtain rfl | later := List.mem_cons.1 listed
    · have := fits first (by simp)
      simp only [List.length_append, List.length_cons, List.length_nil]
      omega
    · have := fits g (by simp [later])
      omega

/-- What is no selection names nothing (R157). -/
theorem selectAlarms_none {kind number : Byte} (h : ¬ isSelection kind number) : selectAlarms kind number = none := by
  have every : ∀ a : Alarm, a ∈ namedBy 0xFF 0xFF := fun a => by simp [namedBy, mem_allAlarms]
  refine selectAlarms_eq_none (fun a ⟨code, numbered⟩ => h ⟨fun all => ?_, ?_⟩) fun ⟨all, any⟩ => h ⟨fun _ => any, ?_⟩
  · have := a.kind.code_lt
    rw [all] at code
    simp at code
    omega
  · refine List.ne_nil_of_mem (a := a) (List.mem_filter.2 ⟨mem_allAlarms a, ?_⟩)
    simp only [Bool.and_eq_true, Bool.or_eq_true, beq_iff_eq]
    exact ⟨.inr code.symm, numbered.symm.imp id Eq.symm⟩
  · rw [all, any]
    exact List.ne_nil_of_mem (every .refLoss)

/-! ## The queries -/

theorem exec_query {i : Instr} {r : Request} (h : i.request = some (tag, r)) (w : i.wellFormed = true)
    (ready : s.dev.readyInRun) (n : requestType r ≠ .start) (other : requestType r ≠ .restart) {fields l : List Byte}
    (run : s.dev.carryOut r = (s.dev, .ok fields)) (same : fields = l) :
    exec i s = .next (s.answered s.dev (okReply (typeCode (requestType r) + 0x80) tag l)) :=
  exec_run_executed h w ready n other (same ▸ run)

/-- Settles O10: the fields of each reply, in the order of its table. -/
theorem queriesReportAndChangeNothing : Obligations.QueriesReportAndChangeNothing := by
  refine ⟨fun s tag quiet => ⟨?_, ?_⟩, fun s tag ready => ?_⟩
  · have run : s.dev.perform .ident = (s.dev, .ok identFields) := by
      unfold Device.perform
      cases s.dev.link.part <;> rfl
    exact exec_request_executed (i := .ident tag) rfl rfl quiet run nofun
  · have run : s.dev.perform .status = (s.dev, .ok s.dev.statusFields) := by
      unfold Device.perform
      cases s.dev.link.part <;> rfl
    rw [exec_request_executed (i := .status tag) rfl rfl quiet run nofun, Device.statusFields, boolByte_eq]
    rfl
  intro bit port member programme alarm
  have bit_eq : boolByte = bit := funext boolByte_eq
  have port_eq : s.dev.portRecord = port := by
    funext p
    have source : sourceBytes (s.dev.port p).lane.source = match (s.dev.port p).lane.source with
        | .pins => [0, 0xFF]
        | .loop q => [1, byteOf q.val] := by cases (s.dev.port p).lane.source <;> rfl
    simp only [Device.portRecord, laneCode_eq, convCode_eq, source, bit_eq, Quad.toList_eq_map_get, List.flatMap_map]
    rfl
  have member_eq (n : Ix8) : (fun m => (s.dev.prog n).record.members[m.val]?.elim [] (s.dev.memberRecord n m)) = member n := by
    funext m
    simp only [member]
    cases (s.dev.prog n).record.members[m.val]? with
    | none => rfl
    | some z =>
      simp only [Option.elim, Device.memberRecord, roleCode_eq, sourceCode_eq, backupCode_eq, changeStateCode_eq, bit_eq]
  have programme_eq : s.dev.progqFields = programme := by
    funext n
    simp only [Device.progqFields, settingsBytes, Record.listed_flatMap, member_eq, progCode_eq, loudCode_eq, changeCode_eq,
      fadeCode_eq, pendingCode_eq, selectionCode_eq, originCode_eq, ctxCode_eq, bit_eq, programme, List.flatMap_cons,
      List.flatMap_nil, List.append_nil, List.append_assoc, List.cons_append, List.nil_append]
  have alarm_eq : alarmRecordBytes s.dev.alarms = alarm := by
    funext a
    simp only [alarm, ← alarmCodes_eq, alarmRecordBytes, bit_eq, List.append_assoc, List.cons_append, List.nil_append]
  clear_value port programme alarm
  subst port_eq programme_eq alarm_eq
  have named_short (kind number : Byte) : (namedBy kind number).length ≤ 75 := List.length_filter_le _ _
  refine ⟨fun p => ?_, ?_, fun n => ?_, ?_, ?_, fun x big other => ⟨?_, ?_⟩, fun p => ?_, fun n short => ?_, ?_,
    fun kind number selects => ?_, fun kind number none => ⟨?_, ?_⟩, ?_⟩
  · refine exec_query (i := .portq tag (byteOf p.val)) (fields := s.dev.portqFields [p]) rfl rfl ready nofun nofun ?_ ?_
    · simp only [Device.carryOut, Device.requestPortq, if_neg (byteOf_ne_ff8 p), ix8?_byteOf]
    · simp [Device.portqFields, byteOf]
  · exact exec_query (i := .portq tag 0xFF) (fields := s.dev.portqFields eight) rfl rfl ready nofun nofun rfl rfl
  · refine exec_query (i := .progq tag (byteOf n.val)) (fields := s.dev.progqFields n) rfl rfl ready nofun nofun ?_ rfl
    simp only [Device.carryOut, Device.requestProgq, if_neg (byteOf_ne_ff8 n), ix8?_byteOf]
  · exact exec_run_executed (i := .progq tag 0xFF) rfl rfl ready nofun nofun rfl
  · exact exec_query (i := .poolq tag) (fields := s.dev.poolqFields) rfl rfl ready nofun nofun rfl rfl
  · refine exec_run_refused (i := .portq tag x) rfl rfl ready nofun ?_
    simp only [Device.carryOut, Device.requestPortq, if_neg other, ix8?_none big]
  · refine exec_run_refused (i := .progq tag x) rfl rfl ready nofun ?_
    simp only [Device.carryOut, Device.requestProgq, if_neg other, ix8?_none big]
  · have source : (sourceBytes (s.dev.port p).lane.source).length = 2 := by cases (s.dev.port p).lane.source <;> rfl
    simp [Device.portRecord, source, int32_length, nat16_length, put16_length, Quad.toList, int16_length]
  · have records := eight_records _ short (s.dev.memberRecord n) 18 fun m z => by
      simp [Device.memberRecord, int32_length, nat16_length]
    simp only [Device.progqFields, settingsBytes, Record.listed_flatMap, List.length_append, List.length_cons,
      List.length_nil, int32_length, int16_length, records]
    omega
  · exact exec_query (i := .routeq tag) (fields := s.dev.routeqFields) rfl rfl ready nofun nofun rfl s.dev.routeqFields_eq
  · obtain ⟨flat, fits⟩ := s.dev.aquerySegments_eq _ (named_short kind number)
    refine ⟨s.dev.aquerySegments (namedBy kind number), ?_, by rw [flat, boolByte_eq], fits⟩
    refine exec_run_executed (i := .aquery tag kind number) rfl rfl ready nofun nofun
      (a := { status := .ok, segments := s.dev.aquerySegments (namedBy kind number) }) ?_
    simp only [Device.carryOut, Device.requestAquery, selectAlarms_eq selects]
  · exact exec_run_refused (i := .aquery tag kind number) rfl rfl ready nofun
      (Device.carryOut_aquery_badValue (selectAlarms_none none))
  · exact exec_run_refused (i := .aclear tag kind number) rfl rfl ready nofun
      (Device.carryOut_aclear_badValue (selectAlarms_none none))
  intro figures
  have figures_eq : s.dev.checkerRecord = figures := by
    funext i
    have watched : watchedBytes (s.dev.checkers.get i).watched = match (s.dev.checkers.get i).watched with
        | some w => [byteOf w.1.val, byteOf w.2.val]
        | none => [0xFF, 0xFF] := by cases (s.dev.checkers.get i).watched <;> rfl
    simp only [Device.checkerRecord, watched]
    rfl
  clear_value figures
  subst figures_eq
  refine ⟨fun i => ?_, ?_, fun x big other => ?_⟩
  · refine exec_query (i := .tcheckq tag (byteOf i.val)) (fields := s.dev.tcheckqFields [i]) rfl rfl ready nofun nofun ?_ ?_
    · simp only [Device.carryOut, Device.requestTcheckq, if_neg (byteOf_ne_ff2 i), ix2?_byteOf]
    · simp [Device.tcheckqFields, byteOf]
  · refine exec_query (i := .tcheckq tag 0xFF) (fields := s.dev.tcheckqFields two) rfl rfl ready nofun nofun rfl ?_
    simp [Device.tcheckqFields, byteOf, two]
  · refine exec_run_refused (i := .tcheckq tag x) rfl rfl ready nofun ?_
    simp only [Device.carryOut, Device.requestTcheckq, if_neg other, ix2?_none big]

end Sys2Proof.Machine
end

section
/-!
PROOF. Events of one converter, of one changeover context, of the stop fade, and of the alarm unit's timers and the
checkers (R27 to R37, R54, R65, R70, R146, R170, R171).
-/

namespace Sys2Proof.Machine

variable {d e : Device} {s : State} {n p : Ix8}

/-! ## Converters (R27 to R37) -/

theorem Device.modPort_eq (d : Device) (p : Ix8) (f : Port → Port) :
    d.modPort p f = { d with ports := d.ports.set p (f (d.port p)) } := rfl

theorem Device.modConv_eq (d : Device) (p : Ix8) (f : Converter → Converter) :
    d.modConv p f = { d with ports := d.ports.set p { d.port p with conv := f (d.port p).conv } } := rfl

theorem Device.modPort_modPort (d : Device) (p : Ix8) (f g : Port → Port) :
    (d.modPort p f).modPort p g = d.modPort p fun x => g (f x) := by
  unfold Device.modPort Oct.modify
  dsimp only
  rw [Oct.set_set, Oct.get_set_self]

/-- A new latency reaches the delay engine and the alarms alone (R34). -/
theorem Device.sendLatency_frame (d : Device) (p : Ix8) (fill : Nat) :
    (d.modConv p fun c => { c with lc := latencyFor fill c.sEst }).EngineOnly (d.sendLatency p fill) :=
  Device.latencyUpdate_engine _ p

theorem latencyFor_32 (sEst : Int) : latencyFor 32 sEst = ((2 * (40 * 16777216) + sEst) / (2 * sEst)).toNat := rfl

/-- A converter that starts again from a full FIFO sends its latency (R32, R34, R37). -/
theorem Device.refilled (d : Device) (p : Ix8) (f : Converter → Converter) (sEst : Int)
    (same : (f (d.port p).conv).sEst = sEst) :
    ((d.modConv p f).sendLatency p 32).ports = d.ports.set p { d.port p with
      conv := { f (d.port p).conv with lc := ((2 * (40 * 16777216) + sEst) / (2 * sEst)).toNat } } ∧
    ((d.modConv p f).sendLatency p 32).time = d.time ∧ ((d.modConv p f).sendLatency p 32).mem = d.mem ∧
    ((d.modConv p f).sendLatency p 32).map = d.map ∧ ((d.modConv p f).sendLatency p 32).link = d.link := by
  have engine := (d.modConv p f).sendLatency_frame p 32
  refine ⟨engine.ports.trans ?_, engine.time, engine.mem, engine.map, engine.link⟩
  rw [Device.modConv, Device.modConv, Device.modPort_modPort, Device.modPort_eq, ← latencyFor_32, ← same]

/-- Settles O46: each event by the condition that makes it due. -/
theorem converterEventsRunOut : Obligations.ConverterEventsRunOut := by
  intro s p calm
  refine ⟨fun settle count => ?_, fun k closing fade full => ?_, fun holdover fade => ?_, fun holdover timer lane => ?_,
    fun full wait => ?_, fun full holdover fade framed => ?_⟩
  · refine (show exec (.lockCountExpiry p) s = .next { s with dev := s.dev.lockCountExpiry p } from
      State.prompt_calm calm fun d => d.lockCountExpiry p).trans ?_
    rw [Device.lockCountExpiry, Device.modConv_eq, Converter.lockExpiry, if_pos ⟨settle, count⟩]
  · refine (show exec (.converterFadeInEnd p) s = .next { s with dev := s.dev.converterFadeInEnd p } from
      State.prompt_calm calm fun d => d.converterFadeInEnd p).trans ?_
    rw [Device.converterFadeInEnd, Device.modConv_eq, Converter.fadeInEnd]
    simp only [fade, if_pos full]
  · refine (show exec (.holdoverFadeOutEnd p) s = .next { s with dev := s.dev.holdoverFadeOutEnd p } from
      State.prompt_calm calm fun d => d.holdoverFadeOutEnd p).trans ?_
    rw [Device.holdoverFadeOutEnd, Device.modConv_eq, Converter.holdoverFadeOutEnd, if_pos ⟨holdover, fade⟩]
    rfl
  · refine (show exec (.holdoverTimerExpiry p) s = .next { s with dev := s.dev.holdoverTimerExpiry p } from
      State.prompt_calm calm fun d => d.holdoverTimerExpiry p).trans ?_
    rw [Device.holdoverTimerExpiry, Device.modPort_eq, Port.holdoverTimerExpiry, if_pos ⟨holdover, timer, lane⟩]
    rfl
  · refine ⟨s.dev.underrunWaitEnd p, State.prompt_calm calm fun d => d.underrunWaitEnd p, ?_⟩
    rw [Device.underrunWaitEnd, if_pos ⟨wait, full⟩]
    exact s.dev.refilled p _ _ rfl
  · refine ⟨s.dev.holdoverRefillEnd p, State.prompt_calm calm fun d => d.holdoverRefillEnd p, ?_⟩
    rw [Device.holdoverRefillEnd, if_pos ⟨holdover, fade, full, framed⟩]
    exact s.dev.refilled p _ _ rfl

/-! ## Changeover contexts (R65, R70) -/

theorem Device.modCtx_eq (d : Device) (n : Ix8) (f : Context → Context) :
    d.modCtx n f = { d with progs := d.progs.set n { d.prog n with ctx := f (d.prog n).ctx } } := rfl

theorem Programme.crossfadeDue_iff (x : Programme) : x.crossfadeDue = true ↔
    x.record.state = .active ∧ x.ctx.state = .pending ∧ x.ctx.startDue = true := by
  simp only [Programme.crossfadeDue, Bool.and_eq_true, beq_iff_eq, and_assoc]

/-- Settles O47: a crossfade by the test that passed, a return by its mark. -/
theorem crossfadeStartAndReturn : Obligations.CrossfadeStartAndReturn := by
  intro s n
  refine ⟨fun calm due => ?_, fun calm waits => ?_, fun active mark idle => ?_, fun mark other => ?_, fun none => ?_⟩
  · refine (show exec (.crossfadeStart n) s = .next { s with dev := s.dev.crossfadeStart n } from
      State.prompt_calm calm fun d => d.crossfadeStart n).trans ?_
    rw [Device.crossfadeStart, if_pos ((Programme.crossfadeDue_iff _).2 due)]
    rfl
  · refine (show exec (.crossfadeStart n) s = .next { s with dev := s.dev.crossfadeStart n } from
      State.prompt_calm calm fun d => d.crossfadeStart n).trans ?_
    rw [Device.crossfadeStart, if_neg (mt (Programme.crossfadeDue_iff _).1 waits)]
  · have run : s.dev.returnExpiry n = (s.dev.modCtx n fun c =>
        { c.pend (s.dev.prog n).record.settings .primary .auto with returnTimer := 0, returnDue := false }).reviseReports := by
      rw [Device.returnExpiry, if_pos mark, if_pos ⟨active, idle⟩]
    change (.next { s with dev := s.dev.returnExpiry n } : Host.Outcome State Fault Refusal) = _
    rw [run, Device.modCtx_eq, Context.pend_eq]
    rfl
  · change (.next { s with dev := s.dev.returnExpiry n } : Host.Outcome State Fault Refusal) = _
    rw [Device.returnExpiry, if_pos mark, if_neg other]
    rfl
  · change (.next { s with dev := s.dev.returnExpiry n } : Host.Outcome State Fault Refusal) = _
    rw [Device.returnExpiry, if_neg (by rw [none]; nofun)]

/-! ## The stop fade (R54) -/

/-- A grant test leaves a programme with no entry as it is (R82). -/
theorem Device.grantLoop_other (own : Option Ix8) (fuel : Nat) (d : Device) (none : d.hasEntry n = false) :
    (Device.grantLoop own fuel d).prog n = d.prog n := by
  induction fuel generalizing d with
  | zero => rfl
  | succ fuel ih =>
    unfold Device.grantLoop
    split
    · rfl
    · next x rest queue =>
      split
      · have other : x.prog ≠ n := fun same => by
          simp [Device.hasEntry, queue, same] at none
        have still : (d.grantHead own x).hasEntry n = false := by
          rw [Device.hasEntry, List.any_eq_false] at none ⊢
          exact fun y there => none y (List.mem_of_mem_tail there)
        rw [ih _ still]
        exact (Device.prog_modProg _ _ _ _).trans (if_neg other)
      · rfl

theorem Device.handBack_granted (d : Device) (blocks : List Nat) : d.EngineOnly (d.handBack blocks) ∧
    (d.handBack blocks).alarms = d.alarms ∧ (d.hasEntry n = false → (d.handBack blocks).prog n = d.prog n) ∧
    (d.pool.queue = [] → (d.handBack blocks).pool = { d.pool with free := d.pool.free ++ blocks }) := by
  unfold Device.handBack
  split_ifs with empty
  · exact ⟨.refl d, rfl, fun _ => rfl, fun _ => by rw [empty, List.append_nil]⟩
  · have g := (d.modPool fun q => { q with free := q.free ++ blocks }).grantTest_granted none
    refine ⟨(Device.modPool_engine d _).trans g.engine, g.alarms, fun entry => Device.grantLoop_other _ _ _ entry, fun queue => ?_⟩
    rw [Device.grantTest]
    change (Device.grantLoop none d.pool.queue.length _).pool = _
    rw [queue]
    rfl

/-- Settles O52: before the end nothing, at the end the hand-back and the record in STANDBY. -/
theorem stopFadeEndTearsDown : Obligations.StopFadeEndTearsDown := by
  intro s n calm
  refine ⟨fun early => ?_, fun stopping full entry => ?_⟩
  · refine (show exec (.stopFadeEnd n) s = .next { s with dev := s.dev.stopFadeEnd n } from
      State.prompt_calm calm fun d => d.stopFadeEnd n).trans ?_
    rw [Device.stopFadeEnd, if_neg]
    rintro ⟨stopping, full⟩
    exact early.elim (fun h => h (beq_iff_eq.1 stopping)) fun h => by omega
  · refine ⟨s.dev.stopFadeEnd n, State.prompt_calm calm fun d => d.stopFadeEnd n, ?_⟩
    rw [Device.stopFadeEnd, if_pos ⟨beq_iff_eq.2 stopping, full⟩, Device.clearDelay]
    obtain ⟨engine, alarms, own, pool⟩ :=
      (s.dev.modDelay n fun _ => Delay.reset).handBack_granted (n := n) (s.dev.allBlocks n)
    have own := own entry
    generalize (s.dev.modDelay n fun _ => Delay.reset).handBack (s.dev.allBlocks n) = e at *
    refine ⟨?_, fun empty => pool empty, fun k other => ?_, engine.time, engine.ports, engine.mem, engine.map, alarms,
      engine.link⟩
    · rw [Device.prog_modProg_self, own, Device.prog_modDelay_self]
      rfl
    · rw [Device.prog_modProg, if_neg other.symm, engine.record, Device.modDelay, Device.prog_modProg, if_neg other.symm]

/-! ## Notices of a change (R153) -/

theorem AlarmUnit.notify_queue (u : AlarmUnit) (a : Alarm) : (u.notify a).queue = u.queued a (u.get a) := by
  unfold AlarmUnit.notify AlarmUnit.queued
  extract_lets r
  split_ifs <;> rfl

/-- A record replaced and notified queues the notice of what it holds, its flag and its kind's enables as before. -/
theorem AlarmUnit.put_notify_queue (u : AlarmUnit) (a : Alarm) (t : AlarmRecord) (flag : t.noticed = (u.get a).noticed) :
    ((u.put a t).notify a).queue = u.queued a (((u.put a t).notify a).get a) := by
  rw [AlarmUnit.notify_queue, AlarmUnit.notify_get, if_pos rfl]
  have get : (u.put a t).get a = t := by rw [AlarmUnit.put_get, if_pos rfl]
  unfold AlarmUnit.queued
  rw [get, flag]
  rfl

/-- A condition becomes active (R146). -/
theorem AlarmUnit.activate_eq (u : AlarmUnit) (now : BitVec 32) (a : Alarm) (off : (u.get a).active = false) :
    (u.activate now a).get a =
        { active := true, latch := true, count := addSat (u.get a).count 1, setTimer := 0, clearTimer := 0, time := now,
          noticed := (u.get a).noticed || (u.masks.get a.kind).notify, expiry := .none } ∧
      (u.activate now a).queue = u.queued a ((u.activate now a).get a) ∧
      ∀ b, b ≠ a → (u.activate now a).get b = u.get b := by
  refine ⟨by rw [AlarmUnit.activate_get, if_pos ⟨rfl, off⟩], ?_, fun b other => by
    rw [AlarmUnit.activate_get, if_neg fun h => other h.1]⟩
  have eq : u.activate now a = (u.put a { u.get a with
      active := true, latch := true, count := addSat (u.get a).count 1, time := now, setTimer := 0, clearTimer := 0
      expiry := .none }).notify a := if_neg (by rw [off]; nofun)
  rw [eq]
  exact u.put_notify_queue a _ rfl

/-- A condition becomes inactive (R146). -/
theorem AlarmUnit.deactivate_eq (u : AlarmUnit) (now : BitVec 32) (a : Alarm) (on : (u.get a).active = true) :
    (u.deactivate now a).get a = { u.get a with
        active := false, setTimer := 0, clearTimer := 0, time := now, expiry := .none
        noticed := (u.get a).noticed || (u.masks.get a.kind).notify } ∧
      (u.deactivate now a).queue = u.queued a ((u.deactivate now a).get a) ∧
      ∀ b, b ≠ a → (u.deactivate now a).get b = u.get b := by
  refine ⟨by rw [AlarmUnit.deactivate_get, if_pos ⟨rfl, on⟩], ?_, fun b other => by
    rw [AlarmUnit.deactivate_get, if_neg fun h => other h.1]⟩
  have eq : u.deactivate now a = (u.put a { u.get a with
      active := false, time := now, setTimer := 0, clearTimer := 0, expiry := .none }).notify a := if_pos on
  rw [eq]
  exact u.put_notify_queue a _ rfl

/-! ## Checkers and timers (R69, R146, R148, R170, R171) -/

/-- Contexts alone have changed. -/
structure Device.CtxOnly (d e : Device) : Prop where
  frame : e = { d with progs := e.progs }
  prog : ∀ n, e.prog n = { d.prog n with ctx := (e.prog n).ctx }

theorem Device.CtxOnly.refl (d : Device) : d.CtxOnly d := ⟨rfl, fun _ => rfl⟩

theorem Device.CtxOnly.trans {f : Device} (h : d.CtxOnly e) (k : e.CtxOnly f) : d.CtxOnly f where
  frame := by rw [k.frame, h.frame]
  prog n := by rw [k.prog, h.prog]

theorem Device.modCtx_ctxOnly (d : Device) (n : Ix8) (f : Context → Context) : d.CtxOnly (d.modCtx n f) where
  frame := rfl
  prog k := by
    unfold Device.modCtx
    rw [Device.prog_modProg]
    split_ifs with same
    · rw [same]
    · rfl

theorem Device.CtxOnly.forEight {g : Device → Ix8 → Device} (h : ∀ n, ∀ d : Device, d.CtxOnly (g d n)) (d : Device) :
    d.CtxOnly (forEight d g) := by
  unfold Machine.forEight
  induction eight generalizing d with
  | nil => exact .refl d
  | cons n l ih => exact (h n d).trans (ih _)

theorem Device.autoTest_ctxOnly (d : Device) (n : Ix8) : d.CtxOnly (d.autoTest n) := by
  unfold Device.autoTest
  extract_lets x
  split_ifs
  · exact d.modCtx_ctxOnly n _
  · exact .refl d

theorem Device.activationTests_ctxOnly (d : Device) (k : Qualified) (i : Ix8) : d.CtxOnly (d.activationTests k i) := by
  cases k with
  | unlock =>
    refine .forEight (fun n e => ?_) d
    split_ifs
    · exact e.autoTest_ctxOnly n
    · exact .refl e
  | silence => exact d.autoTest_ctxOnly i
  | loudHigh => exact .refl d
  | loudLow => exact .refl d

/-- Settles O54: the checkers by their runs and windows, the timers by their marks. -/
theorem checkersAndTimersChangeConditions : Obligations.CheckersAndTimersChangeConditions := by
  refine ⟨fun s i => ⟨fun hunt run => ?_, fun no => ?_, fun sync errors => ?_, fun no => ?_⟩, fun s k i =>
    ⟨fun set off => ?_, fun clear on => ?_⟩⟩
  · refine ⟨s.dev.alarms.deactivate s.dev.time.seconds (.checkLoss i), ?_, fun on => ?_, fun off => ?_⟩
    · change (.next { s with dev := s.dev.checkerSync i } : Host.Outcome State Fault Refusal) = _
      rw [Device.checkerSync, if_pos ⟨hunt, run⟩]
      rfl
    · obtain ⟨get, queue, others⟩ := s.dev.alarms.deactivate_eq s.dev.time.seconds _ on
      rw [get] at queue
      exact ⟨get, queue, AlarmUnit.deactivate_masks _ _ _, others⟩
    · exact if_neg off
  · change (.next { s with dev := s.dev.checkerSync i } : Host.Outcome State Fault Refusal) = _
    rw [Device.checkerSync, if_neg no]
  · refine ⟨s.dev.alarms.activate s.dev.time.seconds (.checkLoss i), ?_, fun off => ?_, fun on => ?_⟩
    · change (.next { s with dev := s.dev.checkerLoss i } : Host.Outcome State Fault Refusal) = _
      rw [Device.checkerLoss, if_pos ⟨sync, errors⟩]
      rfl
    · obtain ⟨get, queue, others⟩ := s.dev.alarms.activate_eq s.dev.time.seconds _ off
      rw [get] at queue
      exact ⟨get, queue, AlarmUnit.activate_masks _ _ _, others⟩
    · exact if_pos (eq_true_of_ne_false on)
  · change (.next { s with dev := s.dev.checkerLoss i } : Host.Outcome State Fault Refusal) = _
    have still : s.dev.checkerLoss i = s.dev := if_neg no
    rw [still]
  · have run : s.dev.setTimerExpiry k i = ((s.dev.activate (qualifiedAlarm k i)).activationTests k i).reviseReports :=
      if_pos ⟨set, off⟩
    obtain ⟨get, queue, others⟩ := s.dev.alarms.activate_eq s.dev.time.seconds _ off
    have ctx := (s.dev.activate (qualifiedAlarm k i)).activationTests_ctxOnly k i
    have loud : k = .loudHigh ∨ k = .loudLow → ((s.dev.activate (qualifiedAlarm k i)).activationTests k i) =
        s.dev.activate (qualifiedAlarm k i) := by
      rintro (rfl | rfl) <;> rfl
    generalize (s.dev.activate (qualifiedAlarm k i)).activationTests k i = e at run ctx loud
    have frame := ctx.frame
    have alarms : e.alarms = s.dev.alarms.activate s.dev.time.seconds (qualifiedAlarm k i) := by rw [frame]; rfl
    have time : e.time = s.dev.time := by rw [frame]; rfl
    have link : e.link = s.dev.link := by rw [frame]; rfl
    refine ⟨e.reviseReports, congrArg (fun e => (.next { s with dev := e } : Host.Outcome State Fault Refusal)) run, ?_, ?_, fun b other => ?_,
      fun n => ⟨(e.prog n).ctx, ctx.prog n, fun h => ?_⟩, time, ?_, ?_, ?_, ?_, ?_, ?_, fun n => ?_⟩
    · change e.alarms.get _ = _
      rw [alarms]
      exact get
    · change e.alarms.queue = _
      rw [show e.reviseReports.alarms = e.alarms from rfl, alarms]
      exact queue
    · change e.alarms.get b = _
      rw [alarms]
      exact others b other
    · rw [loud h]
      rfl
    · rw [show e.reviseReports.ports = e.ports from rfl, frame]
      rfl
    · rw [show e.reviseReports.pool = e.pool from rfl, frame]
      rfl
    · rw [show e.reviseReports.mem = e.mem from rfl, frame]
      rfl
    · rw [show e.reviseReports.map = e.map from rfl, frame]
      rfl
    · rw [show e.reviseReports.checkers = e.checkers from rfl, frame]
      rfl
    · rw [← link]
      rfl
    · rw [← link, ← time]
      exact Oct.get_ofFn _ _
  · obtain ⟨get, queue, others⟩ := s.dev.alarms.deactivate_eq s.dev.time.seconds _ on
    refine ⟨s.dev.alarms.deactivate s.dev.time.seconds (qualifiedAlarm k i), ?_, get, queue, others⟩
    change (.next { s with dev := s.dev.clearTimerExpiry k i } : Host.Outcome State Fault Refusal) = _
    rw [Device.clearTimerExpiry, if_pos ⟨clear, on⟩]
    rfl

end Sys2Proof.Machine
end

section
/-!
SUPPORT. The delay engine and the pool manager report DELAY_SHORT and no other condition (R105).
-/

namespace Sys2Proof.Machine

/-- No alarm record but those of DELAY_SHORT differs, nor any enable. -/
structure Device.ShortOnly (d e : Device) : Prop where
  get : ∀ a, (∀ n, a ≠ .delayShort n) → e.alarms.get a = d.alarms.get a
  masks : e.alarms.masks = d.alarms.masks

namespace Device.ShortOnly

variable {d e f : Device}

theorem same (h : e.alarms = d.alarms) : d.ShortOnly e := ⟨fun a _ => by rw [h], by rw [h]⟩

theorem refl (d : Device) : d.ShortOnly d := same rfl

theorem trans (h : d.ShortOnly e) (k : e.ShortOnly f) : d.ShortOnly f :=
  ⟨fun a other => (k.get a other).trans (h.get a other), k.masks.trans h.masks⟩

theorem foldl {α : Type} {g : Device → α → Device} (l : List α) (h : ∀ a, ∀ d : Device, d.ShortOnly (g d a))
    (d : Device) : d.ShortOnly (l.foldl g d) := by
  induction l generalizing d with
  | nil => exact refl d
  | cons a l ih => exact (h a d).trans (ih _)

end Device.ShortOnly

open Device.ShortOnly

namespace Device

theorem modPool_short (d : Device) (g : Pool → Pool) : d.ShortOnly (d.modPool g) := same rfl

theorem modDelay_short (d : Device) (n : Ix8) (g : Delay → Delay) : d.ShortOnly (d.modDelay n g) := same rfl

theorem modLine_short (d : Device) (n m : Ix8) (g : Line → Line) : d.ShortOnly (d.modLine n m g) := same rfl

theorem modConv_short (d : Device) (p : Ix8) (g : Converter → Converter) : d.ShortOnly (d.modConv p g) := same rfl

theorem grantTest_short (d : Device) (own : Option Ix8) : d.ShortOnly (d.grantTest own) :=
  same (d.grantTest_granted own).alarms

theorem withdraw_short (d : Device) (n : Ix8) : d.ShortOnly (d.withdraw n) := same (d.withdraw_granted n).2.1

theorem handBack_short (d : Device) (blocks : List Nat) : d.ShortOnly (d.handBack blocks) :=
  same (d.handBack_granted (n := 0) blocks).2.1

theorem requestBlocks_short (d : Device) (n : Ix8) (needs : List Nat) : d.ShortOnly (d.requestBlocks n needs).1 := by
  unfold requestBlocks
  split
  · exact (d.modPool_short _).trans (grantTest_short _ _)
  · exact d.withdraw_short n

theorem mapLines_short (d : Device) (n : Ix8) (g : Line → Line) : d.ShortOnly (d.mapLines n g) :=
  foldl (g := fun e m => e.modLine n m g) _ (fun m e => e.modLine_short n m g) d

theorem requireWhere_short (d : Device) (n : Ix8) (test : Member → Bool) : d.ShortOnly (d.requireWhere n test) := by
  refine foldl _ (fun x e => ?_) d
  split
  · exact e.modLine_short n _ _
  · exact refl e

theorem settleBlocks_short (d : Device) (n : Ix8) (target : Line → Nat) : d.ShortOnly (d.settleBlocks n target) := by
  unfold settleBlocks
  extract_lets short r
  split
  · exact (d.requestBlocks_short n _).trans (mapLines_short _ _ _)
  · exact d.mapLines_short n _

theorem returnExcess_short (d : Device) (n : Ix8) : d.ShortOnly (d.returnExcess n) :=
  foldl _ (fun m e => (e.modLine_short n m _).trans (handBack_short _ _)) d

theorem gapMember_short (d : Device) (n m : Ix8) : d.ShortOnly (d.gapMember n m) := by
  unfold gapMember
  extract_lets l r
  split
  · exact (d.modLine_short n m _).trans (handBack_short _ _)
  · exact d.modLine_short n m _

theorem startFade_short (d : Device) (n : Ix8) : d.ShortOnly (d.startFade n) := (d.mapLines_short n _).trans (modDelay_short _ n _)

theorem enterGap_short (d : Device) (n : Ix8) : d.ShortOnly (d.enterGap n) := by
  have h := foldl (g := fun e m => e.gapMember n m) (d.prog n).record.positions (fun m e => e.gapMember_short n m) d
  unfold enterGap
  extract_lets e g f
  have k : d.ShortOnly f := (h.trans (mapLines_short _ n _)).trans (modDelay_short _ n _)
  split
  · exact k.trans (modDelay_short _ n _)
  · exact k

theorem activate_short (d : Device) (n : Ix8) : d.ShortOnly (d.activate (.delayShort n)) where
  get a other := by
    change (d.alarms.activate _ _).get a = _
    rw [AlarmUnit.activate_get, if_neg fun h => other n h.1]
  masks := AlarmUnit.activate_masks _ _ _

theorem deactivate_short (d : Device) (n : Ix8) : d.ShortOnly (d.deactivate (.delayShort n)) where
  get a other := by
    change (d.alarms.deactivate _ _).get a = _
    rw [AlarmUnit.deactivate_get, if_neg fun h => other n h.1]
  masks := AlarmUnit.deactivate_masks _ _ _

theorem judgeShort_short (d : Device) (n : Ix8) : d.ShortOnly (d.judgeShort n) := by
  unfold judgeShort
  split
  · exact refl d
  · exact d.deactivate_short n

theorem reportShort_short (d : Device) (n : Ix8) : d.ShortOnly (d.reportShort n) := by
  unfold reportShort
  split
  · exact d.activate_short n
  · exact refl d

theorem startChange_short (d : Device) (n : Ix8) (host : Bool) : d.ShortOnly (d.startChange n host) := by
  unfold startChange
  extract_lets x target differs far moved e
  have h : d.ShortOnly e := d.modDelay_short n _
  split
  · split
    · exact h.trans (startFade_short _ n)
    · exact h.trans (mapLines_short _ n _)
  · exact h.trans (judgeShort_short _ n)

theorem recalculate_short (d : Device) (n : Ix8) (mode : RecalcMode) (host : Bool) : d.ShortOnly (d.recalculate n mode host) :=
  ((d.requireWhere_short n _).trans (returnExcess_short _ n)).trans
    (((settleBlocks_short _ n _).trans (reportShort_short _ n)).trans (startChange_short _ n host))

theorem initialFill_short (d : Device) (n : Ix8) : d.ShortOnly (d.initialFill n) :=
  ((d.requireWhere_short n _).trans (modDelay_short _ n _)).trans
    (((settleBlocks_short _ n _).trans (reportShort_short _ n)).trans (enterGap_short _ n))

theorem fold_short (d : Device) (n : Ix8) (mode : RecalcMode) (host : Bool) : d.ShortOnly (d.fold n mode host) := by
  unfold fold
  extract_lets p e r
  have h : d.ShortOnly e := ((d.requireWhere_short n _).trans (modDelay_short _ n _)).trans (returnExcess_short _ n)
  split
  · split
    · exact (h.trans (requestBlocks_short _ n _)).trans (modDelay_short _ n _)
    · exact h.trans (requestBlocks_short _ n _)
  · exact h

theorem trigger_short (d : Device) (n : Ix8) (mode : RecalcMode) (host : Bool) : d.ShortOnly (d.trigger n mode host) := by
  unfold trigger
  split
  · split
    · exact d.fold_short n mode host
    · exact d.recalculate_short n mode host
  · exact refl d

theorem targetTrigger_short (d : Device) (n : Ix8) : d.ShortOnly (d.targetTrigger n) := by
  unfold targetTrigger
  split
  · split
    · exact d.fold_short n _ _
    · split
      · exact refl d
      · exact d.recalculate_short n _ _
  · exact refl d

theorem latencyProgramme_short (d : Device) (p n : Ix8) : d.ShortOnly (d.latencyProgramme p n) := by
  unfold latencyProgramme
  extract_lets x on e
  split
  · split
    · exact (d.requireWhere_short n _).trans (fold_short _ n _ _)
    · split
      · exact (d.requireWhere_short n _).trans (recalculate_short _ n _ _)
      · exact (d.requireWhere_short n _).trans (returnExcess_short _ n)
  · exact refl d

theorem takeNotice_short (d : Device) : d.ShortOnly d.takeNotice := by
  unfold takeNotice
  split
  · exact refl d
  · exact (d.modPool_short _).trans (trigger_short _ _ _ _)

theorem told_short (d : Device) : d.ShortOnly d.told := by
  unfold told
  generalize 64 = fuel
  induction fuel generalizing d with
  | zero => exact refl d
  | succ fuel ih =>
    unfold takeNotices
    split
    · exact refl d
    · exact d.takeNotice_short.trans (ih _)

theorem latencyUpdate_short (d : Device) (p : Ix8) : d.ShortOnly (d.latencyUpdate p) :=
  foldl _ (fun n e => (e.latencyProgramme_short p n).trans (told_short _)) d

theorem sendLatency_short (d : Device) (p : Ix8) (fill : Nat) : d.ShortOnly (d.sendLatency p fill) :=
  (d.modConv_short p _).trans (latencyUpdate_short _ p)

theorem changeEnded_short (d : Device) (n : Ix8) : d.ShortOnly (d.changeEnded n) := by
  unfold changeEnded
  split
  · split
    · exact (d.modDelay_short n _).trans (recalculate_short _ n _ _)
    · exact d.judgeShort_short n
  · exact refl d

end Device

end Sys2Proof.Machine
end

section
/-!
PROOF. Frames at the pins of a port, the time limit of a dark lane, and what each does to the converter (R9 to R11,
R21 to R23, R31, R33, R35, R37).
-/

namespace Sys2Proof.Machine

variable {d e : Device} {s : State} {p : Ix8} {y : Port}

/-! ## One port written -/

/-- The part with one port as given. -/
abbrev Device.putPort (d : Device) (p : Ix8) (y : Port) : Device := { d with ports := d.ports.set p y }

theorem Device.putPort_port (d : Device) (p : Ix8) (y : Port) : (d.putPort p y).port p = y := Oct.get_set_self _ _ _

theorem Device.putPort_self (d : Device) (p : Ix8) : d.putPort p (d.port p) = d := by
  have ports : d.ports.set p (d.port p) = d.ports := Oct.set_get _ _
  rw [Device.putPort, ports]

theorem Device.putPort_putPort (d : Device) (p : Ix8) (y z : Port) : (d.putPort p y).putPort p z = d.putPort p z := by
  unfold Device.putPort
  dsimp only
  rw [Oct.set_set]

theorem Device.modLane_putPort (d : Device) (p : Ix8) (y : Port) (f : Lane → Lane) :
    (d.putPort p y).modLane p f = d.putPort p { y with lane := f y.lane } := by
  rw [Device.modLane, Device.modPort_eq, Device.putPort_port]
  exact d.putPort_putPort p y _

theorem Device.modConv_putPort (d : Device) (p : Ix8) (y : Port) (f : Converter → Converter) :
    (d.putPort p y).modConv p f = d.putPort p { y with conv := f y.conv } := by
  rw [Device.modConv_eq, Device.putPort_port]
  exact d.putPort_putPort p y _

theorem Device.modConv_same {f : Converter → Converter} (h : f (d.port p).conv = (d.port p).conv) : d.modConv p f = d := by
  rw [Device.modConv_eq, h]
  exact d.putPort_self p

/-! ## Nothing due at the converter -/

theorem Converter.undisturbed_lockExpiry {c : Converter} (h : c.undisturbed) : c.lockExpiry = c := by
  obtain ⟨-, -, lock, -⟩ := h
  exact if_neg fun k => absurd (lock k.1) (by omega)

theorem Converter.undisturbed_fadeOutEnd {c : Converter} (h : c.undisturbed) : c.holdoverFadeOutEnd = c := by
  obtain ⟨-, -, -, hold⟩ := h
  exact if_neg fun k => (hold k.1).1 k.2

/-- A port whose converter has nothing due finds nothing to settle before an arrival (log 2). -/
theorem Device.settleArrival_undisturbed (h : (d.port p).conv.undisturbed) : d.settleArrival p = d := by
  obtain ⟨ended, wait, lock, hold⟩ := id h
  have interval : d.intervalEnd p = d := by
    rw [Device.intervalEnd]
    simp only [ended]
  have underrun : d.underrunWaitEnd p = d := if_neg fun k => absurd (wait k.1) (by have := k.2; omega)
  have refill : d.holdoverRefillEnd p = d := if_neg fun k => absurd ((hold k.1).2 k.2.1) (by have := k.2.2.1; omega)
  rw [Device.settleArrival, interval, Device.modConv_same (Converter.undisturbed_lockExpiry h), underrun,
    Device.modConv_same (Converter.undisturbed_fadeOutEnd h), refill]

/-! ## A dark lane (R10, R35, R37) -/

theorem Device.darkDue_iff (d : Device) (p : Ix8) : d.darkDue p = true ↔ (d.port p).lane.enabled = true ∧
    (d.port p).lane.state ≠ .dark ∧ 48 ≤ (d.time.h - (d.port p).lane.lastMarker).toNat := by
  simp only [Device.darkDue, Bool.and_eq_true, bne_iff_ne, ne_eq, decide_eq_true_eq, and_assoc]

theorem Converter.laneLost_losing (c : Converter) : c.laneLost = c.losing := by
  unfold Converter.laneLost Converter.losing
  cases c.state with
  | off => rfl
  | seek => rfl
  | measure => rfl
  | settle => rfl
  | locked =>
    simp only [Converter.toHoldover]
    cases c.fade <;> rfl
  | holdover => rfl

/-- A lane that has gone 48 house samples without a pattern, with nothing due at its converter. -/
theorem Device.laneDark_due (due : d.darkDue p = true) (h : (d.port p).conv.undisturbed) :
    d.laneDark p = d.putPort p { d.port p with
      lane := (d.port p).lane.darkened
      conv := if (d.port p).lane.state = .framed then (d.port p).conv.losing else (d.port p).conv } := by
  have lane : d.modLane p Lane.darkened = d.putPort p { d.port p with lane := (d.port p).lane.darkened } := rfl
  rw [Device.laneDark, if_pos due]
  dsimp only
  rw [Device.settleArrival_undisturbed h, lane]
  split_ifs
  · rw [Device.modConv_putPort, Converter.laneLost_losing]
  · rfl

/-- Settles O43: the state of the lane and that of the converter decide. -/
theorem darkLaneStopsTheConverter : Obligations.DarkLaneStopsTheConverter := by
  intro s p calm
  have run : exec (.laneDarkTimeout p) s = .next { s with dev := s.dev.laneDark p } :=
    State.prompt_calm calm fun d => d.laneDark p
  refine ⟨fun early => ?_, fun due still => ?_⟩
  · rw [run, Device.laneDark, if_neg (mt (s.dev.darkDue_iff p).1 early)]
  have dark := Device.laneDark_due ((s.dev.darkDue_iff p).2 due) still
  have ended : (s.dev.port p).conv.ended = none := still.1
  have goes {c : Converter} (h : (if (s.dev.port p).lane.state = .framed then (s.dev.port p).conv.losing
      else (s.dev.port p).conv) = c) : exec (.laneDarkTimeout p) s = .next { s with dev := s.dev.putPort p { s.dev.port p with
        lane := { (s.dev.port p).lane with state := .dark, good := 0, bad := 0, expects := false }, conv := c } } := by
    rw [run, dark, h]
    rfl
  refine ⟨fun rest => goes ?_, fun framed tracks => goes ?_, fun framed locked => goes ?_, fun framed hold =>
    ⟨fun full => goes ?_, fun early => goes ?_⟩⟩
  · obtain framing | seek := rest
    · rw [if_neg (by rw [framing]; nofun)]
    · rw [Converter.losing]
      simp only [seek, ite_self]
  · rw [if_pos framed, Converter.losing]
    obtain h | h := tracks <;> simp only [h, ended]
  · rw [if_pos framed, Converter.losing]
    simp only [locked, ended] <;> rfl
  · rw [if_pos framed, Converter.losing]
    simp only [hold, full, if_true, ended]
  · rw [if_pos framed, Converter.losing]
    simp only [hold, if_neg early]

/-! ## A frame offered (R11, R21, R23, R31) -/

/-- The interval's count is `counting`, the FIFO and the reading as stored (R23). -/
theorem Converter.countFrame_counting (c : Converter) (fifo : List InputFrame) (now : Nat) :
    Converter.countFrame { c with reading := now, fifo := fifo } now = c.counting fifo now := by
  unfold Converter.countFrame Converter.counting
  cases c.interval with
  | none => rfl
  | some i =>
    dsimp only

theorem Converter.counting_sEst (c : Converter) (fifo : List InputFrame) (now : Nat) :
    (c.counting fifo now).sEst = c.sEst := by
  unfold Converter.counting
  split
  · rfl
  · split <;> rfl

/-- A frame offered in SETTLE or LOCKED (R21, R23, R31). -/
theorem Converter.offer_tracking {c : Converter} (tracks : c.state = .settle ∨ c.state = .locked) (f : InputFrame)
    (now : Nat) : c.offer f now = c.counting (appendTracking c.fifo f) now := by
  rw [← Converter.countFrame_counting, Converter.offer]
  obtain h | h := tracks <;> simp only [h]

theorem Converter.overruns_iff (c : Converter) :
    c.overruns = true ↔ (c.state = .settle ∨ c.state = .locked) ∧ 64 ≤ c.fifo.length := by
  simp only [Converter.overruns, Converter.converting, Bool.and_eq_true, Bool.or_eq_true, beq_iff_eq, decide_eq_true_eq]

/-- A frame that does not overrun its converter (R21, R23, R36, R37). -/
theorem Converter.offer_offering (c : Converter) (f : InputFrame) (now : Nat) (fits : c.overruns = false) :
    c.offer f now = c.offering f now := by
  have limited : appendLimited c.fifo f = (c.fifo ++ [f]).drop ((c.fifo ++ [f]).length - 32) := by
    rw [appendLimited, List.length_append, List.length_singleton]
  have tracking (tracks : c.state = .settle ∨ c.state = .locked) : c.offer f now = c.counting (c.fifo ++ [f]) now := by
    rw [Converter.offer_tracking tracks, appendTracking, if_neg fun long => ?_]
    rw [c.overruns_iff.2 ⟨tracks, long⟩] at fits
    cases fits
  cases h : c.state with
  | off => simp only [Converter.offer, Converter.offering, h]
  | seek => simp only [Converter.offer, Converter.offering, h, limited]
  | measure =>
    simp only [Converter.offer, Converter.offering, h, ← limited, ← Converter.countFrame_counting]
  | settle => rw [tracking (.inl h), Converter.offering, h]
  | locked => rw [tracking (.inr h), Converter.offering, h]
  | holdover => simp only [Converter.offer, Converter.offering, h]

/-- The invalid slots of a frame. -/
theorem invalidSlots_eq (f : LaneInput) : f.invalidSlots = (f.slots.toList.filter fun z => !z.valid).length := rfl

/-- A frame handed off that does not overrun its converter. -/
theorem Device.handOff_fits (d : Device) (p : Ix8) (y : Port) (f : LaneInput) (fits : y.conv.overruns = false) :
    (d.putPort p y).handOff p f = d.putPort p { y with
      lane := { y.lane with invalid := addSat y.lane.invalid f.invalidSlots }
      conv := y.conv.offering f.samples (256 * d.time.h.toNat + f.phase.toNat) } := by
  rw [Device.handOff, Device.modLane_putPort, Device.offer, Device.putPort_port]
  simp only [fits]
  rw [if_neg (by nofun), Device.modConv_putPort, Converter.offer_offering _ _ _ fits]
  rfl

/-! ## A frame at the pins (R9 to R11) -/

theorem laneInput_pattern_iff (f : LaneInput) : f.pattern = true ↔ f.atExpected = true ∨ f.elsewhere = true := by
  simp [LaneInput.pattern]

theorem Device.receiveFrame_nothing {f : LaneInput} {l : Lane} (h : (d.port p).lane.classify f d.time.h = (l, .nothing)) :
    d.receiveFrame p f = d.putPort p { d.port p with lane := l } := by
  rw [Device.receiveFrame, h]
  rfl

theorem Device.receiveFrame_lost {f : LaneInput} {l : Lane} (h : (d.port p).lane.classify f d.time.h = (l, .lost)) :
    d.receiveFrame p f = d.putPort p { d.port p with lane := l, conv := (d.port p).conv.losing } := by
  rw [Device.receiveFrame, h, ← Converter.laneLost_losing]
  exact d.modConv_putPort p { d.port p with lane := l } Converter.laneLost

theorem Device.receiveFrame_offered {f : LaneInput} {l : Lane} (h : (d.port p).lane.classify f d.time.h = (l, .offered)) :
    d.receiveFrame p f = (d.putPort p { d.port p with lane := l }).handOff p f := by
  rw [Device.receiveFrame, h]
  rfl

theorem Device.receiveFrame_entered {f : LaneInput} {l : Lane} (h : (d.port p).lane.classify f d.time.h = (l, .entered)) :
    d.receiveFrame p f =
      (d.putPort p { d.port p with lane := l, conv := (d.port p).conv.laneFramed }).handOff p f := by
  rw [Device.receiveFrame, h]
  exact congrArg (fun e : Device => e.handOff p f) (d.modConv_putPort p { d.port p with lane := l } Converter.laneFramed)

/-- A lane that expects no marker looks for the first pattern (Table 1-4). -/
theorem Lane.classify_searching {l : Lane} (h : l.expects = false) (f : LaneInput) (now : HouseIndex) :
    l.classify f now = (if f.pattern = true then
      { l with lastMarker := now, good := 1, bad := 0, expects := true, state := .framing } else l, .nothing) := by
  rw [Lane.classify, if_neg (by rw [h]; nofun)]
  split_ifs <;> rfl

/-- A good marker of a lane that is not FRAMED (Table 1-4). -/
theorem Lane.classify_good {l : Lane} (expects : l.expects = true) {f : LaneInput} (at_ : f.atExpected = true)
    (unframed : l.state ≠ .framed) (now : HouseIndex) :
    l.classify f now = if 8 ≤ l.good + 1 then
        ({ l with lastMarker := now, good := 8, bad := 0, state := .framed }, .entered)
      else ({ l with lastMarker := now, good := l.good + 1 }, .nothing) := by
  rw [Lane.classify, if_pos expects, if_pos at_, if_pos ((laneInput_pattern_iff f).2 (.inl at_))]
  cases h : l.state with
  | framed => exact absurd h unframed
  | dark => rfl
  | framing => rfl

/-- A missed marker of a lane that is not FRAMED (Table 1-4). -/
theorem Lane.classify_missed {l : Lane} (expects : l.expects = true) {f : LaneInput} (missed : f.atExpected = false)
    (unframed : l.state ≠ .framed) (now : HouseIndex) :
    l.classify f now = ({ l with
      lastMarker := if f.atExpected = true ∨ f.elsewhere = true then now else l.lastMarker
      good := 0, expects := false }, .nothing) := by
  rw [Lane.classify, if_pos expects, if_neg (by rw [missed]; nofun), if_congr (laneInput_pattern_iff f) rfl rfl]
  cases h : l.state with
  | framed => exact absurd h unframed
  | dark => rfl
  | framing => rfl

/-- The marker position of a FRAMED lane (Table 1-4). -/
theorem Lane.classify_framed {l : Lane} (expects : l.expects = true) (framed : l.state = .framed) (f : LaneInput)
    (now : HouseIndex) :
    l.classify f now =
      let found := if f.atExpected = true ∨ f.elsewhere = true then now else l.lastMarker
      if f.atExpected = true then ({ l with lastMarker := found, bad := 0 }, .offered)
      else if 3 ≤ l.bad + 1 then
        ({ l with lastMarker := found, good := 0, bad := 0, expects := false, state := .framing }, .lost)
      else ({ l with lastMarker := found, bad := l.bad + 1 }, .offered) := by
  rw [Lane.classify, if_pos expects, if_congr (laneInput_pattern_iff f) rfl rfl]
  simp only [framed]

/-- An arrival at a port whose lane is not due to go dark and whose converter has nothing due. -/
theorem Device.arrive_fresh (h : (d.port p).conv.undisturbed) (fresh : d.darkDue p = false) (f : LaneInput) :
    d.arrive p f = d.receiveFrame p f := by
  have still : d.laneDark p = d := if_neg (by rw [fresh]; nofun)
  rw [Device.arrive, Device.settleArrival_undisturbed h, still]

/-- An arrival at a lane that is due to go dark finds a dark lane that expects nothing (R10, log 2). -/
theorem Device.arrive_dark (h : (d.port p).conv.undisturbed) (due : d.darkDue p = true) (f : LaneInput) :
    d.arrive p f = d.putPort p { d.port p with
      lane := if f.pattern = true then
          { (d.port p).lane.darkened with lastMarker := d.time.h, good := 1, bad := 0, expects := true, state := .framing }
        else (d.port p).lane.darkened
      conv := if (d.port p).lane.state = .framed then (d.port p).conv.losing else (d.port p).conv } := by
  rw [Device.arrive, Device.settleArrival_undisturbed h, Device.laneDark_due due h]
  refine (Device.receiveFrame_nothing (l := if f.pattern = true then
      { (d.port p).lane.darkened with lastMarker := d.time.h, good := 1, bad := 0, expects := true, state := .framing }
        else (d.port p).lane.darkened) ?_).trans ?_
  · rw [Device.putPort_port]
    exact Lane.classify_searching rfl f _
  · rw [Device.putPort_putPort, Device.putPort_port]

theorem Device.frameArrival_pins (enabled : (d.port p).lane.enabled = true) (pins : (d.port p).lane.source = .pins)
    (f : LaneInput) : d.frameArrival p f = d.arrive p f := if_pos ⟨enabled, pins⟩

/-- Settles O41: the lane's state, what it expects and what it finds decide. -/
theorem frameArrivalProvesTheFraming : Obligations.FrameArrivalProvesTheFraming := by
  intro s p f calm x put slot frame h pattern found now dark first framed fresh
  have run : exec (.frameArrival p f) s = .next { s with dev := s.dev.frameArrival p f } :=
    State.prompt_calm calm fun d => d.frameArrival p f
  refine ⟨fun ignored => ?_, fun enabled pins unframed still => ⟨fun framing stale => ?_, fun ready => ?_⟩⟩
  · have same : s.dev.frameArrival p f = s.dev :=
      if_neg fun k => ignored.elim (fun off => by rw [k.1] at off; cases off) fun other => other k.2
    rw [run, same]
  · have due : s.dev.darkDue p = true := (s.dev.darkDue_iff p).2 ⟨enabled, by rw [framing]; nofun, not_lt.1 stale⟩
    rw [run, Device.frameArrival_pins enabled pins, Device.arrive_dark still due, if_neg unframed,
      if_congr (laneInput_pattern_iff f) rfl rfl]
    rfl
  have noDark : s.dev.darkDue p = false := by
    refine eq_false_of_ne_true fun due => ?_
    obtain ⟨-, notDark, stale⟩ := (s.dev.darkDue_iff p).1 due
    exact ready.elim notDark fun early => absurd early (not_lt.2 stale)
  have goes {y : Port} (h : s.dev.receiveFrame p f = s.dev.putPort p y) : exec (.frameArrival p f) s = .next (put y) := by
    rw [run, Device.frameArrival_pins enabled pins, Device.arrive_fresh still noDark, h]
  have marker (at_ : f.atExpected = true) : found = h := if_pos (.inl at_)
  refine ⟨fun search seen => ?_, fun search unseen => ?_, fun expects at_ few => ?_, fun expects missed => ?_,
    fun expects at_ eighth => ?_⟩
  · refine goes (Device.receiveFrame_nothing ((Lane.classify_searching search f _).trans ?_))
    rw [if_pos ((laneInput_pattern_iff f).2 seen)]
  · have none := Device.receiveFrame_nothing (Lane.classify_searching search f s.dev.time.h)
    rw [if_neg (mt (laneInput_pattern_iff f).1 unseen)] at none
    refine (goes none).trans ?_
    exact congrArg (fun d => (.next { s with dev := d } : Host.Outcome State Fault Refusal)) (s.dev.putPort_self p)
  · refine goes (Device.receiveFrame_nothing ((Lane.classify_good expects at_ unframed _).trans ?_))
    rw [if_neg (by omega), marker at_]
  · exact goes (Device.receiveFrame_nothing (Lane.classify_missed expects missed unframed _))
  · have entered : s.dev.receiveFrame p f = _ := Device.receiveFrame_entered
      ((Lane.classify_good expects at_ unframed s.dev.time.h).trans (if_pos (by omega)))
    have lands {c : Converter} (k : (s.dev.port p).conv.laneFramed = c) (fits : c.overruns = false) :
        exec (.frameArrival p f) s = .next (put { x with lane := framed, conv := c.offering frame now }) := by
      refine goes (entered.trans ?_)
      rw [k, Device.handOff_fits _ _ _ _ fits]
      simp only [framed, marker at_]
      rfl
    refine ⟨fun seek few => ?_, fun hold => ?_⟩
    · have framing : (s.dev.port p).conv.laneFramed = { x.conv with
          state := .measure, lockCount := 0, fade := .none, underrunWait := false, interval := none, ended := none } := by
        unfold Converter.laneFramed
        rw [show (s.dev.port p).conv.state = .seek from seek]
      refine (lands framing rfl).trans ?_
      have small : (x.conv.fifo ++ [frame]).drop ((x.conv.fifo ++ [frame]).length - 32) = x.conv.fifo ++ [frame] := by
        rw [List.length_append, List.length_singleton, show x.conv.fifo.length + 1 - 32 = 0 by omega, List.drop_zero]
      simp only [Converter.offering, Converter.counting, small]
    · have same : (s.dev.port p).conv.laneFramed = x.conv := by
        unfold Converter.laneFramed
        rw [show (s.dev.port p).conv.state = .holdover from hold]
      exact lands same (by simp [Converter.overruns, Converter.converting, hold])

/-! ## A frame of a FRAMED lane (R11, R21, R23, R31, R33, R35) -/

theorem Member.on_eq (z : Member) (side : Selection) : z.on side = z.sourceOf side := by
  obtain ⟨r, q, b⟩ := z
  cases side <;> cases b <;> rfl

/-- A latency update of a port that no ACTIVE programme listens to changes nothing (R34, R90). -/
theorem Device.latencyUpdate_unwatched (notices : d.pool.notices = [])
    (h : ∀ n : Ix8, (d.prog n).record.state = .active → ∀ z ∈ (d.prog n).record.members,
      (z.on (d.prog n).ctx.selection).port ≠ p) : d.latencyUpdate p = d := by
  refine foldl_same _ fun n => ?_
  have still : d.latencyProgramme p n = d := by
    refine if_neg ?_
    rw [Bool.and_eq_true, Device.active_iff, List.any_eq_true]
    rintro ⟨active, z, listed, on⟩
    exact h n active z listed (by rw [Member.on_eq]; exact beq_iff_eq.1 on)
  rw [still, Device.told_of_none notices]

theorem AlarmUnit.occur_queue (u : AlarmUnit) (now : BitVec 32) (a : Alarm) :
    (u.occur now a).queue = u.queued a ((u.occur now a).get a) := u.put_notify_queue a _ rfl

/-- A frame handed off that overruns its converter: a slip, and its latency (R31, R33, R34). -/
theorem Device.handOff_overrun (d : Device) (p : Ix8) (y : Port) (f : LaneInput) (full : y.conv.overruns = true) :
    (d.putPort p y).handOff p f = (((d.putPort p { y with
      lane := { y.lane with invalid := addSat y.lane.invalid f.invalidSlots }
      conv := { y.conv.counting (y.conv.fifo.drop 32 ++ [f.samples]) (256 * d.time.h.toNat + f.phase.toNat) with
        sApp := y.conv.sEst + 256, state := .settle, lockCount := 0, slipMark := true } }).occur (.slip p)).sendLatency p 33) := by
  obtain ⟨tracks, long⟩ := y.conv.overruns_iff.1 full
  rw [Device.handOff, Device.modLane_putPort, Device.offer, Device.putPort_port]
  simp only [full]
  rw [if_pos trivial, Device.modConv_putPort, Device.modConv_putPort, Device.slip, Device.modConv_putPort,
    Converter.offer_tracking tracks, appendTracking, if_pos long]
  simp only [Converter.slipped, Converter.counting_sEst]
  rfl

/-- What a slip and its latency leave: one port, its SLIP record, and what the delay engine makes of the latency. -/
theorem Device.slip_latency (d : Device) (p : Ix8) (z : Port) :
    let e := ((d.putPort p z).occur (.slip p)).sendLatency p 33
    e.ports = d.ports.set p { z with conv := { z.conv with
      lc := ((2 * (41 * 16777216) + z.conv.sEst) / (2 * z.conv.sEst)).toNat } } ∧
    (e.alarms.get (.slip p) = { d.alarms.get (.slip p) with
      latch := true, count := addSat (d.alarms.get (.slip p)).count 1, time := d.time.seconds
      noticed := (d.alarms.get (.slip p)).noticed || (d.alarms.masks.get .slip).notify } ∧
      (d.pool.notices = [] → (∀ n : Ix8, (d.prog n).record.state = .active → ∀ m ∈ (d.prog n).record.members,
          (m.on (d.prog n).ctx.selection).port ≠ p) →
        e.alarms.queue = d.alarms.queued (.slip p) (e.alarms.get (.slip p)) ∧ e.progs = d.progs)) ∧
    e.time = d.time ∧ e.mem = d.mem ∧ e.map = d.map ∧ e.link = d.link := by
  have engine := ((d.putPort p z).occur (.slip p)).sendLatency_frame p 33
  have short := ((d.putPort p z).occur (.slip p)).sendLatency_short p 33
  have quiet : d.pool.notices = [] → (∀ n : Ix8, (d.prog n).record.state = .active → ∀ m ∈ (d.prog n).record.members,
          (m.on (d.prog n).ctx.selection).port ≠ p) → ((d.putPort p z).occur (.slip p)).sendLatency p 33 =
        ((d.putPort p z).occur (.slip p)).modConv p fun c => { c with lc := latencyFor 33 c.sEst } := fun none unwatched =>
    Device.latencyUpdate_unwatched (d := ((d.putPort p z).occur (.slip p)).modConv p
      fun c => { c with lc := latencyFor 33 c.sEst }) none unwatched
  generalize ((d.putPort p z).occur (.slip p)).sendLatency p 33 = e at *
  have record : e.alarms.get (.slip p) = ((d.alarms.occur d.time.seconds (.slip p)).get (.slip p)) := short.get _ nofun
  refine ⟨engine.ports.trans ?_, ⟨record.trans ?_, fun none unwatched => ?_⟩, engine.time, engine.mem, engine.map,
    engine.link⟩
  · exact congrArg Device.ports (d.modConv_putPort p z fun c => { c with lc := latencyFor 33 c.sEst })
  · rw [AlarmUnit.occur_get, if_pos rfl]
    rfl
  · rw [record, quiet none unwatched]
    exact ⟨d.alarms.occur_queue _ _, rfl⟩

/-- Settles O42: the age of the last pattern, the marker, and the FIFO decide. -/
theorem frameArrivalOffersTheFrame : Obligations.FrameArrivalOffersTheFrame := by
  intro s p f calm x c enabled pins framed expects still h now slot frame pattern found kept lost dark goes tracks watched
  have run : exec (.frameArrival p f) s = .next { s with dev := s.dev.frameArrival p f } :=
    State.prompt_calm calm fun d => d.frameArrival p f
  have arrives : s.dev.frameArrival p f = s.dev.arrive p f := Device.frameArrival_pins enabled pins f
  have lands {l : Lane} {k : Converter} (h : s.dev.arrive p f = s.dev.putPort p { x with lane := l, conv := k }) : goes l k := by
    change exec _ s = _
    rw [run, arrives, h]
  have dueIff : s.dev.darkDue p = true ↔ 48 ≤ (h - x.lane.lastMarker).toNat :=
    (s.dev.darkDue_iff p).trans ⟨fun k => k.2.2, fun k => ⟨enabled, by rw [framed]; nofun, k⟩⟩
  have fresh (early : (h - x.lane.lastMarker).toNat < 48) : s.dev.arrive p f = s.dev.receiveFrame p f :=
    Device.arrive_fresh still (eq_false_of_ne_true fun due => absurd (dueIff.1 due) (not_le.2 early)) f
  have classified := Lane.classify_framed expects framed f s.dev.time.h
  refine ⟨fun stale => ?_, fun early marked => ?_, fun early missed third => lands ?_⟩
  · have goesDark := Device.arrive_dark still (dueIff.2 stale) f
    rw [if_pos framed, if_congr (laneInput_pattern_iff f) rfl rfl] at goesDark
    refine ⟨fun seen => lands ?_, fun unseen => lands ?_⟩
    · rw [if_pos seen] at goesDark
      exact goesDark
    · rw [if_neg unseen] at goesDark
      exact goesDark
  · have offered : x.lane.classify f s.dev.time.h =
        ({ x.lane with bad := if f.atExpected then 0 else x.lane.bad + 1, lastMarker := found }, .offered) := by
      refine classified.trans ?_
      dsimp only
      by_cases at_ : f.atExpected = true
      · rw [if_pos at_, if_pos at_]
      · have := marked.resolve_left at_
        rw [if_neg at_, if_neg at_, if_neg (by omega)]
    have arrived := (fresh early).trans (Device.receiveFrame_offered offered)
    refine ⟨fun fits => lands ?_, fun converts long => ?_⟩
    · have room : x.conv.overruns = false := eq_false_of_ne_true fun full => fits (x.conv.overruns_iff.1 full)
      exact arrived.trans (Device.handOff_fits _ _ _ _ room)
    · have full : x.conv.overruns = true := x.conv.overruns_iff.2 ⟨converts, long⟩
      have whole := arrived.trans (Device.handOff_overrun s.dev p
        { x with lane := { x.lane with bad := if f.atExpected then 0 else x.lane.bad + 1, lastMarker := found } } f full)
      obtain ⟨ports, ⟨record, quiet⟩, rest⟩ := s.dev.slip_latency p _
      rw [← whole] at ports record quiet rest
      refine ⟨s.dev.arrive p f, by rw [run, arrives], ports.trans ?_, ⟨record, fun unwatched => quiet ?_ ?_⟩, rest⟩
      · simp only [Converter.counting_sEst]
        rfl
      · exact calm.1.2.2.2
      · exact fun n active z listed here => unwatched ⟨n, active, z, listed, here⟩
  · refine (fresh early).trans (Device.receiveFrame_lost (classified.trans ?_))
    dsimp only
    rw [if_neg (by rw [missed]; nofun), if_pos (by omega)]

end Sys2Proof.Machine
end

section
/-!
PROOF. Ends of estimator intervals: the range test, the first measurement, and the latency that follows (R23 to R26,
R34).
-/

namespace Sys2Proof.Machine

variable {d e : Device} {s : State} {p : Ix8}

/-! ## Interval ends (R23, R24, R25, R34) -/

theorem inRange_iff {t : Nat} : inRange t = true ↔ 503317 ≤ t ∧ t ≤ 1797558 := by
  unfold inRange
  rw [Bool.and_eq_true, decide_eq_true_iff, decide_eq_true_iff]

theorem rateOf_eq (t : Nat) : rateOf t = (2 * 17592186044416 + t) / (2 * t) := rfl

/-- The part with the ended measurement of one port taken. -/
def Device.tookInterval (d : Device) (p : Ix8) : Device := d.modConv p fun c => { c with ended := none }

theorem Device.intervalEnd_none (h : (d.port p).conv.ended = none) : d.intervalEnd p = d := by
  rw [Device.intervalEnd]
  simp only [h]

theorem Device.intervalEnd_first {i : EndedInterval} (h : (d.port p).conv.ended = some i)
    (state : (d.port p).conv.state = .measure) :
    d.intervalEnd p =
      if inRange i.tInt then
        (((d.tookInterval p).deactivate (.rateRange p)).modConv p fun c => c.enterSettle (rateOf i.tInt)).sendLatency p 32
      else (d.tookInterval p).activate (.rateRange p) := by
  rw [Device.intervalEnd]
  simp only [h, state]
  rfl

theorem Device.intervalEnd_tracks {i : EndedInterval} (h : (d.port p).conv.ended = some i)
    (state : (d.port p).conv.state = .settle ∨ (d.port p).conv.state = .locked) :
    d.intervalEnd p =
      if inRange i.tInt then
        (((d.tookInterval p).deactivate (.rateRange p)).modConv p fun c =>
          if jumps (rateOf i.tInt) c.sEst then c.jumpTo (rateOf i.tInt) i.fObs
          else c.track (rateOf i.tInt) i.fObs).sendLatency p i.fObs
      else ((d.tookInterval p).activate (.rateRange p)).modConv p Converter.backToMeasure := by
  rw [Device.intervalEnd]
  rcases state with state | state <;>
  · simp only [h, state]
    rfl

/-- A measurement in range: one port, RATE_RANGE inactive, and what the delay engine makes of the latency (R24, R34). -/
theorem Device.measured (d : Device) (p : Ix8) (f : Converter → Converter) (fill : Nat) :
    let e := (((d.tookInterval p).deactivate (.rateRange p)).modConv p f).sendLatency p fill
    let c := f { (d.port p).conv with ended := none }
    e.ports = d.ports.set p { d.port p with conv := { c with lc := latencyFor fill c.sEst } } ∧
    (e.alarms.get (.rateRange p)).active = false ∧
    (∀ a, a ≠ .rateRange p → (∀ n, a ≠ .delayShort n) → e.alarms.get a = d.alarms.get a) ∧
    e.time = d.time ∧ e.mem = d.mem ∧ e.map = d.map ∧ e.link = d.link := by
  intro e c
  have engine := Device.sendLatency_frame (((d.tookInterval p).deactivate (.rateRange p)).modConv p f) p fill
  have short := Device.sendLatency_short (((d.tookInterval p).deactivate (.rateRange p)).modConv p f) p fill
  have alarms : (((d.tookInterval p).deactivate (.rateRange p)).modConv p f).alarms =
      d.alarms.deactivate d.time.seconds (.rateRange p) := rfl
  change Device.EngineOnly _ e at engine
  change Device.ShortOnly _ e at short
  refine ⟨engine.ports.trans ?_, ?_, fun a other notShort => ?_, engine.time, engine.mem, engine.map, engine.link⟩
  · exact congrArg Device.ports ((congrArg (fun x : Device => x.modConv p fun c => { c with lc := latencyFor fill c.sEst })
      (Device.modConv_putPort ((d.deactivate (.rateRange p))) p { d.port p with conv := { (d.port p).conv with ended := none } } f)).trans
      (Device.modConv_putPort _ p _ _))
  · rw [short.get (.rateRange p) nofun, alarms]
    exact AlarmUnit.deactivate_active _ _ _
  · rw [short.get _ notShort, alarms, AlarmUnit.deactivate_get, if_neg fun h => other h.1]

/-- Settles O44: the state of the converter and the range of the measurement decide. -/
theorem intervalEndMeasuresTheRate : Obligations.IntervalEndMeasuresTheRate := by
  intro s p calm x
  have run : exec (.intervalEnd p) s = .next { s with dev := s.dev.intervalEnd p } :=
    State.prompt_calm calm fun d => d.intervalEnd p
  refine ⟨fun none => by rw [run, Device.intervalEnd_none none], fun e ended => ?_⟩
  intro good rate
  refine ⟨fun measure inside => ?_, fun measure outside => ?_, fun tracks outside => ?_⟩
  · have found := Device.intervalEnd_first ended measure
    rw [if_pos (inRange_iff.2 inside)] at found
    obtain ⟨ports, range, -, rest⟩ := s.dev.measured p (fun c => c.enterSettle (rateOf e.tInt)) 32
    refine ⟨_, run, ?_⟩
    rw [found]
    exact ⟨ports, range, rest⟩
  · have found := Device.intervalEnd_first ended measure
    rw [if_neg (mt inRange_iff.1 outside)] at found
    rw [run, found]
    rfl
  · have found := Device.intervalEnd_tracks ended tracks
    rw [if_neg (mt inRange_iff.1 outside)] at found
    rw [run, found]
    exact congrArg (fun d => (.next { s with dev := d } : Host.Outcome State Fault Refusal))
      (Device.modConv_putPort (s.dev.activate (.rateRange p)) p
        { s.dev.port p with conv := { (s.dev.port p).conv with ended := none } } Converter.backToMeasure)

end Sys2Proof.Machine
end

section
/-!
SUPPORT. The lines of one programme, rewritten together: the required lengths, the return of excess blocks, the settling
of the new lengths and the start of a change as equations (R90, R92, R95 to R99).
-/

namespace Sys2Proof.Machine

variable {d e : Device} {n k m : Ix8} {z : Member}

/-! ## The listed members -/

theorem mem_eight (m : Ix8) : m ∈ eight := by revert m; decide

theorem Record.mem_listed {r : Record} : (m, z) ∈ r.listed ↔ r.members[m.val]? = some z := by
  simp [Record.listed, List.mem_filterMap, mem_eight]

theorem Record.mem_positions {r : Record} : m ∈ r.positions ↔ ∃ z, r.members[m.val]? = some z := by
  simp [Record.positions, Record.mem_listed]

theorem Record.mem_positions_iff_lt {r : Record} : m ∈ r.positions ↔ m.val < r.members.length := by
  rw [Record.mem_positions]
  exact ⟨fun ⟨_, h⟩ => (List.getElem?_eq_some_iff.1 h).1, fun h => ⟨_, List.getElem?_eq_getElem h⟩⟩

theorem Record.positions_eq (r : Record) : r.positions = eight.filter fun m => r.members[m.val]?.isSome := by
  unfold Record.positions Record.listed
  induction eight with
  | nil => rfl
  | cons m l ih =>
    rw [List.filterMap_cons, List.filter_cons, ← ih]
    cases r.members[m.val]? <;> rfl

theorem Record.positions_nodup (r : Record) : r.positions.Nodup := by
  rw [r.positions_eq]
  exact List.Nodup.filter _ (by decide)

/-! ## The lines of one programme -/

/-- The part with the lines of one programme as given. -/
def Device.withLines (d : Device) (n : Ix8) (ls : Oct Line) : Device := d.modDelay n fun x => { x with lines := ls }

theorem Device.withLines_prog (d : Device) (n : Ix8) (ls : Oct Line) :
    (d.withLines n ls).prog n = { d.prog n with delay := { (d.prog n).delay with lines := ls } } :=
  d.prog_modDelay_self n _

theorem Device.withLines_other (d : Device) {n k : Ix8} (h : k ≠ n) (ls : Oct Line) : (d.withLines n ls).prog k = d.prog k :=
  (d.prog_modProg n k _).trans (if_neg h.symm)

theorem Device.withLines_line (d : Device) (n : Ix8) (ls : Oct Line) (m : Ix8) : (d.withLines n ls).line n m = ls.get m := by
  rw [Device.line, d.withLines_prog]

theorem Device.withLines_withLines (d : Device) (n : Ix8) (ls ls' : Oct Line) :
    (d.withLines n ls).withLines n ls' = d.withLines n ls' := Device.modProg_modProg ..

theorem Device.withLines_self (d : Device) (n : Ix8) : d.withLines n (d.prog n).delay.lines = d := by
  change { d with progs := d.progs.set n (d.prog n) } = d
  rw [Device.prog, Oct.set_get]

theorem Device.modLine_eq (d : Device) (n m : Ix8) (f : Line → Line) :
    d.modLine n m f = d.withLines n ((d.prog n).delay.lines.set m (f (d.line n m))) := rfl

/-- The listed lines of a programme, each rewritten for its member. -/
def Device.reline (d : Device) (n : Ix8) (f : Ix8 → Member → Line → Line) : Device :=
  d.withLines n (Oct.ofFn fun m => (d.prog n).record.members[m.val]?.elim (d.line n m) fun z => f m z (d.line n m))

section reline

variable (d : Device) (n : Ix8) (f : Ix8 → Member → Line → Line)

theorem Device.reline_line_listed (listed : (d.prog n).record.members[m.val]? = some z) :
    (d.reline n f).line n m = f m z (d.line n m) := by
  rw [Device.reline, d.withLines_line, Oct.get_ofFn, listed]
  rfl

theorem Device.reline_line_unlisted (unlisted : (d.prog n).record.members[m.val]? = none) :
    (d.reline n f).line n m = d.line n m := by
  rw [Device.reline, d.withLines_line, Oct.get_ofFn, unlisted]
  rfl

theorem Device.reline_engine : d.EngineOnly (d.reline n f) := by
  unfold Device.reline Device.withLines
  exact d.modDelay_engine n _

theorem Device.reline_record : ((d.reline n f).prog n).record = (d.prog n).record := (d.reline_engine n f).record n

theorem Device.reline_delay :
    ((d.reline n f).prog n).delay = { (d.prog n).delay with lines := ((d.reline n f).prog n).delay.lines } := by
  rw [Device.reline, d.withLines_prog]

theorem Device.reline_other (h : k ≠ n) : (d.reline n f).prog k = d.prog k := d.withLines_other h _

theorem Device.reline_pool : (d.reline n f).pool = d.pool := rfl

theorem Device.reline_alarms : (d.reline n f).alarms = d.alarms := rfl

variable {d n f}

theorem Device.reline_eq_withLines {ls : Oct Line}
    (listed : ∀ m z, (d.prog n).record.members[m.val]? = some z → ls.get m = f m z (d.line n m))
    (unlisted : ∀ m : Ix8, (d.prog n).record.members[m.val]? = none → ls.get m = d.line n m) :
    d.withLines n ls = d.reline n f := by
  refine congrArg (d.withLines n) (Oct.ext_get fun m => ?_)
  rw [Oct.get_ofFn]
  cases h : (d.prog n).record.members[m.val]? with
  | none => exact unlisted m h
  | some z => exact listed m z h

theorem Device.reline_same (h : ∀ m z, (d.prog n).record.members[m.val]? = some z → f m z (d.line n m) = d.line n m) :
    d.reline n f = d :=
  (Device.reline_eq_withLines (ls := (d.prog n).delay.lines) (fun m z listed => (h m z listed).symm) fun _ _ => rfl).symm.trans
    (d.withLines_self n)

theorem Device.reline_congr {g : Ix8 → Member → Line → Line}
    (h : ∀ m z, (d.prog n).record.members[m.val]? = some z → f m z (d.line n m) = g m z (d.line n m)) :
    d.reline n f = d.reline n g :=
  Device.reline_eq_withLines (fun m z listed => by rw [Oct.get_ofFn, listed]; exact h m z listed)
    fun m unlisted => by rw [Oct.get_ofFn, unlisted]; rfl

end reline

/-- Lines changed one after another, each at most once. -/
theorem Device.foldl_modLine {α : Type} (n : Ix8) (g : Ix8 × α → Line → Line) (l : List (Ix8 × α))
    (nodup : (l.map Prod.fst).Nodup) (d : Device) :
    ∃ ls, l.foldl (fun e x => e.modLine n x.1 (g x)) d = d.withLines n ls ∧
      (∀ x ∈ l, ls.get x.1 = g x (d.line n x.1)) ∧ ∀ m, m ∉ l.map Prod.fst → ls.get m = d.line n m := by
  induction l generalizing d with
  | nil => exact ⟨_, (d.withLines_self n).symm, nofun, fun m _ => rfl⟩
  | cons x l ih =>
    obtain ⟨notLater, nodup⟩ := List.nodup_cons.1 nodup
    obtain ⟨ls, run, listed, unlisted⟩ := ih nodup (d.modLine n x.1 (g x))
    have before (m : Ix8) : (d.modLine n x.1 (g x)).line n m = if x.1 = m then g x (d.line n x.1) else d.line n m := by
      rw [Device.modLine_eq, d.withLines_line, Oct.get_set]
      rfl
    refine ⟨ls, ?_, fun y there => ?_, fun m absent => ?_⟩
    · rw [List.foldl_cons, run, Device.modLine_eq, d.withLines_withLines]
    · rcases List.mem_cons.1 there with rfl | later
      · rw [unlisted _ notLater, before, if_pos rfl]
      · rw [listed y later, before, if_neg fun same : x.1 = y.1 => notLater (same ▸ List.mem_map_of_mem later)]
    · rw [List.map_cons, List.mem_cons, not_or] at absent
      rw [unlisted m absent.2, before, if_neg (Ne.symm absent.1)]

theorem Device.foldl_listed (d : Device) (n : Ix8) (f : Ix8 → Member → Line → Line) :
    (d.prog n).record.listed.foldl (fun e x => e.modLine n x.1 (f x.1 x.2)) d = d.reline n f := by
  obtain ⟨ls, run, listed, unlisted⟩ :=
    Device.foldl_modLine n (fun x => f x.1 x.2) (d.prog n).record.listed (d.prog n).record.positions_nodup d
  rw [run]
  refine Device.reline_eq_withLines (fun m z h => listed (m, z) (Record.mem_listed.2 h)) fun m h => unlisted m ?_
  change m ∉ (d.prog n).record.positions
  rw [Record.mem_positions]
  rintro ⟨z, there⟩
  exact nomatch h.symm.trans there

theorem Device.mapLines_eq (d : Device) (n : Ix8) (f : Line → Line) : d.mapLines n f = d.reline n fun _ _ => f := by
  rw [← Device.foldl_listed, Device.mapLines, Record.positions, List.foldl_map]

/-- The required lengths of the members that a test names (R90). -/
theorem Device.requireWhere_eq (d : Device) (n : Ix8) (test : Member → Bool) :
    d.requireWhere n test = d.reline n fun _ z l =>
      if test z then l.require (d.prog n).record.settings.delayTarget (d.latencyOf n z) else l := by
  rw [← Device.foldl_listed, Device.requireWhere]
  congr 1
  funext e x
  split_ifs
  · rfl
  · exact ((e.modLine_eq n x.1 id).trans ((congrArg (e.withLines n) (Oct.set_get _ _)).trans (e.withLines_self n))).symm

theorem Device.requireAll_eq (d : Device) (n : Ix8) :
    d.requireAll n = d.reline n fun _ z l => l.require (d.prog n).record.settings.delayTarget (d.latencyOf n z) :=
  d.requireWhere_eq n _

end Sys2Proof.Machine
end

section
/-!
SUPPORT. The return of excess blocks, the settling of the new lengths, and the start of a change (R92, R93, R95 to R99,
R105).
-/

namespace Sys2Proof.Machine

variable {d e : Device} {n k m : Ix8} {z : Member}

/-! ## Hand-backs (R85) -/

/-- With no request waiting, what is handed back joins the free list, and nothing else happens. -/
theorem Device.handBack_idle (queue : d.pool.queue = []) (blocks : List Nat) :
    d.handBack blocks = { d with pool := { d.pool with free := d.pool.free ++ blocks } } := by
  unfold Device.handBack
  split_ifs with empty
  · rw [empty, List.append_nil]
  · rw [Device.grantTest]
    change Device.grantLoop none d.pool.queue.length _ = _
    rw [queue]
    rfl

theorem Device.handBack_hasEntry (d : Device) (blocks : List Nat) (none : d.hasEntry n = false) :
    (d.handBack blocks).hasEntry n = false := by
  unfold Device.handBack
  split_ifs
  · exact none
  · rw [Device.hasEntry, List.any_eq_false] at none ⊢
    exact fun x there => none x (((d.modPool _).grantTest_granted _).queue x there)

/-! ## Excess blocks (R92) -/

/-- A line without its excess spares. -/
def Line.returned (l : Line) : Line := { l with spare := l.spare.drop l.excess }

/-- One member's excess handed back. -/
def Device.returnLine (d : Device) (n m : Ix8) : Device :=
  (d.modLine n m Line.returned).handBack ((d.line n m).spare.take (d.line n m).excess)

theorem Device.returnExcess_eq (d : Device) (n : Ix8) :
    d.returnExcess n = (d.prog n).record.positions.foldl (fun e m => e.returnLine n m) d := rfl

theorem Line.returned_of_no_excess {l : Line} (h : l.excess = 0) : l.returned = l := by
  rw [Line.returned, h, List.drop_zero]

theorem Device.returnExcess_none (h : ∀ m z, (d.prog n).record.members[m.val]? = some z → (d.line n m).excess = 0) :
    d.returnExcess n = d := by
  rw [Device.returnExcess_eq]
  have keeps : ∀ l : List Ix8, (∀ m ∈ l, (d.line n m).excess = 0) → l.foldl (fun e m => e.returnLine n m) d = d := by
    intro l all
    induction l with
    | nil => rfl
    | cons m l ih =>
      have none := all m (.head _)
      have still : d.returnLine n m = d := by
        rw [Device.returnLine, none, List.take_zero, Device.modLine_eq, Line.returned_of_no_excess none]
        exact (if_pos rfl).trans ((congrArg (d.withLines n) (Oct.set_get _ _)).trans (d.withLines_self n))
      rw [List.foldl_cons, still]
      exact ih fun k there => all k (.tail _ there)
  refine keeps _ fun m there => ?_
  obtain ⟨z, listed⟩ := Record.mem_positions.1 there
  exact h m z listed

/-- The lines named by a list without their excess spares. -/
def Device.returnedLines (d : Device) (n : Ix8) (l : List Ix8) : Oct Line :=
  Oct.ofFn fun m => if m ∈ l then (d.line n m).returned else d.line n m

theorem Device.returnedLines_cons (d : Device) (n m : Ix8) (l : List Ix8) (new : m ∉ l)
    (prog : e.prog n = (d.modLine n m Line.returned).prog n) : e.returnedLines n l = d.returnedLines n (m :: l) := by
  refine Oct.ext_get fun k => ?_
  have line (k : Ix8) : e.line n k = if m = k then (d.line n m).returned else d.line n k := by
    rw [Device.line, prog, ← Device.line, Device.modLine_eq, Device.withLines_line, Oct.get_set]
    rfl
  rw [Device.returnedLines, Device.returnedLines, Oct.get_ofFn, Oct.get_ofFn]
  by_cases same : m = k
  · subst same
    rw [if_neg new, if_pos (.head _), line, if_pos rfl]
  · have tail : k ∈ m :: l ↔ k ∈ l := by rw [List.mem_cons, or_iff_right (Ne.symm same)]
    rw [line, if_neg same, if_congr tail rfl rfl]

theorem Device.foldl_returnLine (l : List Ix8) (nodup : l.Nodup) (d : Device) (entry : d.hasEntry n = false) :
    let e := l.foldl (fun e m => e.returnLine n m) d
    d.EngineOnly e ∧ e.alarms = d.alarms ∧ e.hasEntry n = false ∧ e.prog n = (d.withLines n (d.returnedLines n l)).prog n ∧
      (d.pool.queue = [] → ∃ free, e =
        { d.withLines n (d.returnedLines n l) with pool := { d.pool with free := free } }) := by
  induction l generalizing d with
  | nil =>
    have lines : d.returnedLines n [] = (d.prog n).delay.lines := Oct.ext_get fun m => by
      rw [Device.returnedLines, Oct.get_ofFn, if_neg List.not_mem_nil]
      rfl
    rw [lines, d.withLines_self]
    exact ⟨.refl d, rfl, entry, rfl, fun _ => ⟨d.pool.free, rfl⟩⟩
  | cons m l ih =>
    obtain ⟨new, nodup⟩ := List.nodup_cons.1 nodup
    obtain ⟨engine, alarms, own, -⟩ := (d.modLine n m Line.returned).handBack_granted (n := n)
      ((d.line n m).spare.take (d.line n m).excess)
    have prog : (d.returnLine n m).prog n = (d.modLine n m Line.returned).prog n := own entry
    obtain ⟨engine', alarms', entry', own', idle'⟩ := ih nodup (d.returnLine n m) (Device.handBack_hasEntry _ _ entry)
    rw [Device.returnedLines_cons d n m l new prog] at own' idle'
    refine ⟨((d.modLine_engine n m _).trans engine).trans engine', alarms'.trans alarms, entry', own'.trans ?_,
      fun queue => ?_⟩
    · rw [Device.withLines_prog, Device.withLines_prog, prog, Device.modLine_eq, Device.withLines_prog]
    · have step : d.returnLine n m = { d.modLine n m Line.returned with pool := { d.pool with
          free := d.pool.free ++ (d.line n m).spare.take (d.line n m).excess } } :=
        Device.handBack_idle (d := d.modLine n m Line.returned) queue _
      obtain ⟨free, run⟩ := idle' (by rw [step]; exact queue)
      refine ⟨free, run.trans ?_⟩
      rw [step]
      exact congrArg (fun x : Device => { x with pool := { d.pool with free := free } }) (d.withLines_withLines n _ _)

/-- The excess of a programme with no request waiting handed back: its own lines without it; other programmes can take
what becomes free where they wait. -/
theorem Device.returnExcess_own (entry : d.hasEntry n = false) :
    d.EngineOnly (d.returnExcess n) ∧ (d.returnExcess n).alarms = d.alarms ∧ (d.returnExcess n).hasEntry n = false ∧
      (d.returnExcess n).prog n = (d.reline n fun _ _ => Line.returned).prog n ∧
      (d.pool.queue = [] → ∃ free, d.returnExcess n =
        { d.reline n fun _ _ => Line.returned with pool := { d.pool with free := free } }) := by
  rw [← Device.reline_eq_withLines (ls := d.returnedLines n (d.prog n).record.positions)
    (fun m z listed => (Oct.get_ofFn _ _).trans (if_pos (Record.mem_positions.2 ⟨z, listed⟩)))
    fun m unlisted => (Oct.get_ofFn _ _).trans (if_neg fun there => by
      obtain ⟨z, listed⟩ := Record.mem_positions.1 there
      exact nomatch unlisted.symm.trans listed)]
  exact Device.foldl_returnLine _ (d.prog n).record.positions_nodup d entry

/-- A line keeps the blocks that its keep length needs. -/
theorem Line.returned_held (l : Line) {need : Nat} (h : need ≤ l.held) (keep : l.d = 0 → need ≤ blockNeed l.keep) :
    need ≤ l.returned.held := by
  unfold Line.returned Line.excess Line.held at *
  dsimp only
  rw [List.length_drop]
  split_ifs with empty
  · have := keep empty
    omega
  · omega

/-! ## Settling (R96) -/

theorem Device.any_positions_iff (d : Device) (n : Ix8) (test : Ix8 → Bool) :
    (d.prog n).record.positions.any test = true ↔
      ∃ m z, (d.prog n).record.members[m.val]? = some z ∧ test m = true := by
  rw [List.any_eq_true]
  exact ⟨fun ⟨m, there, h⟩ => (Record.mem_positions.1 there).elim fun z listed => ⟨m, z, listed, h⟩,
    fun ⟨m, z, listed, h⟩ => ⟨m, Record.mem_positions.2 ⟨z, listed⟩, h⟩⟩

theorem Device.any_positions_false_iff (d : Device) (n : Ix8) (test : Ix8 → Bool) :
    (d.prog n).record.positions.any test = false ↔
      ∀ m z, (d.prog n).record.members[m.val]? = some z → test m = false := by
  rw [← Bool.not_eq_true, d.any_positions_iff]
  simp only [not_exists, not_and, Bool.not_eq_true]

/-- Where every member holds its need and no request waits, each takes its target (R96). -/
theorem Device.settleBlocks_met {target : Line → Nat} (entry : d.hasEntry n = false)
    (met : ∀ m z, (d.prog n).record.members[m.val]? = some z → blockNeed (target (d.line n m)) ≤ (d.line n m).held) :
    d.settleBlocks n target = d.reline n fun _ _ l => { l with dNew := target l, clamped := false } := by
  have enough : ((d.prog n).record.positions.any fun m =>
      decide ((d.line n m).held < blockNeed (target (d.line n m)))) = false :=
    (d.any_positions_false_iff n _).2 fun m z listed => decide_eq_false (not_lt.2 (met m z listed))
  rw [Device.settleBlocks, enough, entry]
  exact d.mapLines_eq n _

theorem Device.anyClamped_eq_false_iff (d : Device) (n : Ix8) : d.anyClamped n = false ↔
    ∀ m z, (d.prog n).record.members[m.val]? = some z → (d.line n m).clamped = false :=
  d.any_positions_false_iff n _

theorem Device.changing_eq_false_iff (d : Device) (n : Ix8) : d.changing n = false ↔ (d.prog n).delay.fade = .none ∧
    ∀ m z, (d.prog n).record.members[m.val]? = some z → (d.line n m).change = .steady := by
  unfold Device.changing
  rw [Bool.or_eq_false_iff, d.any_positions_false_iff, bne_eq_false_iff_eq]
  simp only [bne_eq_false_iff_eq]

/-! ## The start of a change (R95, R97 to R99) -/

/-- A member's new length differs from its length. -/
def Device.differs (d : Device) (n : Ix8) : Prop :=
  ∃ m z, (d.prog n).record.members[m.val]? = some z ∧ (d.line n m).dNew ≠ (d.line n m).d

/-- A member or the delay target moves by more than 48. -/
def Device.far (d : Device) (n : Ix8) (host : Bool) : Prop :=
  (∃ m z, (d.prog n).record.members[m.val]? = some z ∧
      48 < max (d.line n m).dNew (d.line n m).d - min (d.line n m).dNew (d.line n m).d) ∨
    (host = true ∧ 48 < ((d.prog n).record.settings.delayTarget - (d.prog n).delay.tLines).natAbs)

/-- The part with T_lines at the delay target in force. -/
def Device.retarget (d : Device) (n : Ix8) : Device :=
  d.modDelay n fun y => { y with tLines := (d.prog n).record.settings.delayTarget }

theorem Device.startChange_eq (d : Device) (n : Ix8) (host : Bool) :
    (¬ d.differs n → d.startChange n host = (d.retarget n).judgeShort n) ∧
    (d.differs n → d.far n host → d.startChange n host = (d.retarget n).startFade n) ∧
    (d.differs n → ¬ d.far n host → d.startChange n host = (d.retarget n).mapLines n Line.startSlew) := by
  have differ : ((d.prog n).record.positions.any fun m => (d.line n m).dNew != (d.line n m).d) = true ↔ d.differs n := by
    rw [d.any_positions_iff]
    simp only [bne_iff_ne]
    rfl
  have far : (((d.prog n).record.positions.any fun m =>
        decide (48 < max (d.line n m).dNew (d.line n m).d - min (d.line n m).dNew (d.line n m).d)) ||
      (host && decide (48 < ((d.prog n).record.settings.delayTarget - (d.prog n).delay.tLines).natAbs))) = true ↔
      d.far n host := by
    rw [Bool.or_eq_true, d.any_positions_iff, Bool.and_eq_true, decide_eq_true_iff]
    simp only [decide_eq_true_iff]
    rfl
  unfold Device.startChange
  extract_lets x target differs isFar moved a
  refine ⟨fun no => if_neg (mt differ.1 no), fun yes away => ?_, fun yes near => ?_⟩
  · exact (if_pos (differ.2 yes)).trans (if_pos (far.2 away))
  · exact (if_pos (differ.2 yes)).trans (if_neg (mt far.1 near))

end Sys2Proof.Machine
end

section
/-!
SUPPORT. What the start of a change leaves of a programme, and what a recalculation does where its members hold the
blocks they need (R90, R95 to R99, R105).
-/

namespace Sys2Proof.Machine

variable {d e : Device} {n k m : Ix8} {z : Member}

/-! ## The lengths after the start of a change (R95, R97 to R99) -/

theorem Device.retarget_line (d : Device) (n m : Ix8) : (d.retarget n).line n m = d.line n m := by
  rw [Device.retarget, Device.line, Device.prog_modDelay_self]
  rfl

theorem Device.retarget_prog (d : Device) (n : Ix8) : (d.retarget n).prog n =
    { d.prog n with delay := { (d.prog n).delay with tLines := (d.prog n).record.settings.delayTarget } } :=
  d.prog_modDelay_self n _

theorem Device.retarget_other (d : Device) (h : k ≠ n) : (d.retarget n).prog k = d.prog k :=
  (d.prog_modProg n k _).trans (if_neg h.symm)

/-- A line at the start of a slew change, its lengths and blocks as they were (R98). -/
theorem Line.startSlew_eq (l : Line) : l.startSlew = { l with
    change := if l.d < l.dNew then .slewUp else if l.dNew < l.d then .slewDown else .steady
    remaining := max l.dNew l.d - min l.dNew l.d, slewCounter := 0 } := by
  unfold Line.startSlew
  split_ifs with up down
  · rw [max_eq_left (by omega), min_eq_right (by omega)]
  · rw [max_eq_right (by omega), min_eq_left (by omega)]
  · rw [show l.dNew = l.d by omega, max_self, min_self, Nat.sub_self]

/-- A line that a change has led from `old`, its lengths, its blocks and its marks but the change state kept. -/
structure Line.Led (old new : Line) : Prop where
  dReq : new.dReq = old.dReq
  dNew : new.dNew = old.dNew
  d : new.d = old.d
  inUse : new.inUse = old.inUse
  spare : new.spare = old.spare
  clamped : new.clamped = old.clamped
  underDelay : new.underDelay = old.underDelay

theorem Device.judgeShort_prog (d : Device) (n k : Ix8) : (d.judgeShort n).prog k = d.prog k := by
  unfold Device.judgeShort
  split_ifs <;> rfl

theorem Device.judgeShort_pool (d : Device) (n : Ix8) : (d.judgeShort n).pool = d.pool := by
  unfold Device.judgeShort
  split_ifs <;> rfl

theorem Device.judgeShort_inactive (d : Device) (n : Ix8) (clamped : d.anyClamped n = false) (entry : d.hasEntry n = false) :
    ((d.judgeShort n).alarms.get (.delayShort n)).active = false := by
  rw [Device.judgeShort, clamped, entry]
  exact AlarmUnit.deactivate_active _ _ _

theorem Device.retarget_anyClamped (d : Device) (n : Ix8) : (d.retarget n).anyClamped n = d.anyClamped n := by
  unfold Device.anyClamped
  simp only [d.retarget_line]
  rw [d.retarget_prog]

/-- What the start of a change leaves of the programme: its lengths and blocks, and the form of the change. -/
structure Device.Started (d e : Device) (n : Ix8) (host : Bool) : Prop where
  tLines : (e.prog n).delay.tLines = (d.prog n).record.settings.delayTarget
  pending : (e.prog n).delay.pending = (d.prog n).delay.pending
  gapLength : (e.prog n).delay.gapLength = (d.prog n).delay.gapLength
  led : ∀ m z, (d.prog n).record.members[m.val]? = some z → (d.line n m).Led (e.line n m)
  wait : d.differs n → d.far n host → ∀ m z, (d.prog n).record.members[m.val]? = some z → (e.line n m).change = .wait
  slew : d.differs n → ¬ d.far n host → ∀ m z, (d.prog n).record.members[m.val]? = some z →
    e.line n m = (d.line n m).startSlew
  rests : ¬ d.differs n → ∀ m z, (d.prog n).record.members[m.val]? = some z → e.line n m = d.line n m
  fades : d.differs n → d.far n host → (e.prog n).delay.fade = .fadeOut ∧ (e.prog n).delay.fadeStep = 0
  stays : ¬ (d.differs n ∧ d.far n host) → (e.prog n).delay.fade = (d.prog n).delay.fade ∧
    (e.prog n).delay.fadeStep = (d.prog n).delay.fadeStep
  pool : e.pool = d.pool
  others : ∀ k, k ≠ n → e.prog k = d.prog k
  silent : d.differs n → e.alarms = d.alarms
  judged : ¬ d.differs n → d.anyClamped n = false → d.hasEntry n = false →
    (e.alarms.get (.delayShort n)).active = false

theorem Line.Led.refl (l : Line) : l.Led l := ⟨rfl, rfl, rfl, rfl, rfl, rfl, rfl⟩

theorem Device.startChange_started (d : Device) (n : Ix8) (host : Bool) : d.Started (d.startChange n host) n host := by
  obtain ⟨rest, fade, slew⟩ := d.startChange_eq n host
  have target := d.retarget_prog n
  by_cases differs : d.differs n
  · by_cases far : d.far n host
    · rw [fade differs far, Device.startFade, Device.mapLines_eq]
      have delay := (d.retarget n).reline_delay n fun _ _ l => { l with change := .wait }
      have line {m z} (listed : (d.prog n).record.members[m.val]? = some z) :=
        (d.retarget n).reline_line_listed n (fun _ _ l => { l with change := .wait }) (m := m) (z := z)
          (by rw [target]; exact listed)
      have other (k) (h : k ≠ n) := ((d.retarget n).reline_other n (fun _ _ l => { l with change := .wait }) h).trans (d.retarget_other h)
      generalize pool : (d.retarget n).reline n (fun _ _ l => { l with change := .wait }) = e at *
      have last := e.prog_modDelay_self n fun x => { x with fade := .fadeOut, fadeStep := 0 }
      have lastLine (m) : (e.modDelay n fun x => { x with fade := .fadeOut, fadeStep := 0 }).line n m = e.line n m := by
        rw [Device.line, last]
        rfl
      rw [target] at delay
      refine ⟨?_, ?_, ?_, fun m z listed => ?_, fun _ _ m z listed => ?_, fun _ h => absurd far h,
        fun h => absurd differs h, fun _ _ => ?_, fun h => absurd ⟨differs, far⟩ h, ?_, fun k h => ?_, fun _ => ?_,
        fun h => absurd differs h⟩
      · rw [last, delay]
      · rw [last, delay]
      · rw [last, delay]
      · rw [lastLine, line listed, d.retarget_line]
        exact ⟨rfl, rfl, rfl, rfl, rfl, rfl, rfl⟩
      · rw [lastLine, line listed]
      · rw [last]
        exact ⟨rfl, rfl⟩
      · rw [← pool]
        rfl
      · exact ((e.prog_modProg n k _).trans (if_neg h.symm)).trans (other k h)
      · rw [← pool]
        rfl
    · rw [slew differs far, Device.mapLines_eq]
      have delay := (d.retarget n).reline_delay n fun _ _ => Line.startSlew
      have line {m z} (listed : (d.prog n).record.members[m.val]? = some z) :=
        ((d.retarget n).reline_line_listed n (fun _ _ => Line.startSlew) (m := m) (z := z)
          (by rw [target]; exact listed)).trans (congrArg Line.startSlew (d.retarget_line n m))
      have other (k) (h : k ≠ n) := ((d.retarget n).reline_other n (fun _ _ => Line.startSlew) h).trans (d.retarget_other h)
      rw [target] at delay
      refine ⟨?_, ?_, ?_, fun m z listed => ?_, fun _ h => absurd h far, fun _ _ m z listed => line listed,
        fun h => absurd differs h, fun _ h => absurd h far, fun _ => ?_, rfl, other, fun _ => rfl, fun h => absurd differs h⟩
      · rw [delay]
      · rw [delay]
      · rw [delay]
      · rw [line listed, Line.startSlew_eq]
        exact ⟨rfl, rfl, rfl, rfl, rfl, rfl, rfl⟩
      · rw [delay]
        exact ⟨rfl, rfl⟩
  · rw [rest differs]
    have prog := ((d.retarget n).judgeShort_prog n n).trans target
    have line (m) : ((d.retarget n).judgeShort n).line n m = d.line n m := by
      rw [Device.line, prog]
      rfl
    refine ⟨by rw [prog], by rw [prog], by rw [prog], fun m z _ => line m ▸ .refl _, fun h => absurd h differs,
      fun h => absurd h differs, fun _ m z _ => line m, fun h => absurd h differs, fun _ => by rw [prog]; exact ⟨rfl, rfl⟩,
      (d.retarget n).judgeShort_pool n, fun k h => ((d.retarget n).judgeShort_prog n k).trans (d.retarget_other h),
      fun h => absurd h differs, fun _ clamped entry => ?_⟩
    exact (d.retarget n).judgeShort_inactive n ((d.retarget_anyClamped n).trans clamped) entry

end Sys2Proof.Machine
end

section
/-!
SUPPORT. A recalculation where its programme's members hold the blocks they need (R90, R92, R95 to R99, R105).
-/

namespace Sys2Proof.Machine

variable {d e : Device} {n k m : Ix8} {z : Member} {mode : RecalcMode} {host : Bool}

/-! ## Required lengths and block needs (R77, R90, R95) -/

theorem requiredLength_eq (target : Int) (lc : Nat) :
    requiredLength target lc = (max 0 (min 480000 (target - lc - 24))).toNat := by
  rw [requiredLength, clampInt_eq (by decide)]

theorem needOf_eq_blockNeed (length : Nat) : needOf length = blockNeed length := rfl

theorem blockNeed_mono {a b : Nat} (h : a ≤ b) : blockNeed a ≤ blockNeed b := by
  unfold blockNeed
  split_ifs <;> omega

/-- A line with its required length and its mark computed for a member (R90). -/
theorem Device.require_eq (d : Device) (n : Ix8) (z : Member) (l : Line) :
    l.require (d.prog n).record.settings.delayTarget (d.latencyOf n z) =
      { l with
        dReq := d.requiredOf n z
        underDelay := decide ((d.prog n).record.settings.delayTarget <
          ((d.port (z.on (d.prog n).ctx.selection).port).conv.lc : Int) + 24) } := by
  rw [Line.require, requiredLength_eq, Device.requiredOf, Device.required, Member.on_eq]
  rfl

theorem Line.targetOf_eq (l : Line) : l.targetOf mode = aimed mode l.dReq l.d := by cases mode <;> rfl

/-- An empty line's target under any mode is no longer than its required length. -/
theorem aimed_le_of_empty (mode : RecalcMode) (required : Nat) : aimed mode required 0 ≤ required := by
  cases mode
  · exact le_refl _
  · unfold aimed
    dsimp only
    split_ifs
    · exact le_refl _
    · exact Nat.zero_le _

/-! ## The settled part -/

/-- What the return of excess and the settling of the lengths leave where every member holds its need. -/
structure Device.Settled (d c : Device) (n : Ix8) (mode : RecalcMode) : Prop where
  engine : d.EngineOnly c
  alarms : c.alarms = d.alarms
  entry : c.hasEntry n = false
  delay : (c.prog n).delay = { (d.prog n).delay with lines := (c.prog n).delay.lines }
  line : ∀ m z, (d.prog n).record.members[m.val]? = some z → c.line n m = { d.line n m with
    dReq := d.requiredOf n z, spare := (c.line n m).spare, clamped := false
    dNew := aimed mode (d.requiredOf n z) (d.line n m).d
    underDelay := decide ((d.prog n).record.settings.delayTarget <
      ((d.port (z.on (d.prog n).ctx.selection).port).conv.lc : Int) + 24) }
  idle : d.pool.queue = [] → (∃ free, c.pool = { d.pool with free := free }) ∧ ∀ k, k ≠ n → c.prog k = d.prog k

theorem Device.requireAll_line (d : Device) (n : Ix8) (listed : (d.prog n).record.members[m.val]? = some z) :
    (d.requireAll n).line n m = { d.line n m with
      dReq := d.requiredOf n z
      underDelay := decide ((d.prog n).record.settings.delayTarget <
        ((d.port (z.on (d.prog n).ctx.selection).port).conv.lc : Int) + 24) } := by
  rw [Device.requireAll_eq, Device.reline_line_listed _ _ _ listed, Device.require_eq]

/-- A recalculation of a programme at rest whose members hold their needs: the settled part, and the start of a
change. -/
theorem Device.recalculate_met (met : d.meets n mode) (still : d.changing n = false) (host : Bool) :
    ∃ c, d.recalculate n mode host = c.startChange n host ∧ d.Settled c n mode := by
  obtain ⟨entry, -, needs⟩ := met
  obtain ⟨-, steady⟩ := (d.changing_eq_false_iff n).1 still
  have aEngine := d.requireAll_engine n
  have aLine (m : Ix8) (z : Member) (listed : (d.prog n).record.members[m.val]? = some z) := d.requireAll_line n listed
  have aEq := d.requireAll_eq n
  have aDelay := d.reline_delay n fun _ z l => l.require (d.prog n).record.settings.delayTarget (d.latencyOf n z)
  have aOther (k : Ix8) := d.reline_other (k := k) n fun _ z l => l.require (d.prog n).record.settings.delayTarget (d.latencyOf n z)
  have aRest : (d.requireAll n).alarms = d.alarms ∧ (d.requireAll n).pool = d.pool := by rw [aEq]; exact ⟨rfl, rfl⟩
  rw [← aEq] at aDelay aOther
  have run : d.recalculate n mode host =
      ((((d.requireAll n).returnExcess n).settleBlocks n fun l => l.targetOf mode).reportShort n).startChange n host := rfl
  rw [run]
  generalize d.requireAll n = a at *
  have aRecord := aEngine.record n
  obtain ⟨bEngine, bAlarms, bEntry, bProg, bIdle⟩ :=
    Device.returnExcess_own (d := a) (n := n) (by rw [Device.hasEntry, aRest.2]; exact entry)
  have bDelay := a.reline_delay n fun _ _ => Line.returned
  have bLine (m : Ix8) (z : Member) (listed : (d.prog n).record.members[m.val]? = some z) :=
    (congrArg (fun x : Programme => x.delay.lines.get m) bProg).trans
      (a.reline_line_listed n (fun _ _ => Line.returned) (by rw [aRecord]; exact listed))
  have bOther (k : Ix8) (h : k ≠ n) := a.reline_other n (fun _ _ => Line.returned) h
  have bRecord := (bEngine.record n).trans aRecord
  rw [← bProg] at bDelay
  have bRest : a.pool.queue = [] → (∃ free, (a.returnExcess n).pool = { a.pool with free := free }) ∧
      ∀ k, k ≠ n → (a.returnExcess n).prog k = a.prog k := fun idle => by
    obtain ⟨free, run⟩ := bIdle idle
    rw [run]
    exact ⟨⟨free, rfl⟩, bOther⟩
  generalize a.returnExcess n = b at *
  have bound (m : Ix8) (z : Member) (listed : (d.prog n).record.members[m.val]? = some z) : b.line n m = { d.line n m with
      dReq := d.requiredOf n z, spare := (b.line n m).spare
      underDelay := decide ((d.prog n).record.settings.delayTarget <
        ((d.port (z.on (d.prog n).ctx.selection).port).conv.lc : Int) + 24) } :=
    (bLine m z listed).trans (by
      rw [show b.line n m = (a.line n m).returned from bLine m z listed, aLine m z listed]
      rfl)
  have enough : ∀ m z, (b.prog n).record.members[m.val]? = some z →
      blockNeed ((b.line n m).targetOf mode) ≤ (b.line n m).held := by
    intro m z listed
    rw [bRecord] at listed
    have target : (b.line n m).targetOf mode = aimed mode (d.requiredOf n z) (d.line n m).d := by
      rw [Line.targetOf_eq, bound m z listed]
    rw [target, show b.line n m = (a.line n m).returned from bLine m z listed, aLine m z listed]
    refine Line.returned_held _ (needs m z listed) fun empty => ?_
    have empty : (d.line n m).d = 0 := empty
    have short : aimed mode (d.requiredOf n z) (d.line n m).d ≤ d.requiredOf n z := by
      rw [empty]
      exact aimed_le_of_empty mode _
    exact blockNeed_mono (short.trans ((le_max_right _ _).trans (le_max_left _ _)))
  rw [Device.settleBlocks_met bEntry enough]
  have cDelay := b.reline_delay n fun _ _ l => { l with dNew := l.targetOf mode, clamped := false }
  have cEngine := b.reline_engine n fun _ _ l => { l with dNew := l.targetOf mode, clamped := false }
  have cLine (m : Ix8) (z : Member) (listed : (d.prog n).record.members[m.val]? = some z) :=
    b.reline_line_listed n (fun _ _ l => { l with dNew := l.targetOf mode, clamped := false }) (m := m) (z := z)
      (by rw [bRecord]; exact listed)
  have cOther (k : Ix8) (h : k ≠ n) := b.reline_other n (fun _ _ l => { l with dNew := l.targetOf mode, clamped := false }) h
  have cRest : (b.reline n fun _ _ l => { l with dNew := l.targetOf mode, clamped := false }).alarms = b.alarms ∧
    (b.reline n fun _ _ l => { l with dNew := l.targetOf mode, clamped := false }).pool = b.pool := ⟨rfl, rfl⟩
  generalize b.reline n (fun _ _ l => { l with dNew := l.targetOf mode, clamped := false }) = c at *
  have unclamped : c.anyClamped n = false := (c.anyClamped_eq_false_iff n).2 fun m z listed => by
    rw [cLine m z (by rw [cEngine.record n, bRecord] at listed; exact listed)]
  refine ⟨c, by rw [Device.reportShort, unclamped]; rfl, (aEngine.trans bEngine).trans cEngine,
    cRest.1.trans (bAlarms.trans aRest.1), by rw [Device.hasEntry, cRest.2]; exact bEntry, by rw [cDelay, bDelay, aDelay],
    fun m z listed => ?_, fun idle => ?_⟩
  · rw [cLine m z listed, Line.targetOf_eq, bound m z listed]
  · obtain ⟨⟨free, pool⟩, others⟩ := bRest (by rw [aRest.2]; exact idle)
    exact ⟨⟨free, by rw [cRest.2, pool, aRest.2]⟩, fun k h => (cOther k h).trans ((others k h).trans (aOther k h))⟩

/-! ## What a recalculation leaves -/

theorem max_sub_min_eq_zero {a b : Nat} : max a b - min a b ≠ 0 ↔ a ≠ b := by omega

/-- A recalculation of a programme at rest whose members hold their needs leaves what R95 says. -/
theorem Device.recalculate_recalculated (met : d.meets n mode) (still : d.changing n = false) (host : Bool) :
    d.recalculated (d.recalculate n mode host) n mode host := by
  obtain ⟨c, run, settled⟩ := Device.recalculate_met met still host
  obtain ⟨fade, steady⟩ := (d.changing_eq_false_iff n).1 still
  have started := c.startChange_started n host
  rw [← run] at started
  have record := settled.engine.record n
  have listedIff (m : Ix8) (z : Member) : (c.prog n).record.members[m.val]? = some z ↔ (d.prog n).record.members[m.val]? = some z := by
    rw [record]
  have new (m : Ix8) (z : Member) (listed : (d.prog n).record.members[m.val]? = some z) :
      (c.line n m).dNew = aimed mode (d.requiredOf n z) (d.line n m).d ∧ (c.line n m).d = (d.line n m).d := by
    rw [settled.line m z listed]
    exact ⟨rfl, rfl⟩
  unfold Device.recalculated
  intro x y target aim moves listed differs far
  have differsIff : c.differs n ↔ differs := by
    refine exists_congr fun m => exists_congr fun z => ?_
    rw [listedIff]
    refine and_congr_right fun there => ?_
    rw [(new m z there).1, (new m z there).2]
    exact max_sub_min_eq_zero.symm
  have farIff : c.far n host ↔ far := by
    unfold Device.far
    rw [record, settled.delay]
    refine or_congr_left (exists_congr fun m => exists_congr fun z => and_congr_right fun there => ?_)
    rw [(new m z there).1, (new m z there).2]
  have unclamped : c.anyClamped n = false := (c.anyClamped_eq_false_iff n).2 fun m z there => by
    rw [settled.line m z ((listedIff m z).1 there)]
  refine ⟨?_, ?_, ?_, fun m z there => ?_, fun yes away => started.fades (differsIff.2 yes) (farIff.2 away),
    fun no => ?_, fun no => started.judged (mt differsIff.1 no) unclamped settled.entry,
    fun yes => (congrArg (fun u : AlarmUnit => u.get _) (started.silent (differsIff.2 yes))).trans
      (congrArg (fun u : AlarmUnit => u.get _) settled.alarms)⟩
  · rw [started.tLines, record]
  · rw [started.pending, settled.delay]
  · rw [started.gapLength, settled.delay]
  · have led := started.led m z ((listedIff m z).2 there)
    have line := settled.line m z there
    refine ⟨?_, ?_, ?_, ?_, ?_, ?_, fun yes away => started.wait (differsIff.2 yes) (farIff.2 away) m z
      ((listedIff m z).2 there), fun yes near => ?_, fun no => ?_⟩
    · rw [led.dReq, line]
    · rw [led.dNew, line]
    · rw [led.d, line]
    · rw [led.inUse, line]
    · rw [led.clamped, line]
    · rw [led.underDelay, line]
      exact decide_eq_true_iff
    · rw [started.slew (differsIff.2 yes) (mt farIff.1 near) m z ((listedIff m z).2 there), Line.startSlew_eq,
        (new m z there).1, (new m z there).2]
      exact ⟨rfl, rfl, rfl⟩
    · rw [started.rests (mt differsIff.1 no) m z ((listedIff m z).2 there), line]
      exact steady m z there
  · obtain ⟨same, step⟩ := started.stays fun ⟨yes, away⟩ => no ⟨differsIff.1 yes, farIff.1 away⟩
    rw [same, step, settled.delay]
    exact ⟨fade, rfl⟩

end Sys2Proof.Machine
end

section
/-!
PROOF. The two ends of a programme fade (R99 to R101, R103, R105).
-/

namespace Sys2Proof.Machine

variable {d e f : Device} {s : State} {n k m : Ix8} {z : Member}

/-! ## What a hand-back leaves of the lines (R83, R85) -/

/-- No line differs in anything but its spares. -/
def Device.SparesOnly (d e : Device) : Prop := ∀ n m, e.line n m = { d.line n m with spare := (e.line n m).spare }

theorem Device.SparesOnly.refl (d : Device) : d.SparesOnly d := fun _ _ => rfl

theorem Device.SparesOnly.trans (h : d.SparesOnly e) (k : e.SparesOnly f) : d.SparesOnly f := fun n m => by rw [k n m, h n m]

theorem shareOut_spares (l : List (Ix8 × Nat)) (blocks : List Nat) (lines : Oct Line) (m : Ix8) :
    (shareOut l blocks lines).lines.get m = { lines.get m with spare := ((shareOut l blocks lines).lines.get m).spare } := by
  induction l generalizing blocks lines with
  | nil => rfl
  | cons x l ih =>
    unfold shareOut
    dsimp only
    rw [ih, Oct.get_set]
    split_ifs with same
    · rw [same]
    · rfl

theorem Device.grantHead_spares (d : Device) (own : Option Ix8) (x : PoolEntry) : d.SparesOnly (d.grantHead own x) := by
  intro k m
  have lines (ls : Oct Line) (h : ∀ m, ls.get m = { (d.prog x.prog).delay.lines.get m with spare := (ls.get m).spare }) :
      (d.withLines x.prog ls).line k m = { d.line k m with spare := ((d.withLines x.prog ls).line k m).spare } := by
    by_cases same : k = x.prog
    · rw [same, d.withLines_line]
      exact h m
    · rw [Device.line, d.withLines_other same]
      rfl
  exact lines _ (shareOut_spares _ _ _)

theorem Device.grantLoop_spares (own : Option Ix8) (fuel : Nat) (d : Device) : d.SparesOnly (Device.grantLoop own fuel d) := by
  induction fuel generalizing d with
  | zero => exact .refl d
  | succ fuel ih =>
    unfold Device.grantLoop
    split
    · exact .refl d
    · split
      · exact (d.grantHead_spares own _).trans (ih _)
      · exact .refl d

theorem Device.handBack_spares (d : Device) (blocks : List Nat) : d.SparesOnly (d.handBack blocks) := by
  unfold Device.handBack
  split_ifs
  · exact .refl d
  · exact Device.grantLoop_spares _ _ _

theorem Device.handBack_delay (d : Device) (blocks : List Nat) (k : Ix8) :
    ((d.handBack blocks).prog k).delay = { (d.prog k).delay with lines := ((d.handBack blocks).prog k).delay.lines } := by
  unfold Device.handBack
  split_ifs
  · rfl
  · exact ((d.modPool _).grantTest_granted _).delay k

/-! ## Samples removed from a line (R92) -/

theorem Line.judgeEmptied_eq (l : Line) (blocks : List Nat) :
    (l.judgeEmptied blocks).1 = { l with spare := (l.judgeEmptied blocks).1.spare } := by
  induction blocks generalizing l with
  | nil => rfl
  | cons b rest ih =>
    rw [Line.judgeEmptied]
    split_ifs
    · exact ih l
    · rw [ih]

/-- A discard shortens the line, and changes nothing but its place in its blocks. -/
theorem Line.discard_eq (l : Line) (c : Nat) : (l.discard c).1 = { l with
    d := l.d - c, inUse := (l.discard c).1.inUse, headPos := (l.discard c).1.headPos, spare := (l.discard c).1.spare
    headIndex := l.headIndex + BitVec.ofNat 48 c } := by
  unfold Line.discard
  dsimp only
  rw [Line.judgeEmptied_eq]
  rfl

/-! ## The entry into GAP (R100) -/

/-- A member's line at the entry into GAP: shortened to its new length, or frozen for what it has to grow. -/
structure Line.Gapped (old new : Line) : Prop where
  d : new.d = min old.d old.dNew
  freeze : new.freeze = old.dNew - old.d
  dNew : new.dNew = old.dNew

theorem Device.gapMember_line (d : Device) (n m : Ix8) : (d.line n m).Gapped ((d.gapMember n m).line n m) ∧
    ∀ k, k ≠ m → (d.gapMember n m).line n k = { d.line n k with spare := ((d.gapMember n m).line n k).spare } := by
  have lines (l : Line) (k : Ix8) : (d.modLine n m fun _ => l).line n k = if m = k then l else d.line n k := by
    rw [Device.modLine_eq, d.withLines_line, Oct.get_set]
    rfl
  unfold Device.gapMember
  extract_lets l r
  split_ifs with shrinks
  · have spares := (d.modLine n m fun _ => { r.1 with freeze := 0 }).handBack_spares r.2
    refine ⟨?_, fun k other => ?_⟩
    · rw [spares n m, lines, if_pos rfl, show r.1 = _ from l.discard_eq _]
      refine ⟨?_, ?_, rfl⟩
      · change l.d - (l.d - l.dNew) = min l.d l.dNew
        omega
      · change 0 = l.dNew - l.d
        omega
    · rw [spares n k, lines, if_neg other.symm]
  · have grown : d.modLine n m (fun k => { k with freeze := k.dNew - k.d }) =
      d.modLine n m fun _ => { l with freeze := l.dNew - l.d } := rfl
    rw [grown]
    refine ⟨?_, fun k other => ?_⟩
    · rw [lines, if_pos rfl]
      exact ⟨by change l.d = min l.d l.dNew; omega, rfl, rfl⟩
    · rw [lines, if_neg other.symm]

theorem Device.gapMember_frame (d : Device) (n m : Ix8) : (d.gapMember n m).alarms = d.alarms ∧
    ((d.gapMember n m).prog n).delay = { (d.prog n).delay with lines := ((d.gapMember n m).prog n).delay.lines } := by
  unfold Device.gapMember
  extract_lets l r
  split_ifs
  · refine ⟨((d.modLine n m fun _ => { r.1 with freeze := 0 }).handBack_granted (n := n) r.2).2.1, ?_⟩
    rw [Device.handBack_delay, Device.modLine_eq, d.withLines_prog]
  · refine ⟨rfl, ?_⟩
    rw [Device.modLine_eq, d.withLines_prog]

theorem Device.foldl_gapMember (l : List Ix8) (nodup : l.Nodup) (d : Device) :
    let e := l.foldl (fun e m => e.gapMember n m) d
    e.alarms = d.alarms ∧ (e.prog n).delay = { (d.prog n).delay with lines := (e.prog n).delay.lines } ∧
      (∀ m ∈ l, (d.line n m).Gapped (e.line n m)) ∧
      ∀ m ∉ l, e.line n m = { d.line n m with spare := (e.line n m).spare } := by
  induction l generalizing d with
  | nil => exact ⟨rfl, rfl, nofun, fun _ _ => rfl⟩
  | cons m l ih =>
    obtain ⟨new, nodup⟩ := List.nodup_cons.1 nodup
    obtain ⟨alarms, delay⟩ := d.gapMember_frame n m
    obtain ⟨gapped, spares⟩ := d.gapMember_line n m
    obtain ⟨alarms', delay', gapped', spares'⟩ := ih nodup (d.gapMember n m)
    refine ⟨alarms'.trans alarms, by rw [List.foldl_cons, delay', delay], fun k there => ?_, fun k absent => ?_⟩
    · rw [List.foldl_cons]
      rcases List.mem_cons.1 there with rfl | later
      · rw [spares' k new]
        exact ⟨gapped.d, gapped.freeze, gapped.dNew⟩
      · have g := gapped' k later
        rw [spares k fun same => new (same ▸ later)] at g
        exact ⟨g.d, g.freeze, g.dNew⟩
    · rw [List.mem_cons, not_or] at absent
      rw [List.foldl_cons, spares' k absent.2, spares k absent.1]

/-- The entry into GAP, or into FADE_IN where no member grows. -/
theorem Device.enterGap_spec (d : Device) (n : Ix8) :
    let gap := ((d.prog n).record.positions.map fun m => (d.line n m).dNew - (d.line n m).d).foldl max 0
    ((d.enterGap n).prog n).delay.fade = (if gap = 0 then .fadeIn else .gap) ∧
      ((d.enterGap n).prog n).delay.fadeStep = 0 ∧ ((d.enterGap n).prog n).delay.gapLength = gap ∧
      (∀ m ∈ (d.prog n).record.positions,
        (d.line n m).Gapped ((d.enterGap n).line n m) ∧ ((d.enterGap n).line n m).change = .wait) ∧
      (d.enterGap n).alarms = d.alarms := by
  have engine := Device.EngineOnly.foldl (d.prog n).record.positions (fun m _ e => e.gapMember_engine n m) d
  obtain ⟨alarms, delay, gapped, -⟩ := Device.foldl_gapMember (n := n) _ (d.prog n).record.positions_nodup d
  unfold Device.enterGap
  extract_lets gap e g f
  change d.EngineOnly e at engine
  have record := engine.record n
  have same : g = gap := by
    change ((e.prog n).record.positions.map fun m => (e.line n m).freeze).foldl max 0 = gap
    rw [record, List.map_congr_left fun m there => (gapped m there).freeze]
  have waits := e.mapLines_eq n fun l => { l with change := .wait }
  have whole : f.prog n = { (e.mapLines n fun l => { l with change := .wait }).prog n with
      delay := { ((e.mapLines n fun l => { l with change := .wait }).prog n).delay with
        fade := .gap, fadeStep := 0, gapLength := g } } := Device.prog_modDelay_self _ n _
  have line {m : Ix8} (there : m ∈ (d.prog n).record.positions) :
      f.line n m = { e.line n m with change := .wait } := by
    obtain ⟨z, listed⟩ := Record.mem_positions.1 there
    rw [← e.reline_line_listed n (fun _ _ l => { l with change := .wait }) (m := m) (z := z) (by rw [record]; exact listed),
      ← waits]
    exact (congrArg (fun x : Programme => x.delay.lines.get m) whole).trans rfl
  have last := congrArg Programme.delay whole
  have fAlarms : f.alarms = d.alarms := by
    change (e.mapLines n fun l => { l with change := .wait }).alarms = _
    rw [waits]
    exact alarms
  have lined (m : Ix8) (there : m ∈ (d.prog n).record.positions) :
      (d.line n m).Gapped (f.line n m) ∧ (f.line n m).change = .wait := by
    rw [line there]
    exact ⟨⟨(gapped m there).d, (gapped m there).freeze, (gapped m there).dNew⟩, rfl⟩
  rw [same] at last
  rw [if_congr (iff_of_eq (congrArg (· = 0) same)) rfl rfl]
  generalize f = f' at *
  split_ifs with none
  · have enter : (f'.enterFadeIn n).prog n = { f'.prog n with delay := { (f'.prog n).delay with fade := .fadeIn, fadeStep := 0 } } :=
      Device.prog_modDelay_self _ n _
    refine ⟨by rw [enter], by rw [enter], by rw [enter, last], fun m there => ?_, fAlarms⟩
    rw [show (f'.enterFadeIn n).line n m = f'.line n m from
      (congrArg (fun x : Programme => x.delay.lines.get m) enter).trans rfl]
    exact lined m there
  · exact ⟨by rw [last], by rw [last], by rw [last], lined, fAlarms⟩

/-! ## The end of FADE_IN (R101, R103, R105) -/

/-- The part with every listed line of a programme STEADY and its fade over. -/
def Device.fadedIn (d : Device) (n : Ix8) : Device :=
  (d.mapLines n fun l => { l with change := .steady, freeze := 0 }).modDelay n fun x =>
    { x with fade := .none, fadeStep := 0, gapLength := 0 }

theorem Device.fadedIn_prog (d : Device) (n : Ix8) : (d.fadedIn n).prog n =
    { d.prog n with delay := { (d.prog n).delay with
      fade := .none, fadeStep := 0, gapLength := 0
      lines := Oct.ofFn fun m => if m.val < (d.prog n).record.members.length then
        { d.line n m with change := .steady, freeze := 0 } else d.line n m } } := by
  rw [Device.fadedIn, Device.prog_modDelay_self, Device.mapLines_eq, Device.reline, d.withLines_prog]
  refine congrArg (fun ls => ({ d.prog n with delay := { (d.prog n).delay with
    fade := .none, fadeStep := 0, gapLength := 0, lines := ls } } : Programme)) (Oct.ext_get fun m => ?_)
  rw [Oct.get_ofFn, Oct.get_ofFn]
  split_ifs with short
  · rw [List.getElem?_eq_getElem short]
    rfl
  · rw [List.getElem?_eq_none (by omega)]
    rfl

/-- One programme alone has changed. -/
def Device.ProgOnly (d e : Device) (n : Ix8) : Prop := e = { d with progs := d.progs.set n (e.prog n) }

theorem Device.modProg_progOnly (d : Device) (n : Ix8) (f : Programme → Programme) : d.ProgOnly (d.modProg n f) n := by
  rw [Device.ProgOnly, Device.prog_modProg_self]
  rfl

theorem Device.ProgOnly.trans (h : d.ProgOnly e n) (k : e.ProgOnly f n) : d.ProgOnly f n := by
  rw [Device.ProgOnly] at *
  rw [k, h]
  simp only [Oct.set_set, Device.prog, Oct.get_set_self]

theorem Device.fadedIn_progOnly (d : Device) (n : Ix8) : d.ProgOnly (d.fadedIn n) n := by
  rw [Device.fadedIn, Device.mapLines_eq]
  exact Device.ProgOnly.trans (d.modProg_progOnly n _) (Device.modProg_progOnly _ n _)

/-- Settles O51: FADE_OUT ends in GAP or FADE_IN, and FADE_IN in the end of the change. -/
theorem programmeFadeChangesTheLengths : Obligations.ProgrammeFadeChangesTheLengths := by
  intro s n calm x grow gap
  have ends : exec (.fadeInEnd n) s = .next { s with dev := s.dev.fadeInEnd n } :=
    State.prompt_calm calm fun d => d.fadeInEnd n
  have faded (fade : x.delay.fade = .fadeIn) (full : x.delay.fadeStep = 240) :
      s.dev.fadeInEnd n = (s.dev.fadedIn n).changeEnded n := if_pos ⟨fade, full⟩
  have prog := s.dev.fadedIn_prog n
  have only := s.dev.fadedIn_progOnly n
  refine ⟨fun fade full => ?_, fun fade full active none => ?_, fun fade full active p pending => ?_⟩
  · have run : s.dev.fadeOutEnd n = s.dev.enterGap n := if_pos ⟨fade, full⟩
    obtain ⟨phase, step, length, lines, alarms⟩ := s.dev.enterGap_spec n
    have engine := s.dev.enterGap_engine n
    refine ⟨s.dev.enterGap n, run ▸ State.prompt_calm calm fun d => d.fadeOutEnd n, phase, step, length,
      engine.record n, by rw [engine.prog n], fun m there => ?_, engine.time, engine.ports, engine.mem, engine.map,
      alarms, engine.link⟩
    obtain ⟨gapped, waits⟩ := lines m there
    exact ⟨gapped.d, gapped.freeze, gapped.dNew, waits⟩
  · refine ⟨_, ends, ?_⟩
    rw [faded fade full]
    generalize s.dev.fadedIn n = e at *
    have still : e.changeEnded n = e.judgeShort n := by
      rw [Device.changeEnded, if_pos (by rw [Device.active_iff, prog]; exact active), prog]
      simp only [show (s.dev.prog n).delay.pending = .none from none]
    have judged := e.judgeShort_engine n
    have same := e.judgeShort_prog n n
    have line (m : Ix8) (there : m ∈ x.record.positions) :
        e.line n m = { s.dev.line n m with change := .steady, freeze := 0 } := by
      rw [Device.line, prog]
      exact (Oct.get_ofFn _ _).trans (if_pos (Record.mem_positions_iff_lt.1 there))
    rw [still, same, prog]
    refine ⟨rfl, rfl, rfl, fun m there => ?_, fun unclamped entry => e.judgeShort_inactive n ?_ ?_, ?_, rfl, rfl,
      ?_, ?_, ?_, ?_, ?_⟩
    · rw [Device.line, same]
      exact line m there
    · refine (e.anyClamped_eq_false_iff n).2 fun m z listed => ?_
      rw [prog] at listed
      have there : m ∈ x.record.positions := Record.mem_positions.2 ⟨z, listed⟩
      rw [line m there]
      exact unclamped m there
    · rw [Device.hasEntry, only]
      exact entry
    · rw [e.judgeShort_pool, only]
    · rw [judged.time, only]
    · rw [judged.ports, only]
    · rw [judged.mem, only]
    · rw [judged.map, only]
    · rw [judged.link, only]
  · intro settled ended meets
    have run : (s.dev.fadedIn n).changeEnded n = ended.recalculate n p.mode p.host := by
      generalize s.dev.fadedIn n = e at *
      rw [Device.changeEnded, if_pos (by rw [Device.active_iff, prog]; exact active), prog]
      simp only [show (s.dev.prog n).delay.pending = some p from pending]
      have frame : e.modDelay n (fun y => { y with pending := .none }) = ended := by
        have both : s.dev.ProgOnly (e.modDelay n fun y => { y with pending := .none }) n :=
          Device.ProgOnly.trans only (e.modProg_progOnly n _)
        rw [Device.ProgOnly, Device.prog_modDelay_self, prog] at both
        exact both
      exact congrArg (fun y : Device => y.recalculate n p.mode p.host) frame
    refine ⟨ended.recalculate n p.mode p.host, by rw [ends, faded fade full, run], ?_⟩
    refine Device.recalculate_recalculated meets ((ended.changing_eq_false_iff n).2 ?_) p.host
    have own : ended.prog n = { x with delay := settled } := Oct.get_set_self _ _ _
    rw [own]
    refine ⟨rfl, fun m z listed => ?_⟩
    rw [Device.line, own]
    have short : m.val < x.record.members.length := (List.getElem?_eq_some_iff.1 listed).1
    change Line.change ((Oct.ofFn _).get m) = _
    rw [Oct.get_ofFn, if_pos short]

end Sys2Proof.Machine
end

section
/-!
PROOF. Slew actions and the ends of freezes, gaps and ramps (R98, R100, R103, R134, R135).
-/

namespace Sys2Proof.Machine

variable {d e : Device} {s : State} {n k m : Ix8} {z : Member}

/-! ## One line written -/

/-- The part with one line as given. -/
abbrev Device.putLine (d : Device) (n m : Ix8) (l : Line) : Device := d.withLines n ((d.prog n).delay.lines.set m l)

theorem Device.putLine_line (d : Device) (n m k : Ix8) (l : Line) :
    (d.putLine n m l).line n k = if m = k then l else d.line n k := by
  rw [d.withLines_line, Oct.get_set]
  rfl

theorem Device.putLine_putLine (d : Device) (n m : Ix8) (l l' : Line) : (d.putLine n m l).putLine n m l' = d.putLine n m l' := by
  rw [Device.putLine, Device.withLines_prog]
  dsimp only
  rw [d.withLines_withLines, Oct.set_set]

/-! ## Slew actions (R98) -/

/-- A removal that ends within the head block empties none. -/
theorem Line.discard_within (l : Line) {c : Nat} (rest : c < l.d) (within : l.headPos + c < 1024) :
    l.discard c =
      ({ l with d := l.d - c, headPos := l.headPos + c, headIndex := l.headIndex + BitVec.ofNat 48 c }, []) := by
  have some : l.d - c ≠ 0 := by omega
  have kept : (l.headPos + c) / 1024 = 0 := by omega
  have place : (l.headPos + c) % 1024 = l.headPos + c := by omega
  have removed : l.removeHead c = ({ l with d := l.d - c, headPos := l.headPos + c }, []) := by
    rw [Line.removeHead]
    rw [if_neg some, if_neg some, kept, place]
    rfl
  have none : ({ l with d := l.d - c, headPos := l.headPos + c } : Line).excess = 0 := if_neg some
  rw [Line.discard, removed]
  dsimp only
  rw [Line.judgeEmptied, none]
  rfl

/-- A slew action that hands back nothing, with no grant notice waiting: the line, and the end of the change with the
last member. -/
theorem Device.slewAction_kept {l : Line} (notices : d.pool.notices = []) (due : (d.line n m).slewDue = true)
    (acts : (d.line n m).slewAction = (l, [])) :
    d.slewAction n m = if (d.putLine n m l).changing n then d.putLine n m l else (d.putLine n m l).changeEnded n := by
  have back : (d.putLine n m { l with change := (d.line n m).change }).handBack [] =
      d.putLine n m { l with change := (d.line n m).change } := if_pos rfl
  rw [Device.slewAction, if_pos due, acts]
  extract_lets r src a e
  have written : a = d.putLine n m { l with change := (d.line n m).change } := by
    change (Device.handBack (d.putLine n m { l with change := (d.line n m).change }) []).told = _
    rw [back]
    exact Device.told_of_none notices
  have last : e = d.putLine n m l := by
    change a.putLine n m { a.line n m with change := l.change } = _
    rw [written, d.putLine_line, if_pos rfl]
    exact d.putLine_putLine n m _ l
  rw [last]

theorem Device.changing_of_line (listed : m.val < (d.prog n).record.members.length)
    (moves : (d.line n m).change ≠ .steady) : d.changing n = true := by
  refine eq_true_of_ne_false fun still => moves ?_
  exact ((d.changing_eq_false_iff n).1 still).2 m _ (List.getElem?_eq_getElem listed)

theorem Line.slewDue_iff (l : Line) : l.slewDue = true ↔ (l.change = .slewUp ∨ l.change = .slewDown) ∧ 256 ≤ l.slewCounter := by
  rw [Line.slewDue, Bool.and_eq_true, Bool.or_eq_true, beq_iff_eq, beq_iff_eq, decide_eq_true_iff]

theorem Line.slewAction_up {l : Line} (up : l.change = .slewUp) : l.slewAction = ({ l with
    slewCounter := 0, remaining := l.remaining - 1, change := if l.remaining ≤ 1 then .steady else l.change }, []) := by
  rw [Line.slewAction, if_neg (by rw [up]; nofun)]

theorem Line.slewAction_down {l : Line} (down : l.change = .slewDown) (two : 2 ≤ l.d) (within : l.headPos + 1 < 1024) :
    l.slewAction = ({ l with
      slewCounter := 0, remaining := l.remaining - 1, d := l.d - 1, headPos := l.headPos + 1
      headIndex := l.headIndex + 1, change := if l.remaining ≤ 1 then .steady else l.change }, []) := by
  rw [Line.slewAction, if_pos down, Line.discard_within l two within]
  rfl

/-- The record of a condition that is inactive stays as it is where the condition is reported inactive. -/
theorem Device.judgeShort_quiet (d : Device) (n : Ix8) (off : (d.alarms.get (.delayShort n)).active = false) :
    d.judgeShort n = d := by
  have same : d.alarms.deactivate d.time.seconds (.delayShort n) = d.alarms := if_neg (by rw [off]; nofun)
  have quiet : d.deactivate (.delayShort n) = d := congrArg (fun u => { d with alarms := u }) same
  rw [Device.judgeShort, quiet, ite_self]

/-- The end of the last slew, with the lines of the other members STEADY. -/
theorem Device.last_slew_still {l : Line} (fade : (d.prog n).delay.fade = .none)
    (steady : ∀ k : Ix8, k ≠ m → (d.line n k).change = .steady) (own : l.change = .steady) :
    (d.putLine n m l).changing n = false := by
  refine ((d.putLine n m l).changing_eq_false_iff n).2 ⟨by rw [d.withLines_prog]; exact fade, fun k _ _ => ?_⟩
  rw [d.putLine_line]
  split_ifs with same
  · exact own
  · exact steady k (Ne.symm same)

/-- Settles O50: slew actions by their remaining counts, the other ends by theirs. -/
theorem slewsGapsAndRampsEnd : Obligations.SlewsGapsAndRampsEnd := by
  intro s n m calm x put l line listed
  have run : exec (.slewAction n m) s = .next { s with dev := s.dev.slewAction n m } :=
    State.prompt_calm calm fun d => d.slewAction n m
  have notices : s.dev.pool.notices = [] := calm.1.2.2.2
  refine ⟨fun here up more => ?_, fun here down more two within => ?_, fun here up one active fade steady none off => ?_,
    fun here moves one active fade steady p pending => ?_, ?_⟩
  · have due : l.slewDue = true := l.slewDue_iff.2 ⟨.inl up, here.2⟩
    rw [run, Device.slewAction_kept notices due (Line.slewAction_up up), if_neg (show ¬ l.remaining ≤ 1 by omega),
      Device.changing_of_line (m := m) (by rw [Device.withLines_prog]; exact here.1)
        (by rw [Device.putLine_line, if_pos rfl]; change l.change ≠ _; rw [up]; nofun)]
    rfl
  · have due : l.slewDue = true := l.slewDue_iff.2 ⟨.inr down, here.2⟩
    rw [run, Device.slewAction_kept notices due (Line.slewAction_down down two within),
      if_neg (show ¬ l.remaining ≤ 1 by omega),
      Device.changing_of_line (m := m) (by rw [Device.withLines_prog]; exact here.1)
        (by rw [Device.putLine_line, if_pos rfl]; change l.change ≠ _; rw [down]; nofun)]
    rfl
  · have due : l.slewDue = true := l.slewDue_iff.2 ⟨.inl up, here.2⟩
    have acts := Line.slewAction_up up
    rw [if_pos (show l.remaining ≤ 1 by omega), one] at acts
    have still := Device.last_slew_still (m := m) (l := { l with change := .steady, slewCounter := 0, remaining := 0 })
      fade steady rfl
    have ended : (s.dev.putLine n m { l with change := .steady, slewCounter := 0, remaining := 0 }).changeEnded n =
        (s.dev.putLine n m { l with change := .steady, slewCounter := 0, remaining := 0 }).judgeShort n := by
      rw [Device.changeEnded, if_pos (by rw [Device.active_iff, s.dev.withLines_prog]; exact active), s.dev.withLines_prog]
      simp only [none]
    rw [run, Device.slewAction_kept notices due acts, still, if_neg Bool.false_ne_true, ended,
      Device.judgeShort_quiet
        (s.dev.putLine n m { l with change := .steady, slewCounter := 0, remaining := 0 }) n off]
    rfl
  · intro still moved settled ended meets
    have slews : l.change = .slewUp ∨ l.change = .slewDown := moves.imp_right And.left
    have acts : l.slewAction = (moved, []) := by
      by_cases up : l.change = .slewUp
      · rw [Line.slewAction_up up, if_pos (show l.remaining ≤ 1 by omega), one, show moved = still from if_pos up]
      · obtain ⟨down, two, within⟩ := moves.resolve_left up
        rw [Line.slewAction_down down two within, if_pos (show l.remaining ≤ 1 by omega), one,
          show moved = { still with d := l.d - 1, headPos := l.headPos + 1, headIndex := l.headIndex + 1 } from if_neg up]
    have own : moved.change = .steady := by
      by_cases up : l.change = .slewUp
      · exact congrArg Line.change (show moved = still from if_pos up)
      · exact congrArg Line.change (show moved = { still with
          d := l.d - 1, headPos := l.headPos + 1, headIndex := l.headIndex + 1 } from if_neg up)
    have rests := Device.last_slew_still (m := m) fade steady own
    have frame : (s.dev.putLine n m moved).modDelay n (fun y => { y with pending := .none }) = ended := by
      rw [Device.putLine, Device.withLines, Device.modDelay, Device.modDelay, Device.modProg_modProg]
      rfl
    have finished : (s.dev.putLine n m moved).changeEnded n = ended.recalculate n p.mode p.host := by
      rw [Device.changeEnded, if_pos (by rw [Device.active_iff, s.dev.withLines_prog]; exact active), frame,
        s.dev.withLines_prog]
      simp only [show (s.dev.prog n).delay.pending = some p from pending]
    refine ⟨ended.recalculate n p.mode p.host, ?_, ?_⟩
    · rw [run, Device.slewAction_kept notices (l.slewDue_iff.2 ⟨slews, here.2⟩) acts, rests,
        if_neg Bool.false_ne_true, finished]
    · refine Device.recalculate_recalculated meets ((ended.changing_eq_false_iff n).2 ?_) p.host
      have prog : ended.prog n = { x with delay := settled } := Oct.get_set_self _ _ _
      obtain ⟨restFade, restLines⟩ := (Device.changing_eq_false_iff _ n).1 rests
      rw [s.dev.withLines_prog] at restFade restLines
      have line (k : Ix8) : ended.line n k = (s.dev.putLine n m moved).line n k := by
        rw [Device.line, Device.line, prog, s.dev.withLines_prog]
      rw [prog]
      exact ⟨restFade, fun k w there => (congrArg Line.change (line k)).trans (restLines k w there)⟩
  · intro k
    refine ⟨fun gap some there => ?_, fun gap full => ?_, fun gap short => ?_, fun r ramp full => ?_, fun r ramp full => ?_⟩
    · refine (show exec (.freezeEnd n m) s = .next { s with dev := s.dev.freezeEnd n m } from
        State.prompt_calm calm fun d => d.freezeEnd n m).trans ?_
      rw [Device.freezeEnd, if_pos ⟨gap, some, there⟩]
      rfl
    · refine (show exec (.gapEnd n) s = .next { s with dev := s.dev.gapEnd n } from
        State.prompt_calm calm fun d => d.gapEnd n).trans ?_
      rw [Device.gapEnd, if_pos ⟨gap, full⟩]
      rfl
    · refine (show exec (.gapEnd n) s = .next { s with dev := s.dev.gapEnd n } from
        State.prompt_calm calm fun d => d.gapEnd n).trans ?_
      have early : s.dev.gapEnd n = s.dev := if_neg fun h => absurd h.2 (not_le.2 short)
      rw [early]
    · refine (show exec (.appliedGainRampEnd n m) s = .next { s with dev := s.dev.appliedGainRampEnd n m } from
        State.prompt_calm calm fun d => d.appliedGainRampEnd n m).trans ?_
      have ends : k.rampEnd = { k with ramp := .none, applied := r.target } := by
        rw [StageMember.rampEnd]
        simp only [ramp]
        exact if_pos full
      change (.next (put { x with stage := { x.stage with members := x.stage.members.set m k.rampEnd } }) :
        Host.Outcome State Fault Refusal) = _
      rw [ends]
    · refine (show exec (.trimRampEnd n) s = .next { s with dev := s.dev.trimRampEnd n } from
        State.prompt_calm calm fun d => d.trimRampEnd n).trans ?_
      have ends : x.stage.trimEnd = { x.stage with trimRamp := .none, trim := r.target } := by
        rw [Stage.trimEnd]
        simp only [ramp]
        exact if_pos full
      change (.next (put { x with stage := x.stage.trimEnd }) : Host.Outcome State Fault Refusal) = _
      rw [ends]

end Sys2Proof.Machine
end

section
/-!
SUPPORT. What every recalculation and every folded trigger keeps of the lines, with grants or without (R90, R92, R95,
R103, R104).
-/

namespace Sys2Proof.Machine

variable {d e f : Device} {s : State} {n k m : Ix8} {z : Member}

/-! ## Blocks alone (R78 to R86) -/

/-- Of the delay engine's state, spare blocks alone have changed, and no alarm has. -/
structure Device.BlocksOnly (d e : Device) : Prop where
  spares : d.SparesOnly e
  delay : ∀ n, (e.prog n).delay = { (d.prog n).delay with lines := (e.prog n).delay.lines }
  alarms : e.alarms = d.alarms

namespace Device.BlocksOnly

theorem same (progs : e.progs = d.progs) (alarms : e.alarms = d.alarms) : d.BlocksOnly e where
  spares n m := by rw [Device.line, Device.prog, progs]; rfl
  delay n := by rw [Device.prog, progs]; rfl
  alarms := alarms

theorem refl (d : Device) : d.BlocksOnly d := same rfl rfl

theorem trans (h : d.BlocksOnly e) (k : e.BlocksOnly f) : d.BlocksOnly f where
  spares := h.spares.trans k.spares
  delay n := by rw [k.delay, h.delay]
  alarms := k.alarms.trans h.alarms

theorem foldl {α : Type} {g : Device → α → Device} (l : List α) (h : ∀ a, ∀ d : Device, d.BlocksOnly (g d a))
    (d : Device) : d.BlocksOnly (l.foldl g d) := by
  induction l generalizing d with
  | nil => exact refl d
  | cons a l ih => exact (h a d).trans (ih _)

end Device.BlocksOnly

theorem Device.grantTest_blocks (d : Device) (own : Option Ix8) : d.BlocksOnly (d.grantTest own) where
  spares := Device.grantLoop_spares _ _ _
  delay := (d.grantTest_granted own).delay
  alarms := (d.grantTest_granted own).alarms

theorem Device.handBack_blocks (d : Device) (blocks : List Nat) : d.BlocksOnly (d.handBack blocks) where
  spares := d.handBack_spares blocks
  delay := d.handBack_delay blocks
  alarms := (d.handBack_granted (n := 0) blocks).2.1

theorem Device.withdraw_blocks (d : Device) (n : Ix8) : d.BlocksOnly (d.withdraw n) :=
  (Device.BlocksOnly.same (d := d) (e := d.modPool fun q =>
    { q with queue := q.queue.filter fun e => e.prog ≠ n, needs := q.needs.set n none }) rfl rfl).trans
    (Device.grantTest_blocks _ none)

theorem Device.requestBlocks_blocks (d : Device) (n : Ix8) (needs : List Nat) :
    d.BlocksOnly (d.requestBlocks n needs).1 := by
  unfold Device.requestBlocks
  extract_lets short count limited a b
  split
  · exact (Device.BlocksOnly.same (d := d) (e := a) rfl rfl).trans (Device.grantTest_blocks _ _)
  · exact d.withdraw_blocks n

theorem Device.putLine_blocks (d : Device) (n m : Ix8) (l : Line)
    (spare : l = { d.line n m with spare := l.spare }) : d.BlocksOnly (d.putLine n m l) where
  spares k i := by
    by_cases own : k = n
    · subst own
      rw [d.putLine_line]
      split_ifs with same
      · rw [← same]
        exact spare
      · rfl
    · rw [Device.line, d.withLines_other own]
      rfl
  delay k := by
    by_cases own : k = n
    · subst own
      rw [d.withLines_prog]
    · rw [d.withLines_other own]
  alarms := rfl

theorem Device.returnExcess_blocks (d : Device) (n : Ix8) : d.BlocksOnly (d.returnExcess n) := by
  rw [Device.returnExcess_eq]
  exact .foldl _ (fun m e => (e.putLine_blocks n m _ rfl).trans (Device.handBack_blocks _ _)) d

/-! ## Lengths kept (R90, R95) -/

/-- A line's length, its in-use blocks, and its required length with its mark are kept. -/
structure Line.Kept (old new : Line) : Prop where
  d : new.d = old.d
  inUse : new.inUse = old.inUse
  dReq : new.dReq = old.dReq
  underDelay : new.underDelay = old.underDelay

theorem Line.Kept.refl (l : Line) : l.Kept l := ⟨rfl, rfl, rfl, rfl⟩

theorem Line.Kept.trans {a b c : Line} (h : a.Kept b) (k : b.Kept c) : a.Kept c :=
  ⟨k.d.trans h.d, k.inUse.trans h.inUse, k.dReq.trans h.dReq, k.underDelay.trans h.underDelay⟩

/-- Every line keeps its length and its required length. -/
def Device.LinesKept (d e : Device) : Prop := ∀ n m, (d.line n m).Kept (e.line n m)

namespace Device.LinesKept

theorem refl (d : Device) : d.LinesKept d := fun _ _ => .refl _

theorem trans (h : d.LinesKept e) (k : e.LinesKept f) : d.LinesKept f := fun n m => (h n m).trans (k n m)

theorem same (progs : e.progs = d.progs) : d.LinesKept e := fun n m => by
  have same : e.line n m = d.line n m := by rw [Device.line, Device.prog, progs]; rfl
  rw [same]
  exact .refl _

end Device.LinesKept

theorem Device.BlocksOnly.kept (h : d.BlocksOnly e) : d.LinesKept e := fun n m => by
  rw [h.spares n m]
  exact ⟨rfl, rfl, rfl, rfl⟩

theorem Device.reline_kept (d : Device) (n : Ix8) (g : Ix8 → Member → Line → Line) (h : ∀ m z (l : Line), l.Kept (g m z l)) :
    d.LinesKept (d.reline n g) := fun k m => by
  by_cases own : k = n
  · subst own
    cases there : (d.prog k).record.members[m.val]? with
    | none => rw [d.reline_line_unlisted k g there]; exact .refl _
    | some z => rw [d.reline_line_listed k g there]; exact h m z _
  · rw [Device.line, Device.line, d.reline_other n g own]
    exact .refl _

theorem Device.modDelay_kept (d : Device) (n : Ix8) (g : Delay → Delay) (h : ∀ x, (g x).lines = x.lines) :
    d.LinesKept (d.modDelay n g) := fun k m => by
  have same : (d.modDelay n g).line k m = d.line k m := by
    rw [Device.line, Device.modDelay, Device.prog_modProg]
    split_ifs with own
    · rw [← own]
      dsimp only
      rw [h]
      rfl
    · rfl
  rw [same]
  exact .refl _

theorem Line.settle_kept (l : Line) (target : Nat) (short : Bool) : l.Kept (l.settle target short) := by
  unfold Line.settle
  split <;> exact ⟨rfl, rfl, rfl, rfl⟩

theorem Device.settleBlocks_kept (d : Device) (n : Ix8) (target : Line → Nat) : d.LinesKept (d.settleBlocks n target) := by
  unfold Device.settleBlocks
  extract_lets short r
  split
  · rw [Device.mapLines_eq]
    exact (d.requestBlocks_blocks n _).kept.trans (Device.reline_kept _ n _ fun _ _ l => l.settle_kept _ _)
  · rw [Device.mapLines_eq]
    exact d.reline_kept n _ fun _ _ l => l.settle_kept _ _

theorem Device.reportShort_progs (d : Device) (n : Ix8) : (d.reportShort n).progs = d.progs := by
  unfold Device.reportShort
  split <;> rfl

theorem Device.startChange_kept (d : Device) (n : Ix8) (host : Bool) : d.LinesKept (d.startChange n host) := by
  have target : d.LinesKept (d.retarget n) := d.modDelay_kept n _ fun _ => rfl
  obtain ⟨rest, fade, slew⟩ := d.startChange_eq n host
  by_cases differs : d.differs n
  · by_cases far : d.far n host
    · rw [fade differs far, Device.startFade, Device.mapLines_eq]
      exact (target.trans (Device.reline_kept _ n (fun _ _ l => { l with change := .wait }) fun _ _ _ =>
        ⟨rfl, rfl, rfl, rfl⟩)).trans (Device.modDelay_kept _ n (fun x => { x with fade := .fadeOut, fadeStep := 0 })
          fun _ => rfl)
    · rw [slew differs far, Device.mapLines_eq]
      exact target.trans (Device.reline_kept _ n _ fun _ _ l => by rw [l.startSlew_eq]; exact ⟨rfl, rfl, rfl, rfl⟩)
  · rw [rest differs]
    refine target.trans (.same ?_)
    unfold Device.judgeShort
    split <;> rfl

/-- A recalculation after the required lengths stand keeps every length and every required length. -/
theorem Device.recalculate_kept (d : Device) (n : Ix8) (mode : RecalcMode) (host : Bool) :
    (d.requireAll n).LinesKept (d.recalculate n mode host) :=
  ((Device.returnExcess_blocks _ n).kept.trans (Device.settleBlocks_kept _ n _)).trans
    ((Device.LinesKept.same (Device.reportShort_progs _ n)).trans (Device.startChange_kept _ n host))

/-- The part with a trigger folded in, and the excess of empty lines handed back (R92, R103). -/
def Device.folding (d : Device) (n : Ix8) (p : PendingRecalc) : Device :=
  ((d.requireAll n).modDelay n fun x => { x with pending := some p }).returnExcess n

theorem Device.fold_eq (d : Device) (n : Ix8) (mode : RecalcMode) (host : Bool) :
    let p := foldPending (d.prog n).delay.pending mode host
    let e := d.folding n p
    let r := e.requestBlocks n (e.needsUnder n fun l => l.targetOf p.mode)
    (e.hasEntry n = false → d.fold n mode host = e) ∧
      (e.hasEntry n = true → d.fold n mode host = if r.2.granted then
        r.1.modDelay n fun x => { x with pending := some (foldPending x.pending .exact false) } else r.1) :=
  ⟨fun none => if_neg (by change ¬ Device.hasEntry (d.folding n _) n = true; rw [none]; nofun), fun some => if_pos some⟩

theorem Device.requireAll_delay (d : Device) (n : Ix8) : ((d.requireAll n).prog n).delay =
    { (d.prog n).delay with lines := ((d.requireAll n).prog n).delay.lines } := by
  rw [d.requireAll_eq]
  exact d.reline_delay n _

theorem Device.folding_delay (d : Device) (n : Ix8) (p : PendingRecalc) : ((d.folding n p).prog n).delay =
    { (d.prog n).delay with pending := some p, lines := ((d.folding n p).prog n).delay.lines } := by
  have blocks := ((d.requireAll n).modDelay n fun x => { x with pending := some p }).returnExcess_blocks n
  rw [Device.folding, blocks.delay, Device.prog_modDelay_self]
  dsimp only
  rw [d.requireAll_delay]

theorem Device.requireAll_alarms (d : Device) (n : Ix8) : (d.requireAll n).alarms = d.alarms := by
  rw [d.requireAll_eq]
  rfl

theorem Device.folding_alarms (d : Device) (n : Ix8) (p : PendingRecalc) : (d.folding n p).alarms = d.alarms :=
  ((Device.returnExcess_blocks _ n).alarms.trans rfl).trans (d.requireAll_alarms n)

theorem Device.folding_kept (d : Device) (n : Ix8) (p : PendingRecalc) : (d.requireAll n).LinesKept (d.folding n p) :=
  (Device.modDelay_kept _ n (fun x => { x with pending := some p }) fun _ => rfl).trans
    (Device.returnExcess_blocks _ n).kept

/-- A folded trigger leaves the pending recalculation, and no alarm changes (R103, R104). -/
theorem Device.fold_spec (d : Device) (n : Ix8) (mode : RecalcMode) (host : Bool) :
    let p := foldPending (d.prog n).delay.pending mode host
    (d.requireAll n).LinesKept (d.fold n mode host) ∧ (d.fold n mode host).alarms = d.alarms ∧
      ∃ q, (q = p ∨ q = foldPending (some p) .exact false) ∧ ((d.fold n mode host).prog n).delay =
        { (d.prog n).delay with pending := some q, lines := ((d.fold n mode host).prog n).delay.lines } := by
  intro p
  obtain ⟨unqueued, queued⟩ := d.fold_eq n mode host
  have kept := d.folding_kept n p
  have delay := d.folding_delay n p
  have alarms := d.folding_alarms n p
  change (d.folding n p).hasEntry n = false → _ = d.folding n p at unqueued
  cases entry : (d.folding n p).hasEntry n with
  | false =>
    rw [unqueued entry]
    exact ⟨kept, alarms, p, .inl rfl, delay⟩
  | true =>
    rw [queued entry]
    change (d.folding n p).hasEntry n = true → _ at queued
    have blocks := (d.folding n p).requestBlocks_blocks n ((d.folding n p).needsUnder n fun l => l.targetOf p.mode)
    change _ ∧ (if ((d.folding n p).requestBlocks n ((d.folding n p).needsUnder n fun l => l.targetOf p.mode)).2.granted
      then _ else _ : Device).alarms = _ ∧ _
    generalize (d.folding n p).requestBlocks n ((d.folding n p).needsUnder n fun l => l.targetOf p.mode) = r at *
    have rDelay := blocks.delay n
    rw [delay] at rDelay
    split_ifs with granted
    · refine ⟨(kept.trans blocks.kept).trans (Device.modDelay_kept _ n _ fun _ => rfl), blocks.alarms.trans alarms,
        foldPending (some p) .exact false, .inr rfl, ?_⟩
      rw [Device.prog_modDelay_self]
      dsimp only
      rw [rDelay]
    · exact ⟨kept.trans blocks.kept, blocks.alarms.trans alarms, p, .inl rfl, rDelay⟩

/-- A trigger of an ACTIVE programme leaves the required lengths of its members (R90, R94). -/
theorem Device.trigger_required (active : d.active n = true) (mode : RecalcMode) (host : Bool)
    (listed : (d.prog n).record.members[m.val]? = some z) :
    ((d.trigger n mode host).line n m).dReq = d.requiredOf n z := by
  have kept : (d.requireAll n).LinesKept (d.trigger n mode host) := by
    rw [Device.trigger, if_pos active]
    split_ifs
    · exact (d.fold_spec n mode host).1
    · exact d.recalculate_kept n mode host
  rw [(kept n m).dReq, d.requireAll_line n listed]

end Sys2Proof.Machine
end

section
/-!
PROOF. The completion of a crossfade (R67, R90, R94, R95, R103, R114, R120, R147, R153).
-/

namespace Sys2Proof.Machine

variable {d e f : Device} {s : State} {n k m : Ix8} {z : Member} {mode : RecalcMode} {host : Bool}

/-! ## What a recalculation is judged by -/

/-- What a recalculation leaves is a matter of the programme, the ports and the record of DELAY_SHORT alone. -/
theorem Device.recalculated_congr {d' e' : Device} (prog : d'.prog n = d.prog n) (ports : d'.ports = d.ports)
    (record : d'.alarms.get (.delayShort n) = d.alarms.get (.delayShort n))
    (delay : (e'.prog n).delay = (e.prog n).delay)
    (alarms : e'.alarms.get (.delayShort n) = e.alarms.get (.delayShort n))
    (h : d.recalculated e n mode host) : d'.recalculated e' n mode host := by
  have line (m : Ix8) : e'.line n m = e.line n m := congrArg (fun x : Delay => x.lines.get m) delay
  have line' (m : Ix8) : d'.line n m = d.line n m := congrArg (fun x : Programme => x.delay.lines.get m) prog
  have port (p : Ix8) : d'.port p = d.port p := congrArg (fun x => x.get p) ports
  unfold Device.recalculated Device.requiredOf Device.required at *
  simp only [prog, record, delay, alarms, line, line', port]
  exact h

theorem Device.meets_congr {d' : Device} (prog : d'.prog n = d.prog n) (ports : d'.ports = d.ports)
    (entry : d'.hasEntry n = false) (h : d.meets n mode) : d'.meets n mode := by
  have line (m : Ix8) : d'.line n m = d.line n m := congrArg (fun x : Programme => x.delay.lines.get m) prog
  have port (p : Ix8) : d'.port p = d.port p := congrArg (fun x => x.get p) ports
  refine ⟨entry, ?_⟩
  have rest := h.2
  unfold Device.requiredOf Device.required at *
  simp only [prog, line, port]
  exact rest

/-- A trigger folded where the programme has no request waiting. -/
theorem Device.fold_unqueued (entry : d.hasEntry n = false) (mode : RecalcMode) (host : Bool) :
    d.fold n mode host = d.folding n (foldPending (d.prog n).delay.pending mode host) := by
  refine (d.fold_eq n mode host).1 ?_
  refine (Device.returnExcess_own ?_).2.2.1
  have pool : (d.requireAll n).pool = d.pool := by
    rw [d.requireAll_eq]
    rfl
  exact (congrArg (fun p : Pool => p.queue.any fun e => e.prog == n) pool).trans entry

theorem foldPending_deadband (p : Option PendingRecalc) : foldPending p .deadband false =
    { mode := p.elim .deadband PendingRecalc.mode, host := p.elim false PendingRecalc.host } := by
  cases p with
  | none => rfl
  | some q => exact congrArg (PendingRecalc.mk q.mode) (Bool.or_false _)

/-! ## The meter at the completion (R114, R120) -/

theorem foldl_modify_get {α β : Type} (g : β → Prop) [DecidablePred g] (f : α → α) (l : List (Ix8 × β))
    (nodup : (l.map Prod.fst).Nodup) (o : Oct α) :
    (∀ x ∈ l, (l.foldl (fun o x => if g x.2 then o.modify x.1 f else o) o).get x.1 =
      if g x.2 then f (o.get x.1) else o.get x.1) ∧
    ∀ m, m ∉ l.map Prod.fst → (l.foldl (fun o x => if g x.2 then o.modify x.1 f else o) o).get m = o.get m := by
  induction l generalizing o with
  | nil => exact ⟨nofun, fun _ _ => rfl⟩
  | cons x l ih =>
    obtain ⟨new, nodup⟩ := List.nodup_cons.1 nodup
    obtain ⟨listed, unlisted⟩ := ih nodup (if g x.2 then o.modify x.1 f else o)
    have other (m : Ix8) (h : m ≠ x.1) : (if g x.2 then o.modify x.1 f else o).get m = o.get m := by
      split_ifs
      · rw [Oct.get_modify, if_neg h.symm]
      · rfl
    rw [List.foldl_cons]
    refine ⟨fun y there => ?_, fun m absent => ?_⟩
    · rcases List.mem_cons.1 there with rfl | later
      · rw [unlisted _ new]
        split_ifs
        · exact Oct.get_modify_self _ _ _
        · rfl
      · rw [listed y later, other y.1 fun same => new (same ▸ List.mem_map_of_mem later)]
    · rw [List.map_cons, List.mem_cons, not_or] at absent
      rw [unlisted m absent.2, other m absent.1]

/-- The filters of the watched members are cleared, and the histogram under the flag. -/
theorem Meter.changed_spec (t : Meter) (r : Record) :
    (∀ (m : Ix8) (z : Member), r.members[m.val]? = some z → ((t.changed r).members.get m) =
      if z.watched = true then (t.members.get m).clearFilter else t.members.get m) ∧
    (t.changed r = if t.resetFlag = true then { t with
      members := (t.changed r).members, bins := [], belowGate := 0, integrated := none }
      else { t with members := (t.changed r).members }) := by
  have members : (t.changed r).members =
      r.listed.foldl (fun o x => if x.2.watched then o.modify x.1 MeterMember.clearFilter else o) t.members := by
    unfold Meter.changed
    dsimp only
    split_ifs <;> rfl
  refine ⟨fun m z listed => ?_, ?_⟩
  · rw [members]
    exact (foldl_modify_get (fun z : Member => z.watched = true) MeterMember.clearFilter r.listed r.positions_nodup
      t.members).1 (m, z) (Record.mem_listed.2 listed)
  · rw [members]
    unfold Meter.changed
    dsimp only
    split_ifs <;> rfl

/-! ## The completion (R67) -/

theorem Context.complete_eq (c : Context) (o : Settings) (target : Selection × Origin) :
    let done : Context := { c with
      selection := target.1, selectedBy := target.2, state := .idle, target := none, next := none, fadeStep := 0
      holdTimer := 0, returnTimer := 0, returnDue := false, startDue := false }
    (c.next = none ∨ c.next = some target.1 → c.complete o target = done) ∧
    ∀ side, c.next = some side → side ≠ target.1 → c.complete o target = { done with
      state := .pending, target := some (side, .host), startDue := decide (c.quiet = 960 ∨ o.holdLimit ≤ 0) } := by
  refine ⟨fun plain => ?_, fun side next other => ?_⟩
  · rw [Context.complete]
    rcases plain with next | next
    · simp only [next]
    · simp only [next]
      exact if_pos trivial
  · rw [Context.complete]
    simp only [next]
    rw [if_neg other, Context.pend_eq]

theorem Context.complete_selection (c : Context) (o : Settings) (target : Selection × Origin) :
    (c.complete o target).selection = target.1 := by
  unfold Context.complete
  extract_lets a
  split
  · split_ifs
    · rfl
    · rw [Context.pend_eq]
  · rfl

/-- The part with a crossfade of a programme completed, before the delay engine takes it. -/
def Device.flippedTo (d : Device) (n : Ix8) (c : Context) : Device :=
  ({ d with progs := d.progs.set n { d.prog n with ctx := c } } : Device).occur (.changeover n)

theorem Device.crossfadeCompletion_eq {t : Selection × Origin} (active : (d.prog n).record.state = .active)
    (fading : (d.prog n).ctx.state = .fading) (full : 480 ≤ (d.prog n).ctx.fadeStep)
    (target : (d.prog n).ctx.target = some t) :
    d.crossfadeCompletion n =
      ((d.flippedTo n ((d.prog n).ctx.complete (d.prog n).record.settings t)).trigger n .deadband false).modMeter n
        fun k => k.changed (d.prog n).record := by
  rw [Device.crossfadeCompletion]
  simp only [target]
  exact if_pos ⟨active, fading, full⟩

/-- Settles O48: the context and the record of CHANGEOVER, then the trigger, then the meter. -/
theorem crossfadeCompletionFlipsTheSelection : Obligations.CrossfadeCompletionFlipsTheSelection := by
  intro s n side origin calm x r active fading full target done
  obtain ⟨plain, chained⟩ := Context.complete_eq x.ctx x.record.settings (side, origin)
  have run := Device.crossfadeCompletion_eq active fading full target
  generalize flips : s.dev.flippedTo n ((s.dev.prog n).ctx.complete (s.dev.prog n).record.settings (side, origin)) = a at run
  have aProg : a.prog n = { x with ctx := x.ctx.complete x.record.settings (side, origin) } := by
    rw [← flips]
    exact Oct.get_set_self _ _ _
  have aOther (k : Ix8) (h : k ≠ n) : a.prog k = s.dev.prog k := by
    rw [← flips]
    exact Oct.get_set_ne _ _ h.symm
  have aAlarms : a.alarms = s.dev.alarms.occur s.dev.time.seconds (.changeover n) := by
    rw [← flips]
    rfl
  have aRest : a.time = s.dev.time ∧ a.ports = s.dev.ports ∧ a.mem = s.dev.mem ∧ a.map = s.dev.map ∧
      a.link = s.dev.link ∧ a.pool = s.dev.pool := by
    rw [← flips]
    exact ⟨rfl, rfl, rfl, rfl, rfl, rfl⟩
  obtain ⟨time, ports, mem, map, link, pool⟩ := aRest
  have aActive : a.active n = true := by
    rw [Device.active_iff, aProg]
    exact active
  have aLine (m : Ix8) : a.line n m = s.dev.line n m := by
    rw [Device.line, aProg]
    rfl
  have aChanging : a.changing n = s.dev.changing n := by
    unfold Device.changing
    simp only [aLine, aProg]
    rfl
  have engine := a.trigger_engine n .deadband false
  have short := a.trigger_short n .deadband false
  have required (m : Ix8) (z : Member) (listed : x.record.members[m.val]? = some z) :=
    Device.trigger_required (m := m) (z := z) aActive .deadband false (by rw [aProg]; exact listed)
  have recalc (still : s.dev.changing n = false) (meets : a.meets n .deadband) :
      a.recalculated (a.trigger n .deadband false) n .deadband false := by
    rw [Device.trigger, if_pos aActive, if_neg (by rw [aChanging, still]; nofun)]
    exact Device.recalculate_recalculated meets (aChanging.trans still) false
  have folded (moves : s.dev.changing n = true) : a.trigger n .deadband false = a.fold n .deadband false := by
    rw [Device.trigger, if_pos aActive, if_pos (aChanging.trans moves)]
  generalize a.trigger n .deadband false = b at *
  have last : (s.dev.crossfadeCompletion n).prog n =
      { b.prog n with meter := (b.prog n).meter.changed x.record } := by
    rw [run]
    exact Device.prog_modMeter_self _ n _
  have lastOther (k : Ix8) (h : k ≠ n) : (s.dev.crossfadeCompletion n).prog k = b.prog k := by
    rw [run]
    exact (Device.prog_modProg _ n k _).trans (if_neg h.symm)
  have alarms : (s.dev.crossfadeCompletion n).alarms = b.alarms := by rw [run]; rfl
  have bProg := engine.prog n
  rw [aProg] at bProg
  have record : b.alarms.get (.changeover n) = (s.dev.alarms.occur s.dev.time.seconds (.changeover n)).get (.changeover n) := by
    rw [short.get (.changeover n) nofun, aAlarms]
  have meter : (b.prog n).meter = x.meter := by rw [bProg]
  obtain ⟨filters, histogram⟩ := x.meter.changed_spec x.record
  have ctx : ((s.dev.crossfadeCompletion n).prog n).ctx = x.ctx.complete x.record.settings (side, origin) := by
    rw [last, bProg]
  refine ⟨s.dev.crossfadeCompletion n, State.prompt_calm calm fun d => d.crossfadeCompletion n, fun h => ctx.trans (plain h),
    fun o next other => ctx.trans (chained o next other), ?_, ?_, ?_, fun m z listed => ⟨?_, fun watched => ?_,
    fun unwatched => ?_⟩, fun still meets => ?_, fun moves entry => ?_, ?_⟩
  · rw [alarms, record, AlarmUnit.occur_get, if_pos rfl]
  · rw [alarms, record, AlarmUnit.occur_get, if_pos rfl]
  · rw [alarms, record, AlarmUnit.occur_get, if_pos rfl]
  · have value := required m z listed
    have lines : ((s.dev.crossfadeCompletion n).prog n).delay.lines.get m = b.line n m := by
      rw [last]
      rfl
    have lc (p : Ix8) : a.port p = s.dev.port p := congrArg (fun o => o.get p) ports
    rw [lines, value, Device.requiredOf, Device.required, aProg, lc]
    rw [Context.complete_selection]
    exact Int.toNat_of_nonneg (le_max_left _ _)
  · rw [last, meter]
    rw [filters m z listed, if_pos (show z.watched = true from Option.isSome_iff_ne_none.2 watched)]
    exact ⟨rfl, rfl⟩
  · rw [last, meter]
    refine (filters m z listed).trans (if_neg ?_)
    rw [Member.watched, unwatched]
    nofun
  · rw [ctx] at meets ⊢
    have own := aProg.trans (Oct.get_set_self s.dev.progs n _).symm
    have met : a.meets n .deadband := by
      refine Device.meets_congr ?_ ?_ ?_ meets
      · exact own
      · exact ports
      · rw [Device.hasEntry, pool]
        exact meets.1
    refine Device.recalculated_congr own.symm ports.symm ?_ ?_ (by rw [alarms]) (recalc still met)
    · rw [aAlarms, AlarmUnit.occur_get, if_neg nofun]
    · rw [last]
  · have unqueued : a.hasEntry n = false := by
      rw [Device.hasEntry, pool]
      exact entry
    have delay := a.folding_delay n (foldPending (a.prog n).delay.pending .deadband false)
    have same := a.folding_alarms n (foldPending (a.prog n).delay.pending .deadband false)
    rw [← Device.fold_unqueued unqueued, ← folded moves] at delay same
    rw [aProg] at delay
    rw [last, alarms]
    refine ⟨?_, ?_, ?_, ?_⟩
    · rw [delay, foldPending_deadband]
    · rw [delay]
    · rw [delay]
    · rw [same, aAlarms]
      exact AlarmUnit.occur_queue _ _ _
  · have frame : (s.dev.crossfadeCompletion n).time = s.dev.time ∧ (s.dev.crossfadeCompletion n).ports = s.dev.ports ∧
        (s.dev.crossfadeCompletion n).mem = s.dev.mem ∧ (s.dev.crossfadeCompletion n).map = s.dev.map ∧
        (s.dev.crossfadeCompletion n).link = s.dev.link := by
      rw [run]
      exact ⟨engine.time.trans time, engine.ports.trans ports, engine.mem.trans mem, engine.map.trans map,
        engine.link.trans link⟩
    have others (k : Ix8) (h : k ≠ n) : ((s.dev.crossfadeCompletion n).prog k).ctx = (s.dev.prog k).ctx := by
      rw [lastOther k h, engine.prog k, aOther k h]
    rw [last, meter]
    refine ⟨fun flag => ?_, fun flag => ?_, ?_, by rw [bProg], by rw [bProg], by rw [bProg], by rw [bProg], others, frame⟩
    · rw [if_pos flag] at histogram
      rw [histogram]
      exact ⟨rfl, rfl, rfl⟩
    · rw [if_neg (by rw [flag]; nofun)] at histogram
      rw [histogram]
      exact ⟨rfl, rfl, rfl⟩
    · rw [histogram]
      split_ifs <;> rfl

end Sys2Proof.Machine
end

section
/-!
PROOF. A latency update as the programmes take it, and the interval ends that bring one (R25 to R27, R34, R90, R94, R95,
R103).
-/

namespace Sys2Proof.Machine

variable {d e f : Device} {s : State} {n k m p : Ix8} {z : Member} {mode : RecalcMode} {host : Bool}

/-! ## One programme alone, with nothing waiting in the pool -/

/-- One programme has changed, and its DELAY_SHORT; no request and no notice waits. -/
structure Device.OneOnly (d e : Device) (n : Ix8) : Prop where
  engine : d.EngineOnly e
  queue : e.pool.queue = []
  notices : e.pool.notices = []
  others : ∀ k, k ≠ n → e.prog k = d.prog k
  alarms : ∀ a, a ≠ .delayShort n → e.alarms.get a = d.alarms.get a

theorem Device.OneOnly.refl (queue : d.pool.queue = []) (notices : d.pool.notices = []) : d.OneOnly d n :=
  ⟨.refl d, queue, notices, fun _ _ => rfl, fun _ _ => rfl⟩

theorem Device.OneOnly.trans (h : d.OneOnly e n) (k : e.OneOnly f n) : d.OneOnly f n :=
  ⟨h.engine.trans k.engine, k.queue, k.notices, fun i other => (k.others i other).trans (h.others i other),
    fun a other => (k.alarms a other).trans (h.alarms a other)⟩

theorem Device.OneOnly.hasEntry (h : d.OneOnly e n) (k : Ix8) : e.hasEntry k = false := by
  rw [Device.hasEntry, h.queue]
  rfl

theorem Device.judgeShort_alarms (d : Device) (n : Ix8) (a : Alarm) (other : a ≠ .delayShort n) :
    (d.judgeShort n).alarms.get a = d.alarms.get a := by
  unfold Device.judgeShort
  split
  · rfl
  · change (d.alarms.deactivate _ _).get a = _
    rw [AlarmUnit.deactivate_get, if_neg fun h => other h.1]

theorem Device.startChange_alarms (d : Device) (n : Ix8) (host : Bool) (a : Alarm) (other : a ≠ .delayShort n) :
    (d.startChange n host).alarms.get a = d.alarms.get a := by
  by_cases differs : d.differs n
  · rw [(d.startChange_started n host).silent differs]
  · rw [(d.startChange_eq n host).1 differs]
    exact (d.retarget n).judgeShort_alarms n a other

section idle

variable (queue : d.pool.queue = []) (notices : d.pool.notices = [])
include queue notices

theorem Device.reline_oneOnly (g : Ix8 → Member → Line → Line) : d.OneOnly (d.reline n g) n :=
  ⟨d.reline_engine n g, queue, notices, fun _ h => d.reline_other n g h, fun _ _ => rfl⟩

theorem Device.returnExcess_oneOnly : d.OneOnly (d.returnExcess n) n := by
  have none : d.hasEntry n = false := by rw [Device.hasEntry, queue]; rfl
  obtain ⟨engine, alarms, -, -, idle⟩ := Device.returnExcess_own none
  obtain ⟨free, run⟩ := idle queue
  refine ⟨engine, ?_, ?_, fun k h => ?_, fun a _ => by rw [alarms]⟩
  · rw [run]
    exact queue
  · rw [run]
    exact notices
  · rw [run]
    exact d.reline_other n _ h

theorem Device.folding_oneOnly (q : PendingRecalc) : d.OneOnly (d.folding n q) n := by
  have first : d.OneOnly (d.requireAll n) n := by
    rw [d.requireAll_eq]
    exact Device.reline_oneOnly queue notices _
  have second : (d.requireAll n).OneOnly ((d.requireAll n).modDelay n fun x => { x with pending := some q }) n :=
    ⟨Device.modDelay_engine _ n _, first.queue, first.notices, fun k h => (Device.prog_modProg _ n k _).trans (if_neg h.symm),
      fun _ _ => rfl⟩
  exact (first.trans second).trans (Device.returnExcess_oneOnly second.queue second.notices)

theorem Device.recalculate_oneOnly (met : d.meets n mode) (still : d.changing n = false) (host : Bool) :
    d.OneOnly (d.recalculate n mode host) n := by
  obtain ⟨c, run, settled⟩ := Device.recalculate_met met still host
  obtain ⟨⟨free, pool⟩, others⟩ := settled.idle queue
  have started := c.startChange_started n host
  refine ⟨d.recalculate_engine n mode host, ?_, ?_, fun k h => ?_, fun a other => ?_⟩
  · rw [run, started.pool, pool]
    exact queue
  · rw [run, started.pool, pool]
    exact notices
  · rw [run, started.others k h, others k h]
  · rw [run, c.startChange_alarms n host a other, settled.alarms]

end idle

/-! ## One programme takes a latency update (R90, R94, R103) -/

/-- A member's current source is on a port. -/
def Device.listens (d : Device) (n p : Ix8) (z : Member) : Prop := (z.on (d.prog n).ctx.selection).port = p

/-- The required length that a latency update of a port leaves a member. -/
def Device.dueLength (d : Device) (n p m : Ix8) (z : Member) : Nat :=
  if (z.on (d.prog n).ctx.selection).port = p then d.requiredOf n z else (d.line n m).dReq

/-- The part with the required lengths of a programme's members on a port computed. -/
def Device.relatency (d : Device) (n p : Ix8) : Device :=
  d.requireWhere n fun z => ((d.prog n).currentSource z).port == p

theorem Device.currentSource_on (d : Device) (n p : Ix8) (z : Member) :
    (((d.prog n).currentSource z).port == p) = true ↔ (z.on (d.prog n).ctx.selection).port = p := by
  rw [beq_iff_eq, Member.on_eq]
  rfl

theorem Device.relatency_eq (d : Device) (n p : Ix8) : d.relatency n p = d.reline n fun _ z l =>
    if (z.on (d.prog n).ctx.selection).port = p then { l with
      dReq := d.requiredOf n z
      underDelay := decide ((d.prog n).record.settings.delayTarget <
        ((d.port (z.on (d.prog n).ctx.selection).port).conv.lc : Int) + 24) } else l := by
  rw [Device.relatency, d.requireWhere_eq]
  refine Device.reline_congr fun m z _ => ?_
  rw [Device.require_eq, if_congr (d.currentSource_on n p z) rfl rfl]

section relatency

variable (d : Device) (n p : Ix8)

theorem Device.relatency_line (listed : (d.prog n).record.members[m.val]? = some z) :
    (d.relatency n p).line n m = { d.line n m with
      dReq := d.dueLength n p m z, underDelay := ((d.relatency n p).line n m).underDelay } ∧
    ((z.on (d.prog n).ctx.selection).port = p → (((d.relatency n p).line n m).underDelay = true ↔
      (d.prog n).record.settings.delayTarget < ((d.port p).conv.lc : Int) + 24)) := by
  rw [d.relatency_eq, d.reline_line_listed n _ listed, Device.dueLength]
  by_cases on : (z.on (d.prog n).ctx.selection).port = p
  · rw [if_pos on, if_pos on, on]
    exact ⟨rfl, fun _ => decide_eq_true_iff⟩
  · rw [if_neg on, if_neg on]
    exact ⟨rfl, fun h => absurd h on⟩

theorem Device.relatency_engine : d.EngineOnly (d.relatency n p) := d.requireWhere_engine n _

theorem Device.relatency_delay : ((d.relatency n p).prog n).delay =
    { (d.prog n).delay with lines := ((d.relatency n p).prog n).delay.lines } := by
  rw [d.relatency_eq]
  exact d.reline_delay n _

theorem Device.relatency_requiredOf : (d.relatency n p).requiredOf n z = d.requiredOf n z := by
  have ports : (d.relatency n p).ports = d.ports := (d.relatency_engine n p).ports
  unfold Device.requiredOf Device.required Device.port
  rw [(d.relatency_engine n p).prog n, ports]

theorem Device.relatency_changing : (d.relatency n p).changing n = d.changing n := by
  refine Bool.eq_iff_iff.2 (not_iff_not.1 ?_)
  rw [Bool.not_eq_true, Bool.not_eq_true, Device.changing_eq_false_iff, Device.changing_eq_false_iff, d.relatency_delay,
    (d.relatency_engine n p).record n]
  refine and_congr_right fun _ => forall_congr' fun m => forall_congr' fun z => imp_congr_right fun listed => ?_
  rw [(d.relatency_line n p listed).1]

theorem Device.relatency_meets (h : d.meets n mode) : (d.relatency n p).meets n mode := by
  obtain ⟨entry, short, needs⟩ := h
  refine ⟨?_, ?_, fun m z listed => ?_⟩
  · rw [Device.hasEntry, d.relatency_eq]
    exact entry
  · rw [(d.relatency_engine n p).record n]
    exact short
  · rw [(d.relatency_engine n p).record n] at listed
    rw [d.relatency_requiredOf, (d.relatency_line n p listed).1]
    exact needs m z listed

/-- What a recalculation leaves does not turn on the required lengths before it. -/
theorem Device.recalculated_of_relatency (h : (d.relatency n p).recalculated e n mode host) :
    d.recalculated e n mode host := by
  have record := (d.relatency_engine n p).record n
  have ctx : ((d.relatency n p).prog n).ctx = (d.prog n).ctx := by rw [(d.relatency_engine n p).prog n]
  have port (q : Ix8) : (d.relatency n p).port q = d.port q :=
    congrArg (fun x => x.get q) (d.relatency_engine n p).ports
  have required (z : Member) : (d.relatency n p).requiredOf n z = d.requiredOf n z := d.relatency_requiredOf n p
  have alarms : (d.relatency n p).alarms = d.alarms := by
    rw [d.relatency_eq]
    rfl
  have length (m : Ix8) : ((d.relatency n p).line n m).d = (d.line n m).d ∧
      ((d.relatency n p).line n m).inUse = (d.line n m).inUse := by
    rw [d.relatency_eq]
    cases there : (d.prog n).record.members[m.val]? with
    | none => rw [d.reline_line_unlisted n _ there]; exact ⟨rfl, rfl⟩
    | some z =>
      rw [d.reline_line_listed n _ there]
      split_ifs <;> exact ⟨rfl, rfl⟩
  have long (m : Ix8) := (length m).1
  have used (m : Ix8) := (length m).2
  have delay := d.relatency_delay n p
  have tLines := congrArg Delay.tLines delay
  have pending := congrArg Delay.pending delay
  have gapLength := congrArg Delay.gapLength delay
  have fadeStep := congrArg Delay.fadeStep delay
  dsimp only at tLines pending gapLength fadeStep
  unfold Device.recalculated at *
  simp only [record, ctx, port, required, alarms, long, used, tLines, pending, gapLength, fadeStep] at h
  exact h

end relatency

/-- A latency update of a port as one programme takes it. -/
structure Device.Latent (d e : Device) (n p : Ix8) : Prop where
  unheard : (d.prog n).record.state ≠ .active ∨
    (∀ z ∈ (d.prog n).record.members, ¬ (z.on (d.prog n).ctx.selection).port = p) → e.prog n = d.prog n
  folded : (d.prog n).record.state = .active →
    (∃ z ∈ (d.prog n).record.members, (z.on (d.prog n).ctx.selection).port = p) → d.changing n = true →
    (e.prog n).delay = { (d.prog n).delay with
      pending := some (foldPending (d.prog n).delay.pending .deadband false), lines := (e.prog n).delay.lines } ∧
    ∀ m z, (d.prog n).record.members[m.val]? = some z → (e.line n m).dReq = d.requiredOf n z
  moved : (d.prog n).record.state = .active →
    (∃ z ∈ (d.prog n).record.members, (z.on (d.prog n).ctx.selection).port = p) → d.changing n = false →
    (∃ m z, (d.prog n).record.members[m.val]? = some z ∧
      2 ≤ max (d.dueLength n p m z) (d.line n m).d - min (d.dueLength n p m z) (d.line n m).d) →
    d.recalculated e n .deadband false
  near : (d.prog n).record.state = .active →
    (∃ z ∈ (d.prog n).record.members, (z.on (d.prog n).ctx.selection).port = p) → d.changing n = false →
    (¬ ∃ m z, (d.prog n).record.members[m.val]? = some z ∧
      2 ≤ max (d.dueLength n p m z) (d.line n m).d - min (d.dueLength n p m z) (d.line n m).d) →
    (e.prog n).delay = { (d.prog n).delay with lines := (e.prog n).delay.lines } ∧
    ∀ m z, (d.prog n).record.members[m.val]? = some z →
      e.line n m = { d.line n m with
        dReq := d.dueLength n p m z, underDelay := (e.line n m).underDelay, spare := (e.line n m).spare } ∧
      ((z.on (d.prog n).ctx.selection).port = p → ((e.line n m).underDelay = true ↔
        (d.prog n).record.settings.delayTarget < ((d.port p).conv.lc : Int) + 24))

theorem Device.latencyProgramme_eq (d : Device) (p n : Ix8) :
    (¬ ((d.prog n).record.state = .active ∧
      ∃ z ∈ (d.prog n).record.members, (z.on (d.prog n).ctx.selection).port = p) → d.latencyProgramme p n = d) ∧
    ((d.prog n).record.state = .active → (∃ z ∈ (d.prog n).record.members, (z.on (d.prog n).ctx.selection).port = p) →
      (d.changing n = true → d.latencyProgramme p n = (d.relatency n p).fold n .deadband false) ∧
      (d.changing n = false → d.latencyProgramme p n =
        if ((d.prog n).record.positions.any fun m => decide (2 ≤ max ((d.relatency n p).line n m).dReq
            ((d.relatency n p).line n m).d - min ((d.relatency n p).line n m).dReq ((d.relatency n p).line n m).d))
        then (d.relatency n p).recalculate n .deadband false else (d.relatency n p).returnExcess n)) := by
  have heard : (d.active n && (d.prog n).record.members.any fun z => ((d.prog n).currentSource z).port == p) = true ↔
      (d.prog n).record.state = .active ∧
        ∃ z ∈ (d.prog n).record.members, (z.on (d.prog n).ctx.selection).port = p := by
    rw [Bool.and_eq_true, Device.active_iff, List.any_eq_true]
    simp only [d.currentSource_on]
  refine ⟨fun no => if_neg (mt heard.1 no), fun active on => ⟨fun moves => ?_, fun still => ?_⟩⟩
  · exact (if_pos (heard.2 ⟨active, on⟩)).trans (if_pos moves)
  · exact (if_pos (heard.2 ⟨active, on⟩)).trans (if_neg (by rw [still]; nofun))

theorem Device.latencyProgramme_latent (queue : d.pool.queue = []) (notices : d.pool.notices = [])
    (meets : (d.prog n).record.state = .active → d.meets n .deadband) :
    d.OneOnly (d.latencyProgramme p n) n ∧ d.Latent (d.latencyProgramme p n) n p := by
  obtain ⟨quiet, loud⟩ := d.latencyProgramme_eq p n
  by_cases heard : (d.prog n).record.state = .active ∧
      ∃ z ∈ (d.prog n).record.members, (z.on (d.prog n).ctx.selection).port = p
  swap
  · rw [quiet heard]
    exact ⟨.refl queue notices, fun _ => rfl, fun active on => absurd ⟨active, on⟩ heard,
      fun active on => absurd ⟨active, on⟩ heard, fun active on => absurd ⟨active, on⟩ heard⟩
  obtain ⟨active, on⟩ := heard
  obtain ⟨changes, rests⟩ := loud active on
  have first : d.OneOnly (d.relatency n p) n := by
    rw [d.relatency_eq]
    exact Device.reline_oneOnly queue notices _
  have entry := first.hasEntry n
  have record := first.engine.record n
  have delay := d.relatency_delay n p
  have heardHere : ¬ ((d.prog n).record.state ≠ .active ∨
      ∀ z ∈ (d.prog n).record.members, ¬ (z.on (d.prog n).ctx.selection).port = p) := by
    rintro (h | h)
    · exact h active
    · obtain ⟨z, there, here⟩ := on
      exact h z there here
  cases moves : d.changing n with
  | true =>
    rw [changes moves, Device.fold_unqueued entry]
    have kept := (d.relatency n p).folding_kept n (foldPending ((d.relatency n p).prog n).delay.pending .deadband false)
    have lines := (d.relatency n p).folding_delay n (foldPending ((d.relatency n p).prog n).delay.pending .deadband false)
    refine ⟨first.trans (Device.folding_oneOnly first.queue first.notices _), fun h => absurd h heardHere,
      fun _ _ _ => ⟨?_, fun m z listed => ?_⟩, fun _ _ still => (Bool.false_ne_true (still.symm.trans moves)).elim,
      fun _ _ still => (Bool.false_ne_true (still.symm.trans moves)).elim⟩
    · rw [lines, delay]
    · rw [(kept n m).dReq, (d.relatency n p).requireAll_line n (by rw [record]; exact listed)]
      exact d.relatency_requiredOf n p
  | false =>
    have run := rests moves
    have far : ((d.prog n).record.positions.any fun m => decide (2 ≤ max ((d.relatency n p).line n m).dReq
            ((d.relatency n p).line n m).d - min ((d.relatency n p).line n m).dReq ((d.relatency n p).line n m).d)) = true ↔
        ∃ m z, (d.prog n).record.members[m.val]? = some z ∧
          2 ≤ max (d.dueLength n p m z) (d.line n m).d - min (d.dueLength n p m z) (d.line n m).d := by
      rw [d.any_positions_iff]
      refine exists_congr fun m => exists_congr fun z => and_congr_right fun listed => ?_
      rw [decide_eq_true_iff, (d.relatency_line n p listed).1]
    have still : (d.relatency n p).changing n = false := (d.relatency_changing n p).trans moves
    have met := d.relatency_meets n p (meets active)
    by_cases moved : ∃ m z, (d.prog n).record.members[m.val]? = some z ∧
          2 ≤ max (d.dueLength n p m z) (d.line n m).d - min (d.dueLength n p m z) (d.line n m).d
    · rw [if_pos (far.2 moved)] at run
      rw [run]
      refine ⟨first.trans (Device.recalculate_oneOnly first.queue first.notices met still false),
        fun h => absurd h heardHere, fun _ _ h => (Bool.false_ne_true (moves.symm.trans h)).elim, fun _ _ _ _ => ?_,
        fun _ _ _ h => absurd moved h⟩
      exact Device.recalculated_of_relatency _ n p (Device.recalculate_recalculated met still false)
    · rw [if_neg (mt far.1 moved)] at run
      rw [run]
      have blocks := (d.relatency n p).returnExcess_blocks n
      refine ⟨first.trans (Device.returnExcess_oneOnly first.queue first.notices), fun h => absurd h heardHere,
        fun _ _ h => (Bool.false_ne_true (moves.symm.trans h)).elim, fun _ _ _ h => absurd h moved,
        fun _ _ _ _ => ⟨?_, fun m z listed => ?_⟩⟩
      · rw [blocks.delay, delay]
      · obtain ⟨line, under⟩ := d.relatency_line n p listed
        rw [blocks.spares n m]
        refine ⟨?_, under⟩
        rw [line]

/-! ## All programmes take it (R34) -/

theorem Device.foldl_latency (l : List Ix8) (nodup : l.Nodup) (d : Device) (queue : d.pool.queue = [])
    (notices : d.pool.notices = []) (meets : ∀ n ∈ l, (d.prog n).record.state = .active → d.meets n .deadband) :
    let e := l.foldl (fun e n => (e.latencyProgramme p n).told) d
    (∀ n, n ∉ l → e.prog n = d.prog n ∧ e.alarms.get (.delayShort n) = d.alarms.get (.delayShort n)) ∧
    ∀ n ∈ l, ∃ a b : Device, a.prog n = d.prog n ∧ a.ports = d.ports ∧
      a.alarms.get (.delayShort n) = d.alarms.get (.delayShort n) ∧ a.Latent b n p ∧ e.prog n = b.prog n ∧
      e.alarms.get (.delayShort n) = b.alarms.get (.delayShort n) := by
  induction l generalizing d with
  | nil => exact ⟨fun _ _ => ⟨rfl, rfl⟩, nofun⟩
  | cons k l ih =>
    obtain ⟨new, nodup⟩ := List.nodup_cons.1 nodup
    obtain ⟨one, latent⟩ := Device.latencyProgramme_latent (p := p) queue notices (meets k (.head _))
    have told : (d.latencyProgramme p k).told = d.latencyProgramme p k := Device.told_of_none one.notices
    have prog (n : Ix8) (other : n ≠ k) : (d.latencyProgramme p k).prog n = d.prog n := one.others n other
    have short (n : Ix8) (other : n ≠ k) :
        (d.latencyProgramme p k).alarms.get (.delayShort n) = d.alarms.get (.delayShort n) :=
      one.alarms _ fun same => other (Alarm.delayShort.inj same)
    have port (n : Ix8) : (d.latencyProgramme p k).ports = d.ports := one.engine.ports
    obtain ⟨rest, taken⟩ := ih nodup (d.latencyProgramme p k) one.queue one.notices fun n there active => by
      have other : n ≠ k := fun same => new (same ▸ there)
      rw [prog n other] at active
      exact Device.meets_congr (prog n other) one.engine.ports (one.hasEntry n) (meets n (.tail _ there) active)
    rw [List.foldl_cons, told]
    refine ⟨fun n absent => ?_, fun n there => ?_⟩
    · rw [List.mem_cons, not_or] at absent
      obtain ⟨same, record⟩ := rest n absent.2
      exact ⟨same.trans (prog n absent.1), record.trans (short n absent.1)⟩
    · rcases List.mem_cons.1 there with rfl | later
      · obtain ⟨same, record⟩ := rest n new
        exact ⟨d, d.latencyProgramme p n, rfl, rfl, rfl, latent, same, record⟩
      · have other : n ≠ k := fun same => new (same ▸ later)
        obtain ⟨a, b, own, ports, record, latent, same, after⟩ := taken n later
        exact ⟨a, b, own.trans (prog n other), ports.trans one.engine.ports, record.trans (short n other), latent, same, after⟩

/-! ## The converter at an interval end in range (R25 to R27) -/

theorem servo_eq (sEst : Int) (fill : Nat) :
    servo sEst fill = max (sEst - 8192) (min (sEst + 8192) (sEst + 256 * ((fill : Int) - 32))) :=
  clampInt_eq (by omega)

theorem coeffSetOf_eq (sEst : Int) : coeffSetOf sEst = if sEst ≤ 16777216 then .wide else .narrow := rfl

theorem jumps_iff {new old : Int} : jumps new old = true ↔ old / 1024 < ((new - old).natAbs : Int) := decide_eq_true_iff

/-- The converter after a jump or a smoothed interval end. -/
theorem Converter.tracked_eq (c : Converter) (new : Int) (fill : Nat) (tracks : c.state = .settle ∨ c.state = .locked) :
    let jump := c.sEst / 1024 < ((new - c.sEst).natAbs : Int)
    let est := if jump then new else c.sEst + (2 * (new - c.sEst) + 8) / 16
    let off := ((fill : Int) - 32).natAbs
    (if jumps new c.sEst then c.jumpTo new fill else c.track new fill) = { c with
      sEst := est
      sApp := max (est - 8192) (min (est + 8192) (est + 256 * ((fill : Int) - 32)))
      coeffs := if est ≤ 16777216 then .wide else .narrow
      state := if jump ∨ 12 < off then .settle else c.state
      lockCount :=
        if jump then 0
        else if c.state = .settle then (if off ≤ 4 then min (c.lockCount + 1) 4 else 0)
        else if 12 < off then 0 else c.lockCount } := by
  intro jump est off
  have round : roundDiv (new - c.sEst) 8 = (2 * (new - c.sEst) + 8) / 16 := rfl
  by_cases leap : jump
  · have far : est = new := if_pos leap
    rw [if_pos (jumps_iff.2 leap), far, if_pos (.inl leap), if_pos leap, Converter.jumpTo, servo_eq, coeffSetOf_eq]
  · have near : est = c.sEst + roundDiv (new - c.sEst) 8 := if_neg leap
    rw [if_neg (mt jumps_iff.1 leap), near, if_neg leap, Converter.track, servo_eq, coeffSetOf_eq, Converter.lockTest]
    rcases tracks with state | state
    · simp only [state, ite_self, if_true]
      rfl
    · simp only [state, reduceCtorEq, if_false, leap, false_or]
      by_cases wide : 12 < off
      · rw [if_pos wide, if_pos wide, if_pos wide]
      · rw [if_neg wide, if_neg wide, if_neg wide]

theorem Device.requiredOf_congr (prog : e.prog n = d.prog n) (ports : e.ports = d.ports) :
    e.requiredOf n z = d.requiredOf n z := by
  unfold Device.requiredOf Device.required Device.port
  rw [prog, ports]

/-- Settles O45: the converter by the jump test and the lock test, the programmes one after another. -/
theorem intervalEndTracksTheRate : Obligations.IntervalEndTracksTheRate := by
  intro s p i calm x c ended good tracks new jump est off
  have run : exec (.intervalEnd p) s = .next { s with dev := s.dev.intervalEnd p } :=
    State.prompt_calm calm fun d => d.intervalEnd p
  have found := Device.intervalEnd_tracks ended tracks
  rw [if_pos (inRange_iff.2 good)] at found
  have conv := Converter.tracked_eq { c with ended := none } new i.fObs tracks
  obtain ⟨ports, range, records, time, mem, map, link⟩ := s.dev.measured p (fun c =>
    if jumps (rateOf i.tInt) c.sEst then c.jumpTo (rateOf i.tInt) i.fObs else c.track (rateOf i.tInt) i.fObs) i.fObs
  rw [← found] at ports range records time mem map link
  refine ⟨s.dev.intervalEnd p, run, ports.trans ?_, range, records, time, mem, map, link, ?_⟩
  · refine congrArg (fun c => s.dev.ports.set p { x with conv := c }) ?_
    exact congrArg (fun k : Converter => { k with lc := latencyFor i.fObs k.sEst }) conv
  intro told queue meets n y on listed due moved
  obtain ⟨b, bEq⟩ : ∃ b, b = ((((s.dev.tookInterval p).deactivate (.rateRange p)).modConv p fun c =>
    if jumps (rateOf i.tInt) c.sEst then c.jumpTo (rateOf i.tInt) i.fObs
    else c.track (rateOf i.tInt) i.fObs).modConv p fun c => { c with lc := latencyFor i.fObs c.sEst }) := ⟨_, rfl⟩
  have updates : s.dev.intervalEnd p = eight.foldl (fun e n => (e.latencyProgramme p n).told) b := by
    rw [found, bEq]
    rfl
  have bProg (k : Ix8) : b.prog k = s.dev.prog k := by rw [bEq]; rfl
  have bPool : b.pool = s.dev.pool := by rw [bEq]; rfl
  have bRecord (k : Ix8) : b.alarms.get (.delayShort k) = s.dev.alarms.get (.delayShort k) := by
    rw [bEq]
    change (s.dev.alarms.deactivate _ _).get _ = _
    rw [AlarmUnit.deactivate_get, if_neg fun h => nomatch h.1]
  have bPorts : b.ports = told.ports := by
    have engine := b.latencyUpdate_engine p
    rw [← show s.dev.intervalEnd p = b.latencyUpdate p from updates] at engine
    exact engine.ports.symm
  have notices : s.dev.pool.notices = [] := calm.1.2.2.2
  have none (k : Ix8) : b.hasEntry k = false := by
    rw [Device.hasEntry, bPool, queue]
    rfl
  obtain ⟨u, v, uProg, uPorts, uRecord, latent, last, lastRecord⟩ :=
    (Device.foldl_latency (p := p) eight (by decide) b (by rw [bPool]; exact queue) (by rw [bPool]; exact notices)
      fun k _ active => Device.meets_congr (d := told) (bProg k) bPorts (none k) (meets k (by rw [← bProg k]; exact active))).2 n
      (mem_eight n)
  rw [← updates] at last lastRecord
  have own : u.prog n = y := uProg.trans (bProg n)
  have uTold : u.ports = told.ports := uPorts.trans bPorts
  have required (z : Member) : u.requiredOf n z = told.requiredOf n z := Device.requiredOf_congr own uTold
  have uLine (m : Ix8) : u.line n m = s.dev.line n m := congrArg (fun x : Programme => x.delay.lines.get m) own
  have dLine (m : Ix8) : (s.dev.intervalEnd p).line n m = v.line n m :=
    congrArg (fun x : Programme => x.delay.lines.get m) last
  have uChanging : u.changing n = s.dev.changing n := by
    unfold Device.changing
    simp only [uLine, own]
    rfl
  have uPort (q : Ix8) : u.port q = (s.dev.intervalEnd p).port q := congrArg (fun o => o.get q) uTold
  obtain ⟨unheard, folded, far, near⟩ := latent
  unfold Device.dueLength at far near
  simp only [own, required, uLine, uChanging, uPort] at unheard folded far near
  rw [last]
  refine ⟨unheard, fun active heard moves => ?_, fun active heard still => ⟨fun goes => ?_, fun stays => ?_⟩⟩
  · obtain ⟨delay, lengths⟩ := folded active heard moves
    rw [delay, foldPending_deadband]
    refine ⟨rfl, rfl, rfl, fun m z there => ?_⟩
    rw [dLine]
    exact lengths m z there
  · refine Device.recalculated_congr own.symm uTold.symm ?_ (by rw [last]) lastRecord (far active heard still goes)
    rw [uRecord, bRecord]
  · obtain ⟨delay, lengths⟩ := near active heard still stays
    refine ⟨delay, fun m z there => ?_⟩
    rw [dLine]
    exact lengths m z there

end Sys2Proof.Machine
end

section
/-!
PROOF. How a grant is shared among the members, and a grant taken during a change (R82 to R84, R94, R103).
-/

namespace Sys2Proof.Machine

variable {d e f : Device} {s : State} {n k m : Ix8} {z : Member}

/-! ## Shares (R83) -/

/-- What the members named lack for their needs. -/
def lacking (l : List (Ix8 × Nat)) (lines : Oct Line) : Nat := (l.map fun x => x.2 - (lines.get x.1).held).sum

theorem lacking_set {l : List (Ix8 × Nat)} {lines : Oct Line} (new : m ∉ l.map Prod.fst) (a : Line) :
    lacking l (lines.set m a) = lacking l lines := by
  unfold lacking
  congr 1
  refine List.map_congr_left fun x there => ?_
  rw [Oct.get_set_ne _ _ fun same : m = x.1 => new (same ▸ List.mem_map_of_mem there)]

theorem Oct.sum_set {α : Type} (o : Oct α) (i : Ix8) (a : α) (g : α → Nat) :
    ((o.set i a).toList.map g).sum + g (o.get i) = (o.toList.map g).sum + g a := by
  fin_cases i <;> simp [Oct.set, Oct.get, Oct.toList] <;> omega

/-- The members take in order what they lack, as far as the blocks go; what is left is what none lacks. -/
theorem shareOut_spec (l : List (Ix8 × Nat)) (nodup : (l.map Prod.fst).Nodup) (blocks : List Nat) (lines : Oct Line) :
    let r := shareOut l blocks lines
    r.left = blocks.drop (lacking l lines) ∧
      (r.lines.toList.map Line.held).sum = (lines.toList.map Line.held).sum + min blocks.length (lacking l lines) ∧
      (∀ x ∈ l, (lines.get x.1).held ≤ (r.lines.get x.1).held ∧ (r.lines.get x.1).held ≤ max x.2 (lines.get x.1).held ∧
        (lacking l lines ≤ blocks.length → (r.lines.get x.1).held = max x.2 (lines.get x.1).held)) ∧
      ∀ m, m ∉ l.map Prod.fst → r.lines.get m = lines.get m := by
  induction l generalizing blocks lines with
  | nil =>
    refine ⟨rfl, ?_, nofun, fun _ _ => rfl⟩
    change _ = _ + min blocks.length 0
    rw [Nat.min_zero]
    rfl
  | cons x l ih =>
    obtain ⟨m, need⟩ := x
    obtain ⟨new, nodup⟩ := List.nodup_cons.1 nodup
    obtain ⟨left, total, listed, unlisted⟩ := ih nodup (blocks.drop (need - (lines.get m).held))
      (lines.set m { lines.get m with spare := (lines.get m).spare ++ blocks.take (need - (lines.get m).held) })
    have sum := Oct.sum_set lines m
      { lines.get m with spare := (lines.get m).spare ++ blocks.take (need - (lines.get m).held) } Line.held
    have held : Line.held
        { lines.get m with spare := (lines.get m).spare ++ blocks.take (need - (lines.get m).held) } =
        (lines.get m).held + min (need - (lines.get m).held) blocks.length := by
      unfold Line.held
      dsimp only
      rw [List.length_append, List.length_take, Nat.add_assoc]
    have lacks : lacking ((m, need) :: l) lines = (need - (lines.get m).held) + lacking l lines := rfl
    rw [lacking_set new] at left total listed
    rw [List.length_drop] at total listed
    have step : shareOut ((m, need) :: l) blocks lines =
        { shareOut l (blocks.drop (need - (lines.get m).held)) (lines.set m { lines.get m with
            spare := (lines.get m).spare ++ blocks.take (need - (lines.get m).held) }) with
          given := (blocks.take (need - (lines.get m).held)).length ::
            (shareOut l (blocks.drop (need - (lines.get m).held)) (lines.set m { lines.get m with
              spare := (lines.get m).spare ++ blocks.take (need - (lines.get m).held) })).given } := rfl
    rw [step, lacks]
    dsimp only
    rw [held] at sum
    generalize shareOut l (blocks.drop (need - (lines.get m).held)) (lines.set m { lines.get m with
      spare := (lines.get m).spare ++ blocks.take (need - (lines.get m).held) }) = r at *
    refine ⟨?_, by omega, fun y there => ?_, fun i absent => ?_⟩
    · rw [left, List.drop_drop]
    · rcases List.mem_cons.1 there with rfl | later
      · dsimp only
        rw [unlisted m new, Oct.get_set_self, held]
        omega
      · obtain ⟨low, high, full⟩ := listed y later
        have other : (lines.set m { lines.get m with
            spare := (lines.get m).spare ++ blocks.take (need - (lines.get m).held) }).get y.1 = lines.get y.1 :=
          Oct.get_set_ne _ _ fun same : m = y.1 => new (by
            rw [same]
            exact List.mem_map.2 ⟨y, later, rfl⟩)
        rw [other] at low high full
        exact ⟨low, high, fun enough => full (by omega)⟩
    · rw [List.map_cons, List.mem_cons, not_or] at absent
      rw [unlisted i absent.2, Oct.get_set_ne _ _ (Ne.symm absent.1)]

theorem Device.shortfall_eq (d : Device) (n : Ix8) (needs : List Nat) :
    d.shortfall n needs = lacking (eight.zip needs) (d.prog n).delay.lines := rfl

theorem zip_keys_sublist {α β : Type} (l : List α) (l' : List β) : List.Sublist ((l.zip l').map Prod.fst) l := by
  induction l generalizing l' with
  | nil => rw [List.zip_nil_left]; exact .refl _
  | cons a l ih =>
    cases l' with
    | nil => exact List.nil_sublist _
    | cons b l' => exact (ih l').cons_cons a

theorem zip_eight_keys (needs : List Nat) : ((eight.zip needs).map Prod.fst).Nodup := by
  exact (show eight.Nodup by decide).sublist (zip_keys_sublist _ _)

theorem mem_zip_eight {needs : List Nat} {x : Ix8 × Nat} : x ∈ eight.zip needs ↔ needs[x.1.val]? = some x.2 := by
  obtain ⟨m, v⟩ := x
  have place : eight[m.val]? = some m := by revert m; decide
  rw [List.mem_iff_getElem?]
  constructor
  · rintro ⟨i, at_⟩
    rw [List.getElem?_zip_eq_some] at at_
    obtain ⟨first, second⟩ := at_
    have same : i = m.val := by
      have bound : i < eight.length := (List.getElem?_eq_some_iff.1 first).1
      have : ∀ j : Ix8, eight[j.val]? = some j := by decide
      exact congrArg Fin.val (Option.some.inj ((this ⟨i, bound⟩).symm.trans first))
    rw [← same]
    exact second
  · intro there
    exact ⟨m.val, List.getElem?_zip_eq_some.2 ⟨place, there⟩⟩

/-! ## The grant of the one waiting entry (R82, R84) -/

theorem Device.grantTest_waits {x : PoolEntry} {rest : List PoolEntry} (queue : d.pool.queue = x :: rest)
    (short : d.pool.free.length < x.count) (own : Option Ix8) : d.grantTest own = d := by
  rw [Device.grantTest, queue]
  change Device.grantLoop own (rest.length + 1) d = d
  unfold Device.grantLoop
  simp only [queue]
  exact if_neg (not_le.2 short)

theorem Device.grantTest_single {x : PoolEntry} (queue : d.pool.queue = [x]) (fits : x.count ≤ d.pool.free.length)
    (own : Option Ix8) : d.grantTest own = d.grantHead own x := by
  rw [Device.grantTest, queue]
  change Device.grantLoop own 1 d = _
  unfold Device.grantLoop
  simp only [queue]
  exact if_pos fits

/-- The lines that the sharing of a whole grant leaves, where it is just what the members lack. -/
theorem Device.grantHead_eq (d : Device) (own : Option Ix8) (x : PoolEntry) :
    d.grantHead own x =
      let r := shareOut (d.needList x.prog) (d.pool.free.take x.count) (d.prog x.prog).delay.lines
      { d.withLines x.prog r.lines with pool := { d.pool with
        free := r.left ++ d.pool.free.drop x.count, queue := d.pool.queue.tail, needs := d.pool.needs.set x.prog none
        notices := if own = some x.prog then d.pool.notices
          else d.pool.notices ++ [{ prog := x.prog, given := r.given, limited := x.limited }] } } := rfl

theorem blockNeed_max (a b : Nat) : blockNeed (max a b) = max (blockNeed a) (blockNeed b) := by
  unfold blockNeed
  split_ifs <;> omega

/-- Nothing of the excess of an empty line that holds no more than its keep length needs. -/
theorem Line.excess_none {l : Line} (h : l.d = 0 → l.held ≤ blockNeed l.keep) : l.excess = 0 := by
  unfold Line.excess
  split_ifs with empty
  · have := h empty
    omega
  · rfl

theorem foldPending_exact (p : Option PendingRecalc) : foldPending p .exact false =
    { mode := .exact, host := p.elim false PendingRecalc.host } := by
  cases p with
  | none => rfl
  | some q => exact congrArg (PendingRecalc.mk .exact) (Bool.or_false _)

theorem Device.withLines_blocks (d : Device) (n : Ix8) {ls : Oct Line}
    (spares : ∀ m, ls.get m = { d.line n m with spare := (ls.get m).spare }) : d.BlocksOnly (d.withLines n ls) where
  spares k m := by
    by_cases own : k = n
    · subst own
      rw [d.withLines_line]
      exact spares m
    · rw [Device.line, d.withLines_other own]
      rfl
  delay k := by
    by_cases own : k = n
    · subst own
      rw [d.withLines_prog]
    · rw [d.withLines_other own]
  alarms := rfl

/-- Spare blocks make no difference to whether a change is in progress. -/
theorem Device.BlocksOnly.changing (h : d.BlocksOnly e) (record : (e.prog n).record = (d.prog n).record) :
    e.changing n = d.changing n := by
  have line (m : Ix8) : (e.line n m).change = (d.line n m).change := by rw [h.spares n m]
  have fade := congrArg Delay.fade (h.delay n)
  unfold Device.changing
  simp only [line, record, fade]

/-- The required lengths are computed without any move of blocks. -/
theorem Device.requireAll_holds (d : Device) (n m : Ix8) : ((d.requireAll n).line n m).d = (d.line n m).d ∧
    ((d.requireAll n).line n m).inUse = (d.line n m).inUse ∧ ((d.requireAll n).line n m).held = (d.line n m).held := by
  cases there : (d.prog n).record.members[m.val]? with
  | none => rw [d.requireAll_eq, d.reline_line_unlisted n _ there]; exact ⟨rfl, rfl, rfl⟩
  | some z => rw [d.requireAll_line n there]; exact ⟨rfl, rfl, rfl⟩

/-- A trigger folded with no request waiting and no empty line with blocks to spare: the required lengths and the
pending recalculation. -/
theorem Device.fold_kept_blocks (entry : d.hasEntry n = false) (mode : RecalcMode) (host : Bool)
    (tight : ∀ m z, (d.prog n).record.members[m.val]? = some z → (d.line n m).d = 0 → (d.line n m).held ≤
      max (blockNeed (d.line n m).goal) (blockNeed (d.requiredOf n z))) :
    d.fold n mode host = (d.requireAll n).modDelay n fun x =>
      { x with pending := some (foldPending (d.prog n).delay.pending mode host) } := by
  rw [Device.fold_unqueued entry]
  refine Device.returnExcess_none fun m z listed => Line.excess_none fun empty => ?_
  rw [Device.prog_modDelay_self] at listed
  have listed : (d.prog n).record.members[m.val]? = some z := by
    rw [← (d.requireAll_engine n).record n]
    exact listed
  have line : ((d.requireAll n).modDelay n fun x => { x with
      pending := some (foldPending (d.prog n).delay.pending mode host) }).line n m = (d.requireAll n).line n m := by
    rw [Device.line, Device.prog_modDelay_self]
    rfl
  rw [line, d.requireAll_line n listed] at empty ⊢
  refine (tight m z listed empty).trans ?_
  rw [Line.keep, blockNeed_max, blockNeed_max]
  exact max_le (le_max_right _ _) ((le_max_right _ _).trans (le_max_left _ _))

/-- Settles O49: an entry too large waits; one that fits is shared out, and its notice folded. -/
theorem grantCoversTheShortfall : Obligations.GrantCoversTheShortfall := by
  intro s n count limited needs queue notices wants size x tight
  have run : exec .grant s = .next { s with dev := s.dev.grant } := rfl
  refine ⟨fun short => ?_, fun fits exact_ active moves => ?_⟩
  · have still : s.dev.grant = s.dev := by
      rw [Device.grant, Device.grantTest_waits queue short, Device.takeNotice]
      simp only [notices]
    rw [run, still]
  · refine ⟨s.dev.grant, run, ?_⟩
    rw [Device.grant, Device.grantTest_single queue fits, Device.grantHead_eq]
    have list : s.dev.needList n = eight.zip needs := by rw [Device.needList, wants]; rfl
    have took : (s.dev.pool.free.take count).length = count := by rw [List.length_take, min_eq_left fits]
    rw [Device.shortfall_eq] at exact_
    obtain ⟨left, -, listed, unlisted⟩ :=
      shareOut_spec (eight.zip needs) (zip_eight_keys needs) (s.dev.pool.free.take count) x.delay.lines
    have spares := shareOut_spares (eight.zip needs) (s.dev.pool.free.take count) x.delay.lines
    dsimp only
    rw [list]
    change _ at left
    rw [show (s.dev.prog n).delay.lines = x.delay.lines from rfl]
    rw [took] at listed
    generalize shareOut (eight.zip needs) (s.dev.pool.free.take count) x.delay.lines = r at *
    have none : r.left = [] := by
      rw [left, ← exact_]
      exact List.drop_eq_nil_of_le took.le
    have all (m : Ix8) : (r.lines.get m).held = max (needs.getD m.val 0) (x.delay.lines.get m).held := by
      rw [List.getD_eq_getElem?_getD]
      cases there : needs[m.val]? with
      | none =>
        rw [unlisted m fun key => by
          obtain ⟨y, pair, same⟩ := List.mem_map.1 key
          rw [mem_zip_eight, same, there] at pair
          nomatch pair]
        exact (Nat.zero_max _).symm
      | some v => exact (listed (m, v) (mem_zip_eight.2 there)).2.2 exact_.symm.le
    obtain ⟨g, gEq⟩ : ∃ g : Device, g = { s.dev.withLines n r.lines with pool := { s.dev.pool with
        free := s.dev.pool.free.drop count, queue := [], needs := s.dev.pool.needs.set n .none } } := ⟨_, rfl⟩
    have taken : Device.takeNotice { s.dev.withLines n r.lines with pool := { s.dev.pool with
          free := r.left ++ s.dev.pool.free.drop count, queue := s.dev.pool.queue.tail
          needs := s.dev.pool.needs.set n .none
          notices := if Option.none = some n then s.dev.pool.notices
            else s.dev.pool.notices ++ [{ prog := n, given := r.given, limited := limited }] } } =
        g.trigger n .exact false := by
      rw [Device.takeNotice, gEq, none, queue, notices, if_neg nofun]
      simp only [List.nil_append]
      rw [← notices]
      rfl
    rw [taken]
    have gProg : g.prog n = { x with delay := { x.delay with lines := r.lines } } := by
      rw [gEq]
      exact s.dev.withLines_prog n r.lines
    have gLine (m : Ix8) : g.line n m = r.lines.get m := by rw [Device.line, gProg]
    have blocks : s.dev.BlocksOnly g := by
      rw [gEq]
      exact (s.dev.withLines_blocks n spares).trans (.same rfl rfl)
    have gActive : g.active n = true := by
      rw [Device.active_iff, gProg]
      exact active
    have entry : g.hasEntry n = false := by rw [gEq]; rfl
    have gRequired (z : Member) : g.requiredOf n z =
        (s.dev.required x.record.settings.delayTarget (z.on x.ctx.selection)).toNat := by
      rw [Device.requiredOf, gProg, gEq]
      rfl
    have folded := Device.fold_kept_blocks entry .exact false fun m z there empty => by
      rw [gProg] at there
      rw [gLine] at empty ⊢
      rw [gRequired, all m, Line.goal]
      rw [spares m] at empty
      rw [spares m]
      refine (tight m z there empty).trans (max_le_max ?_ le_rfl)
      change (if (x.delay.lines.get m).change = .steady then 0 else _) ≤
        blockNeed (if (x.delay.lines.get m).change = .steady then 0 else _)
      split_ifs
      · exact Nat.zero_le _
      · exact le_rfl
    rw [Device.trigger, if_pos gActive, if_pos ((blocks.changing (by rw [gProg])).trans moves), folded]
    have engine := (g.requireAll_engine n).trans (Device.modDelay_engine (g.requireAll n) n fun y =>
      { y with pending := some (foldPending (g.prog n).delay.pending .exact false) })
    have line (m : Ix8) : ((g.requireAll n).modDelay n fun y => { y with
        pending := some (foldPending (g.prog n).delay.pending .exact false) }).line n m = (g.requireAll n).line n m := by
      rw [Device.line, Device.prog_modDelay_self]
      rfl
    have pool : (g.requireAll n).pool = g.pool := by rw [g.requireAll_eq]; rfl
    have other (k : Ix8) (h : k ≠ n) : (g.requireAll n).prog k = g.prog k := by
      rw [g.requireAll_eq]
      exact g.reline_other n _ h
    have gOther (k : Ix8) (h : k ≠ n) : g.prog k = s.dev.prog k := by
      rw [gEq]
      exact s.dev.withLines_other h _
    refine ⟨?_, fun m k there => ?_, ?_, fun k h => ?_, engine.time.trans ?_, engine.ports.trans ?_, engine.mem.trans ?_,
      engine.map.trans ?_, (g.requireAll_alarms n).trans blocks.alarms, engine.link.trans ?_⟩
    · change (g.requireAll n).pool = _
      rw [pool, gEq]
    · obtain ⟨long, used, held⟩ := g.requireAll_holds n m
      rw [line, long, used, held, gLine, all m, List.getD_eq_getElem?_getD, there, spares m]
      exact ⟨rfl, rfl, rfl⟩
    · rw [Device.prog_modDelay_self, gProg, foldPending_exact]
      cases x.delay.pending <;> rfl
    · rw [Device.modDelay, Device.prog_modProg, if_neg h.symm, other k h, gOther k h]
    · rw [gEq]; rfl
    · rw [gEq]; rfl
    · rw [gEq]; rfl
    · rw [gEq]; rfl
    · rw [gEq]; rfl

end Sys2Proof.Machine
end

section
/-!
PROOF. A SETUP taken in ACTIVE (R48, R49, R64, R71, R94, R103, R130, R135).
-/

namespace Sys2Proof.Machine

variable {d e : Device} {s : State} {n k m : Ix8} {z : Member} {mode : RecalcMode} {host : Bool} {f : BitVec 24}

/-! ## DELAY_SHORT alone (R105) -/

theorem Device.settleBlocks_alarms (d : Device) (n : Ix8) (target : Line → Nat) :
    (d.settleBlocks n target).alarms = d.alarms := by
  unfold Device.settleBlocks
  extract_lets short r
  split
  · rw [Device.mapLines_eq]
    exact (d.requestBlocks_blocks n _).alarms
  · rw [Device.mapLines_eq]
    rfl

theorem Device.reportShort_alarms (d : Device) (n : Ix8) (a : Alarm) (other : a ≠ .delayShort n) :
    (d.reportShort n).alarms.get a = d.alarms.get a := by
  unfold Device.reportShort
  split
  · change (d.alarms.activate _ _).get a = _
    rw [AlarmUnit.activate_get, if_neg fun h => other h.1]
  · rfl

/-- A recalculation reports DELAY_SHORT of its own programme alone. -/
theorem Device.recalculate_alarms (d : Device) (n : Ix8) (mode : RecalcMode) (host : Bool) (a : Alarm)
    (other : a ≠ .delayShort n) : (d.recalculate n mode host).alarms.get a = d.alarms.get a := by
  rw [Device.recalculate]
  refine (Device.startChange_alarms _ n host a other).trans ((Device.reportShort_alarms _ n a other).trans ?_)
  rw [Device.settleBlocks_alarms, (Device.returnExcess_blocks _ n).alarms, d.requireAll_alarms]

/-! ## What a SETUP reaches before the delay engine (R48, R49) -/

/-- The part with the settings of an ACTIVE programme stored, and passed to its gain computer and its trim. -/
def Device.reached (d : Device) (n : Ix8) (f : BitVec 24) (o : Settings) : Device :=
  d.modProg n fun x => { x with
    record := { x.record with settings := o }
    ctx := { x.ctx with gapThreshold := if f.getLsbD 9 then amplitudeOf o.gapLevel else x.ctx.gapThreshold }
    gain := { x.gain with
      g := if f.getLsbD 3 = true ∨ f.getLsbD 4 = true then clampInt x.gain.g (-10 * o.maxCut) (10 * o.maxBoost)
        else x.gain.g }
    stage := { x.stage with
      trimRamp := if f.getLsbD 6 = true then some { start := x.stage.trim, target := o.trim, step := 0 }
        else x.stage.trimRamp } }

theorem Device.modProg_ite (d : Device) (n : Ix8) (c : Prop) [Decidable c] (g : Programme → Programme) :
    (if c then d.modProg n g else d) = d.modProg n fun x => if c then g x else x := by
  split_ifs with h
  · rfl
  · change d = { d with progs := d.progs.set n (d.progs.get n) }
    rw [Oct.set_get]

theorem Device.applySetup_eq (d : Device) (n : Ix8) (f : BitVec 24) (o : Settings) :
    (d.stored n f o).applySetup n f =
      if f.getLsbD 0 then (d.reached n f o).targetTrigger n else d.reached n f o := by
  have settings : ((d.stored n f o).prog n).record.settings = o := by
    rw [Device.stored, Device.prog_modProg_self]
  have clamps : (if present f 3 || present f 4 then (d.stored n f o).modGain n fun g => g.clampTo o else d.stored n f o) =
      (d.stored n f o).modProg n fun x => if present f 3 || present f 4 then { x with gain := x.gain.clampTo o } else x :=
    Device.modProg_ite _ n _ _
  have ramps (e : Device) : (if present f 6 then e.modStage n fun g => g.startTrim o.trim else e) =
      e.modProg n fun x => if present f 6 then { x with stage := x.stage.startTrim o.trim } else x :=
    e.modProg_ite n _ _
  have both : (if present f 6 then (if present f 3 || present f 4 then (d.stored n f o).modGain n fun g => g.clampTo o
        else d.stored n f o).modStage n fun g => g.startTrim o.trim
      else if present f 3 || present f 4 then (d.stored n f o).modGain n fun g => g.clampTo o else d.stored n f o) =
      d.reached n f o := by
    rw [ramps, clamps, Device.modProg_modProg, Device.stored, Device.modProg_modProg]
    refine d.modProg_congr n ?_
    have gain : (present f 3 || present f 4) = true ↔ f.getLsbD 3 = true ∨ f.getLsbD 4 = true := Bool.or_eq_true _ _ ▸ .rfl
    rw [if_congr gain rfl rfl]
    unfold present
    split_ifs <;> rfl
  rw [Device.applySetup]
  simp only [settings, both]
  rfl

theorem Device.reached_prog (d : Device) (n : Ix8) (f : BitVec 24) (o : Settings) : (d.reached n f o).prog n =
    { d.prog n with
      record := { (d.prog n).record with settings := o }
      ctx := { (d.prog n).ctx with
        gapThreshold := if f.getLsbD 9 then amplitudeOf o.gapLevel else (d.prog n).ctx.gapThreshold }
      gain := { (d.prog n).gain with
        g := if f.getLsbD 3 = true ∨ f.getLsbD 4 = true then
          clampInt (d.prog n).gain.g (-10 * o.maxCut) (10 * o.maxBoost) else (d.prog n).gain.g }
      stage := { (d.prog n).stage with
        trimRamp := if f.getLsbD 6 = true then some { start := (d.prog n).stage.trim, target := o.trim, step := 0 }
          else (d.prog n).stage.trimRamp } } := by
  rw [Device.reached, Device.prog_modProg_self]

theorem Device.reached_line (d : Device) (n : Ix8) (f : BitVec 24) (o : Settings) (m : Ix8) :
    (d.reached n f o).line n m = d.line n m := by
  rw [Device.line, d.reached_prog]
  rfl

theorem Device.reached_changing (d : Device) (n : Ix8) (f : BitVec 24) (o : Settings) :
    (d.reached n f o).changing n = d.changing n := by
  unfold Device.changing
  simp only [d.reached_line]
  rw [d.reached_prog]
  rfl

/-- The reply of a SETUP taken, and the part that it leaves. -/
theorem exec_setup_active {tag : Byte} {b : SettingsBlock} {loud : LoudMode} {change : ChangeMode}
    (ready : s.dev.readyInRun) (active : (s.dev.prog n).record.state = .active) (names : namesModes f b loud change) :
    let o := (s.dev.prog n).record.settings.storing f b loud change
    let e := if f.getLsbD 0 then (s.dev.reached n f o).targetTrigger n else s.dev.reached n f o
    exec (.setup tag (byteOf n.val) f b) s = .next (s.answered e
      (executedReply 0xA1 tag (Answer.clampedIf (setupClamped f b) []).status [byteOf n.val :: settingsBytes o])) := by
  intro o e
  obtain ⟨l, c, take, run⟩ := exec_setup (tag := tag) ready names (.inr active)
  have setup : s.dev.setup n f b l c = e := by
    rw [Device.setup_eq, take]
    have here : s.dev.active n = true := Device.active_iff.2 active
    exact (if_pos here).trans (s.dev.applySetup_eq n f o)
  have engine : (s.dev.reached n f o).EngineOnly e := by
    change (s.dev.reached n f o).EngineOnly (if f.getLsbD 0 then _ else _)
    split_ifs
    · exact Device.targetTrigger_engine _ n
    · exact .refl _
  have fields : (s.dev.setup n f b l c).setupFields n = byteOf n.val :: settingsBytes o := by
    rw [setup, Device.setupFields, engine.record n, s.dev.reached_prog]
  rw [run, fields, setup]

/-- A trigger by a new delay target in a change, or by none. -/
theorem Device.targetTrigger_eq (active : d.active n = true) :
    (d.changing n = true → d.targetTrigger n = d.fold n .exact true) ∧
    (d.changing n = false → (d.prog n).record.settings.delayTarget = (d.prog n).delay.tLines → d.targetTrigger n = d) ∧
    (d.changing n = false → (d.prog n).record.settings.delayTarget ≠ (d.prog n).delay.tLines →
      d.targetTrigger n = d.recalculate n .exact true) := by
  rw [Device.targetTrigger, if_pos active]
  exact ⟨fun h => if_pos h, fun h same => (if_neg (by rw [h]; nofun)).trans (if_pos same),
    fun h other => (if_neg (by rw [h]; nofun)).trans (if_neg other)⟩

theorem Device.targetTrigger_alarms (d : Device) (n : Ix8) (a : Alarm) (other : a ≠ .delayShort n) :
    (d.targetTrigger n).alarms.get a = d.alarms.get a := by
  unfold Device.targetTrigger
  split
  · split
    · rw [(d.fold_spec n .exact true).2.1]
    · split
      · rfl
      · exact d.recalculate_alarms n .exact true a other
  · rfl

/-- Settles O19: what the settings reach, and the delay engine's part of it. -/
theorem setupInActiveReachesTheBlocks : Obligations.SetupInActiveReachesTheBlocks := by
  intro s tag n f b loud change ready active names old stored
  have run := exec_setup_active (tag := tag) ready active names
  change exec (.setup tag (byteOf n.val) f b) s = .next (s.answered
    (if f.getLsbD 0 then (s.dev.reached n f stored).targetTrigger n else s.dev.reached n f stored)
    (executedReply 0xA1 tag (Answer.clampedIf (setupClamped f b) []).status [byteOf n.val :: settingsBytes stored])) at run
  obtain ⟨ok, clamped⟩ := setupStatus f b []
  have prog := s.dev.reached_prog n f stored
  have here : (s.dev.reached n f stored).active n = true := by
    rw [Device.active_iff, prog]
    exact active
  have moving := s.dev.reached_changing n f stored
  obtain ⟨folds, rests, -⟩ := Device.targetTrigger_eq here
  have rest : (s.dev.reached n f stored).time = s.dev.time ∧ (s.dev.reached n f stored).ports = s.dev.ports ∧
    (s.dev.reached n f stored).mem = s.dev.mem ∧ (s.dev.reached n f stored).map = s.dev.map ∧
    (s.dev.reached n f stored).checkers = s.dev.checkers ∧ (s.dev.reached n f stored).link = s.dev.link ∧
    (s.dev.reached n f stored).alarms = s.dev.alarms ∧ (s.dev.reached n f stored).pool = s.dev.pool :=
      ⟨rfl, rfl, rfl, rfl, rfl, rfl, rfl, rfl⟩
  generalize s.dev.reached n f stored = a at *
  rw [run]
  refine ⟨_, _, rfl, fun h => by rw [ok h], fun h => by rw [clamped h], ?_⟩
  intro new
  have engine : a.EngineOnly (if f.getLsbD 0 then a.targetTrigger n else a) := by
    split_ifs
    · exact a.targetTrigger_engine n
    · exact .refl a
  have alarms (x : Alarm) (other : x ≠ .delayShort n) :
      (if f.getLsbD 0 then a.targetTrigger n else a).alarms.get x = s.dev.alarms.get x := by
    rw [← rest.2.2.2.2.2.2.1]
    split_ifs
    · exact a.targetTrigger_alarms n x other
    · rfl
  have own := engine.prog n
  rw [prog] at own
  change new = _ at own
  obtain ⟨time, ports, mem, map, checkers, link, -, pool⟩ := rest
  refine ⟨by rw [own], by rw [own], by rw [own], by rw [own], fun given moves => ?_, fun given still same => ?_,
    fun absent => ?_, by rw [own], by rw [own], alarms, engine.time.trans time, engine.ports.trans ports,
    engine.mem.trans mem, engine.map.trans map, engine.checkers.trans checkers, engine.link.trans link⟩
  · obtain ⟨-, -, q, which, delay⟩ := a.fold_spec n .exact true
    have taken : (if f.getLsbD 0 then a.targetTrigger n else a) = a.fold n .exact true :=
      (if_pos given).trans (folds (moving.trans moves))
    have value : q = { mode := .exact, host := true } := by
      rcases which with rfl | rfl <;> cases (a.prog n).delay.pending <;> simp [foldPending]
    change (Device.prog (if f.getLsbD 0 then a.targetTrigger n else a) n).delay.pending = _ ∧ 
      (Device.prog (if f.getLsbD 0 then a.targetTrigger n else a) n).delay.fade = _ ∧
      (Device.prog (if f.getLsbD 0 then a.targetTrigger n else a) n).delay.tLines = _
    rw [taken, delay, prog, value]
    exact ⟨rfl, rfl, rfl⟩
  · have taken : (if f.getLsbD 0 then a.targetTrigger n else a) = a :=
      (if_pos given).trans (rests (moving.trans still) (by rw [prog]; exact same))
    change (Device.prog (if f.getLsbD 0 then a.targetTrigger n else a) n).delay = _ ∧ _
    rw [taken, prog]
    exact ⟨rfl, pool⟩
  · have taken : (if f.getLsbD 0 then a.targetTrigger n else a) = a := if_neg (by rw [absent]; nofun)
    change (Device.prog (if f.getLsbD 0 then a.targetTrigger n else a) n).delay = _ ∧ _
    rw [taken, prog]
    exact ⟨rfl, pool⟩

end Sys2Proof.Machine
end

section
/-!
SUPPORT. The settling of the blocks where they can be short: what the programme's request brings, and the lengths that the
members then run at (R78, R79, R82, R83, R96).
-/

namespace Sys2Proof.Machine

variable {d e : Device} {s : State} {n k m : Ix8} {z : Member}

/-! ## The members as positions -/

theorem Record.positions_take (r : Record) : r.positions = eight.take r.members.length := by
  rw [r.positions_eq]
  have isSome (m : Ix8) : r.members[m.val]?.isSome = decide (m.val < r.members.length) := by
    rw [Bool.eq_iff_iff, decide_eq_true_iff, Option.isSome_iff_exists]
    exact ⟨fun ⟨_, h⟩ => (List.getElem?_eq_some_iff.1 h).1, fun h => ⟨_, List.getElem?_eq_getElem h⟩⟩
  simp only [isSome]
  by_cases short : r.members.length < 8
  · interval_cases r.members.length <;> decide
  · rw [List.take_of_length_le (by exact not_lt.1 short), List.filter_eq_self]
    exact fun m _ => decide_eq_true (lt_of_lt_of_le m.isLt (not_lt.1 short))

theorem Record.positions_map {α : Type} (r : Record) (g : Ix8 → α) (m : Ix8) :
    (r.positions.map g)[m.val]? = if m.val < r.members.length then some (g m) else none := by
  have place (m : Ix8) : eight[m.val]? = some m := by revert m; decide
  rw [r.positions_take, List.getElem?_map, List.getElem?_take, place]
  split_ifs <;> rfl

theorem sum_zip_eight (len : Nat) (g : Ix8 → Nat) (f : Ix8 × Nat → Nat) :
    ((eight.zip ((eight.take len).map g)).map f).sum =
      (eight.map fun m => if m.val < len then f (m, g m) else 0).sum := by
  by_cases short : len < 8
  · interval_cases len <;> simp [eight]
  · rw [List.take_of_length_le (by exact not_lt.1 short)]
    have all (m : Ix8) : m.val < len := lt_of_lt_of_le m.isLt (not_lt.1 short)
    simp only [all, if_true]
    simp [eight]

/-- What a programme lacks for the targets of its members. -/
def Device.lack (d : Device) (n : Ix8) (target : Line → Nat) : Nat :=
  (eight.map fun m => if m.val < (d.prog n).record.members.length then
    blockNeed (target (d.line n m)) - (d.line n m).held else 0).sum

theorem Device.shortfall_needsUnder (d : Device) (n : Ix8) (target : Line → Nat) :
    d.shortfall n (d.needsUnder n target) = d.lack n target := by
  rw [Device.shortfall, Device.needsUnder, Record.positions_take]
  exact sum_zip_eight _ _ _

theorem Device.lack_eq_zero (d : Device) (n : Ix8) (target : Line → Nat) : d.lack n target = 0 ↔
    ∀ m z, (d.prog n).record.members[m.val]? = some z → blockNeed (target (d.line n m)) ≤ (d.line n m).held := by
  rw [Device.lack, List.sum_eq_zero_iff]
  constructor
  · intro none m z listed
    have short : m.val < (d.prog n).record.members.length := (List.getElem?_eq_some_iff.1 listed).1
    have := none _ (List.mem_map_of_mem (mem_eight m))
    rw [if_pos short] at this
    omega
  · intro enough v there
    obtain ⟨m, -, rfl⟩ := List.mem_map.1 there
    split_ifs with short
    · have := enough m _ (List.getElem?_eq_getElem short)
      omega
    · rfl

/-! ## A programme's request (R78, R79, R82) -/

theorem placeEntry_zero (queue : List PoolEntry) (e : PoolEntry) (none : (queue.any fun x => x.prog == e.prog) = false)
    (zero : e.count = 0) : placeEntry queue e = queue := by
  rw [placeEntry, if_pos zero, List.filter_eq_self]
  intro x there
  have := List.any_eq_false.1 none x there
  exact decide_eq_true fun same => this (beq_iff_eq.2 same)

theorem placeEntry_new (queue : List PoolEntry) (e : PoolEntry) (none : (queue.any fun x => x.prog == e.prog) = false)
    (asks : e.count ≠ 0) : placeEntry queue e = queue ++ [e] := by
  rw [placeEntry, if_neg asks, if_neg (by rw [none]; nofun)]

/-- A grant test whose head, if there is one, is too large. -/
theorem Device.grantTest_still (waits : ∀ q ∈ d.pool.queue.head?, d.pool.free.length < q.count) (own : Option Ix8) :
    d.grantTest own = d := by
  cases queue : d.pool.queue with
  | nil =>
    rw [Device.grantTest, queue]
    rfl
  | cons x rest => exact Device.grantTest_waits queue (waits x (by rw [queue]; rfl)) own

/-- The entry that a programme's request for its targets makes (R78). -/
def Device.asked (d : Device) (n : Ix8) (target : Line → Nat) : PoolEntry :=
  { prog := n
    count := min (d.lack n target) (d.pool.size - d.heldBy n)
    limited := decide (min (d.lack n target) (d.pool.size - d.heldBy n) < d.lack n target) }

section request

variable {target : Line → Nat} (active : d.active n = true) (entry : d.hasEntry n = false)
  (waits : ∀ q ∈ d.pool.queue.head?, d.pool.free.length < q.count)
include active

theorem Device.requestBlocks_eq : d.requestBlocks n (d.needsUnder n target) =
    let a := (d.modPool fun q => { q with needs := q.needs.set n (some (d.needsUnder n target))
                                          queue := placeEntry q.queue (d.asked n target) }).grantTest (some n)
    (a, { granted := !a.hasEntry n, limited := (d.asked n target).limited }) := by
  rw [Device.requestBlocks, if_pos active, d.shortfall_needsUnder]
  rfl

include entry waits

/-- A request for no block: the need figures stand, and nothing else. -/
theorem Device.requestBlocks_none (zero : (d.asked n target).count = 0) : d.requestBlocks n (d.needsUnder n target) =
    (d.modPool fun q => { q with needs := q.needs.set n (some (d.needsUnder n target)) },
      { granted := true, limited := (d.asked n target).limited }) := by
  rw [Device.requestBlocks_eq active]
  rw [show (d.modPool fun q => { q with needs := q.needs.set n (some (d.needsUnder n target))
                                        queue := placeEntry q.queue (d.asked n target) }) =
      d.modPool fun q => { q with needs := q.needs.set n (some (d.needsUnder n target)) } by
    unfold Device.modPool
    dsimp only
    rw [placeEntry_zero d.pool.queue (d.asked n target) entry zero]]
  rw [Device.grantTest_still (by exact waits)]
  dsimp only
  rw [show (d.modPool fun q => { q with needs := q.needs.set n (some (d.needsUnder n target)) }).hasEntry n = false
    from entry]
  rfl

/-- A request that cannot be granted at once waits at the tail. -/
theorem Device.requestBlocks_waits (asks : (d.asked n target).count ≠ 0)
    (large : d.pool.queue ≠ [] ∨ d.pool.free.length < (d.asked n target).count) :
    d.requestBlocks n (d.needsUnder n target) =
      (d.modPool fun q => { q with needs := q.needs.set n (some (d.needsUnder n target))
                                   queue := q.queue ++ [d.asked n target] },
        { granted := false, limited := (d.asked n target).limited }) := by
  rw [Device.requestBlocks_eq active]
  rw [show (d.modPool fun q => { q with needs := q.needs.set n (some (d.needsUnder n target))
                                        queue := placeEntry q.queue (d.asked n target) }) =
      d.modPool fun q => { q with needs := q.needs.set n (some (d.needsUnder n target))
                                  queue := q.queue ++ [d.asked n target] } by
    unfold Device.modPool
    dsimp only
    rw [placeEntry_new d.pool.queue (d.asked n target) entry asks]]
  have head : ∀ q ∈ (d.pool.queue ++ [d.asked n target]).head?, d.pool.free.length < q.count := by
    cases queue : d.pool.queue with
    | nil =>
      rintro q there
      obtain rfl : d.asked n target = q := Option.some.inj there
      exact large.resolve_left fun h => h queue
    | cons x rest =>
      rintro q there
      exact waits q (by rw [queue]; exact there)
  rw [Device.grantTest_still (by exact head)]
  have stands : (d.modPool fun q => { q with needs := q.needs.set n (some (d.needsUnder n target))
                                             queue := q.queue ++ [d.asked n target] }).hasEntry n = true := by
    change ((d.pool.queue ++ [d.asked n target]).any fun e => e.prog == n) = true
    rw [List.any_append, Bool.or_eq_true]
    exact .inr (by simp [Device.asked])
  dsimp only
  rw [stands]
  rfl

omit waits in
/-- A request granted at once, the pool having no other: the members share it out, and nothing is left of it. -/
theorem Device.requestBlocks_granted (queue : d.pool.queue = []) (asks : (d.asked n target).count ≠ 0)
    (fits : (d.asked n target).count ≤ d.pool.free.length) :
    d.requestBlocks n (d.needsUnder n target) =
      ({ d.withLines n (shareOut (eight.zip (d.needsUnder n target)) (d.pool.free.take (d.asked n target).count)
            (d.prog n).delay.lines).lines with
          pool := { d.pool with free := d.pool.free.drop (d.asked n target).count, needs := d.pool.needs.set n none } },
        { granted := true, limited := (d.asked n target).limited }) := by
  rw [Device.requestBlocks_eq active]
  rw [show (d.modPool fun q => { q with needs := q.needs.set n (some (d.needsUnder n target))
                                        queue := placeEntry q.queue (d.asked n target) }) =
      d.modPool fun q => { q with needs := q.needs.set n (some (d.needsUnder n target)), queue := [d.asked n target] } by
    unfold Device.modPool
    dsimp only
    rw [placeEntry_new d.pool.queue (d.asked n target) entry asks, queue]
    rfl]
  rw [Device.grantTest_single (d := d.modPool fun q => { q with
    needs := q.needs.set n (some (d.needsUnder n target)), queue := [d.asked n target] }) rfl (by exact fits)]
  have list : (d.modPool fun q => { q with needs := q.needs.set n (some (d.needsUnder n target))
                                           queue := [d.asked n target] }).needList (d.asked n target).prog =
      eight.zip (d.needsUnder n target) := by
    change eight.zip (((d.pool.needs.set n (some (d.needsUnder n target))).get n).getD []) = _
    rw [Oct.get_set_self]
    rfl
  obtain ⟨left, -⟩ := shareOut_spec (eight.zip (d.needsUnder n target)) (zip_eight_keys _)
    (d.pool.free.take (d.asked n target).count) (d.prog n).delay.lines
  rw [← d.shortfall_eq, d.shortfall_needsUnder, List.drop_eq_nil_of_le (by
    rw [List.length_take]
    exact (min_le_left _ _).trans (min_le_left _ _))] at left
  rw [Device.grantHead_eq, list]
  have none : (Option.some n = some (d.asked n target).prog) := rfl
  change (({ d.withLines n (shareOut (eight.zip (d.needsUnder n target)) (d.pool.free.take (d.asked n target).count)
      (d.prog n).delay.lines).lines with
        pool := { d.pool with
          free := (shareOut (eight.zip (d.needsUnder n target)) (d.pool.free.take (d.asked n target).count)
            (d.prog n).delay.lines).left ++ d.pool.free.drop (d.asked n target).count
          queue := [], needs := (d.pool.needs.set n (some (d.needsUnder n target))).set n .none
          notices := if Option.some n = some (d.asked n target).prog then d.pool.notices else _ } } : Device),
    ({ granted := true, limited := (d.asked n target).limited } : PoolAnswer)) = _
  rw [left, Oct.set_set, if_pos none, List.nil_append, ← queue]

end request

/-! ## The settled lengths (R96) -/

/-- A line at its target where it holds the blocks for it, and else at the length that its blocks allow. -/
def Line.settled (l : Line) (target : Nat) : Line :=
  { l with
    dNew := if l.held < blockNeed target then l.clampLength else target
    clamped := decide (l.held < blockNeed target) }

theorem Line.settle_short (l : Line) (target : Nat) : l.settle target true = l.settled target := by
  unfold Line.settle Line.settled
  by_cases short : l.held < blockNeed target
  · simp [short]
  · simp [short]

theorem Line.settle_enough {l : Line} {target : Nat} (enough : blockNeed target ≤ l.held) (short : Bool) :
    l.settle target short = l.settled target := by
  unfold Line.settle Line.settled
  have no : ¬ l.held < blockNeed target := not_lt.2 enough
  simp [no]

/-- What a programme's request leaves of the blocks: nothing asked, a request that waits, or one granted. -/
inductive Device.Asked (d g : Device) (n : Ix8) (target : Line → Nat) : Prop
  | enough (lack : d.lack n target = 0) (same : g = d)
  | nothing (lack : d.lack n target ≠ 0) (none : (d.asked n target).count = 0)
      (same : g = d.modPool fun q => { q with needs := q.needs.set n (some (d.needsUnder n target)) })
  | waiting (lack : d.lack n target ≠ 0) (asks : (d.asked n target).count ≠ 0)
      (large : d.pool.queue ≠ [] ∨ d.pool.free.length < (d.asked n target).count)
      (same : g = d.modPool fun q => { q with
        needs := q.needs.set n (some (d.needsUnder n target)), queue := q.queue ++ [d.asked n target] })
  | granted (lack : d.lack n target ≠ 0) (asks : (d.asked n target).count ≠ 0) (queue : d.pool.queue = [])
      (fits : (d.asked n target).count ≤ d.pool.free.length)
      (same : g = { d.withLines n (shareOut (eight.zip (d.needsUnder n target))
          (d.pool.free.take (d.asked n target).count) (d.prog n).delay.lines).lines with
        pool := { d.pool with free := d.pool.free.drop (d.asked n target).count, needs := d.pool.needs.set n none } })

theorem Device.needsUnder_get (d : Device) (n : Ix8) (target : Line → Nat)
    (listed : (d.prog n).record.members[m.val]? = some z) :
    (d.needsUnder n target)[m.val]? = some (blockNeed (target (d.line n m))) := by
  rw [Device.needsUnder, Record.positions_map, if_pos (List.getElem?_eq_some_iff.1 listed).1]

theorem Device.granted_line (d : Device) (n : Ix8) (ls : Oct Line) (p : Pool) (m : Ix8) :
    ({ d.withLines n ls with pool := p } : Device).line n m = ls.get m := d.withLines_line n ls m

/-- The blocks of a programme are settled: its request, and each member at its target or its clamp. -/
theorem Device.settleBlocks_asked {target : Line → Nat} (active : d.active n = true) (entry : d.hasEntry n = false)
    (waits : ∀ q ∈ d.pool.queue.head?, d.pool.free.length < q.count)
    (length : ∀ (l : Line) (spare : List Nat), target { l with spare := spare } = target l) :
    ∃ g, d.Asked g n target ∧ d.settleBlocks n target = g.reline n fun _ _ l => l.settled (target l) := by
  have lacks : ((d.prog n).record.positions.any fun m =>
      decide ((d.line n m).held < blockNeed (target (d.line n m)))) = true ↔ d.lack n target ≠ 0 := by
    rw [d.any_positions_iff, Ne, d.lack_eq_zero]
    simp only [decide_eq_true_iff, not_forall, not_le, exists_prop]
  by_cases lack : d.lack n target = 0
  · have enough : ((d.prog n).record.positions.any fun m =>
        decide ((d.line n m).held < blockNeed (target (d.line n m)))) = false :=
      eq_false_of_ne_true fun h => lacks.1 h lack
    refine ⟨d, .enough lack rfl, ?_⟩
    rw [Device.settleBlocks, enough, entry]
    refine (d.mapLines_eq n _).trans (Device.reline_congr fun m z listed => ?_)
    exact Line.settle_enough ((d.lack_eq_zero n target).1 lack m z listed) false
  · have request : ((d.prog n).record.positions.any fun m =>
        decide ((d.line n m).held < blockNeed (target (d.line n m)))) = true := lacks.2 lack
    have run (g : Device) (a : PoolAnswer) (answer : d.requestBlocks n (d.needsUnder n target) = (g, a)) :
        d.settleBlocks n target = g.mapLines n fun l => l.settle (target l) (!a.granted || a.limited) := by
      rw [Device.settleBlocks, request, answer]
      rfl
    by_cases none : (d.asked n target).count = 0
    · refine ⟨_, .nothing lack none rfl, ?_⟩
      have limited : (d.asked n target).limited = true := decide_eq_true (by
        change (d.asked n target).count < _
        rw [none]
        exact Nat.pos_of_ne_zero lack)
      rw [run _ _ (Device.requestBlocks_none active entry waits none), limited, Device.mapLines_eq]
      simp only [Bool.or_true, Line.settle_short]
    by_cases large : d.pool.queue ≠ [] ∨ d.pool.free.length < (d.asked n target).count
    · refine ⟨_, .waiting lack none large rfl, ?_⟩
      rw [run _ _ (Device.requestBlocks_waits active entry waits none large), Device.mapLines_eq]
      simp only [Bool.not_false, Bool.true_or, Line.settle_short]
    · rw [not_or, not_not, not_lt] at large
      obtain ⟨queue, fits⟩ := large
      refine ⟨_, .granted lack none queue fits rfl, ?_⟩
      rw [run _ _ (Device.requestBlocks_granted active entry queue none fits), Device.mapLines_eq]
      cases limited : (d.asked n target).limited with
      | true => simp only [Bool.or_true, Line.settle_short]
      | false =>
        refine Device.reline_congr fun m z listed => Line.settle_enough ?_ _
        have listed : (d.prog n).record.members[m.val]? = some z := by
          rw [← congrArg Programme.record (d.withLines_prog n (shareOut (eight.zip (d.needsUnder n target))
            (d.pool.free.take (d.asked n target).count) (d.prog n).delay.lines).lines)]
          exact listed
        have whole : (d.asked n target).count = d.lack n target := by
          have unlimited : ¬ (d.asked n target).count < d.lack n target := of_decide_eq_false limited
          exact le_antisymm (min_le_left _ _) (not_lt.1 unlimited)
        obtain ⟨-, -, shares, -⟩ := shareOut_spec (eight.zip (d.needsUnder n target)) (zip_eight_keys _)
          (d.pool.free.take (d.asked n target).count) (d.prog n).delay.lines
        have spares := shareOut_spares (eight.zip (d.needsUnder n target))
          (d.pool.free.take (d.asked n target).count) (d.prog n).delay.lines m
        have share := (shares (m, blockNeed (target (d.line n m)))
          (mem_zip_eight.2 (d.needsUnder_get n target listed))).2.2 (by
            rw [← d.shortfall_eq, d.shortfall_needsUnder, List.length_take, min_eq_left fits, whole])
        generalize shareOut (eight.zip (d.needsUnder n target)) (d.pool.free.take (d.asked n target).count)
          (d.prog n).delay.lines = r at *
        have same : (r.lines.get m).held = max (blockNeed (target (d.line n m))) (d.line n m).held := share
        rw [d.granted_line n r.lines]
        rw [same, spares, length]
        exact le_max_left _ _

end Sys2Proof.Machine
end

section
/-!
PROOF. A new delay target taken with no change in progress, where the pool can be short (R78, R82, R83, R90, R92, R95 to
R99, R105).
-/

namespace Sys2Proof.Machine

variable {d e g : Device} {s : State} {n k m : Ix8} {z : Member} {target : Line → Nat} {host : Bool}

/-! ## What a programme's request leaves (R78, R82, R83) -/

theorem Device.asked_count (d : Device) (n : Ix8) (target : Line → Nat) :
    (d.asked n target).count = min (d.lack n target) (d.pool.size - d.heldBy n) := rfl

/-- The need of a member, and its blocks after a grant shared out in a programme. -/
theorem Device.granted_held (d : Device) (n : Ix8) (target : Line → Nat) {blocks : List Nat} (m : Ix8) :
    let r := shareOut (eight.zip (d.needsUnder n target)) blocks (d.prog n).delay.lines
    (d.line n m).held ≤ (r.lines.get m).held ∧
      (d.lack n target ≤ blocks.length → (r.lines.get m).held = (d.line n m).held +
        if m.val < (d.prog n).record.members.length then blockNeed (target (d.line n m)) - (d.line n m).held else 0) ∧
      (r.lines.get m).held ≤ (d.line n m).held +
        if m.val < (d.prog n).record.members.length then blockNeed (target (d.line n m)) - (d.line n m).held else 0 := by
  obtain ⟨-, -, listed, unlisted⟩ := shareOut_spec (eight.zip (d.needsUnder n target)) (zip_eight_keys _) blocks
    (d.prog n).delay.lines
  rw [← d.shortfall_eq, d.shortfall_needsUnder] at listed
  intro r
  by_cases short : m.val < (d.prog n).record.members.length
  · obtain ⟨low, high, whole⟩ := listed (m, blockNeed (target (d.line n m)))
      (mem_zip_eight.2 (d.needsUnder_get n target (List.getElem?_eq_getElem short)))
    change (d.line n m).held ≤ (r.lines.get m).held at low
    change (r.lines.get m).held ≤ max _ (d.line n m).held at high
    change _ → (r.lines.get m).held = max _ (d.line n m).held at whole
    rw [if_pos short]
    exact ⟨low, fun enough => by have := whole enough; omega, by omega⟩
  · have same : r.lines.get m = d.line n m := unlisted m fun key => by
      obtain ⟨y, pair, same⟩ := List.mem_map.1 key
      rw [mem_zip_eight, same, Device.needsUnder, Record.positions_map, if_neg short] at pair
      nomatch pair
    rw [if_neg short, same]
    exact ⟨le_rfl, fun _ => rfl, le_rfl⟩

theorem Device.heldBy_eq (d : Device) (n : Ix8) : d.heldBy n = (eight.map fun m => (d.line n m).held).sum := by
  rw [Device.heldBy, Oct.toList_eq_map_get, List.map_map]
  rfl

theorem Device.granted_heldBy (d : Device) (n : Ix8) (ls : Oct Line) (p : Pool) :
    ({ d.withLines n ls with pool := p } : Device).heldBy n = (ls.toList.map Line.held).sum := by
  change (((d.withLines n ls).prog n).delay.lines.toList.map Line.held).sum = _
  rw [d.withLines_prog]

namespace Device.Asked

variable (h : d.Asked g n target)
include h

theorem blocks : d.BlocksOnly g := by
  cases h with
  | enough _ same => rw [same]; exact .refl d
  | nothing _ _ same => rw [same]; exact .same rfl rfl
  | waiting _ _ _ same => rw [same]; exact .same rfl rfl
  | granted _ _ _ _ same =>
    rw [same]
    exact (d.withLines_blocks n (shareOut_spares _ _ _)).trans (.same rfl rfl)

theorem engine : d.EngineOnly g := by
  cases h with
  | enough _ same => rw [same]; exact .refl d
  | nothing _ _ same => rw [same]; exact Device.modPool_engine d _
  | waiting _ _ _ same => rw [same]; exact Device.modPool_engine d _
  | granted _ _ _ _ same =>
    rw [same]
    exact (show d.EngineOnly (d.withLines n _) from Device.modDelay_engine d n _).trans (Device.modPool_engine _ fun _ => _)

theorem others (other : k ≠ n) : g.prog k = d.prog k := by
  cases h with
  | enough _ same => rw [same]
  | nothing _ _ same => rw [same]; rfl
  | waiting _ _ _ same => rw [same]; rfl
  | granted _ _ _ _ same =>
    rw [same]
    exact d.withLines_other other _

/-- Where what is lacked is free, and the pool is large enough for it, every member holds its need. -/
theorem whole (queue : d.pool.queue = []) (free : d.lack n target ≤ d.pool.free.length)
    (room : d.lack n target ≤ d.pool.size - d.heldBy n) :
    g.pool.queue = [] ∧ g.pool.free = d.pool.free.drop (d.lack n target) ∧ ∀ m z,
      (d.prog n).record.members[m.val]? = some z →
        (g.line n m).held = max (blockNeed (target (d.line n m))) (d.line n m).held := by
  have count : (d.asked n target).count = d.lack n target := min_eq_left room
  cases h with
  | enough lack same =>
    rw [same, lack]
    refine ⟨queue, rfl, fun m z listed => ?_⟩
    rw [max_eq_right ((d.lack_eq_zero n target).1 lack m z listed)]
  | nothing lack none same => exact absurd (count.symm.trans none) lack
  | waiting lack asks large same =>
    rw [count] at large
    exact absurd free (not_le.2 (large.resolve_left fun h => h queue))
  | granted lack asks queue' fits same =>
    rw [same, count]
    refine ⟨queue, rfl, fun m z listed => ?_⟩
    rw [d.granted_line]
    have short := (List.getElem?_eq_some_iff.1 listed).1
    have held := (d.granted_held n target (blocks := d.pool.free.take (d.lack n target)) m).2.1 (by
      rw [List.length_take, min_eq_left free])
    rw [if_pos short] at held
    rw [held]
    omega

/-- Where what is lacked is not free, a member lacks blocks still. -/
theorem lacks (free : d.pool.free.length < d.lack n target) :
    ∃ m z, (d.prog n).record.members[m.val]? = some z ∧ (g.line n m).held < blockNeed (target (d.line n m)) := by
  have before (some : d.lack n target ≠ 0) (progs : g.progs = d.progs) : ∃ m z,
      (d.prog n).record.members[m.val]? = .some z ∧ (g.line n m).held < blockNeed (target (d.line n m)) := by
    rw [Ne, d.lack_eq_zero] at some
    push Not at some
    obtain ⟨m, z, listed, short⟩ := some
    refine ⟨m, z, listed, ?_⟩
    rw [show g.line n m = d.line n m from congrArg (fun p => (Oct.get p n).delay.lines.get m) progs]
    exact short
  cases h with
  | enough lack same => omega
  | nothing lack none same => exact before lack (by rw [same]; rfl)
  | waiting lack asks large same => exact before lack (by rw [same]; rfl)
  | granted lack asks queue fits same =>
    by_contra all
    push Not at all
    have total := (shareOut_spec (eight.zip (d.needsUnder n target)) (zip_eight_keys _)
      (d.pool.free.take (d.asked n target).count) (d.prog n).delay.lines).2.1
    rw [← d.shortfall_eq, d.shortfall_needsUnder, List.length_take, min_eq_left fits] at total
    have each (m : Ix8) : (g.line n m).held = (d.line n m).held +
        if m.val < (d.prog n).record.members.length then blockNeed (target (d.line n m)) - (d.line n m).held else 0 := by
      obtain ⟨low, -, high⟩ := d.granted_held n target (blocks := d.pool.free.take (d.asked n target).count) m
      rw [same, d.granted_line]
      by_cases short : m.val < (d.prog n).record.members.length
      · have := all m _ (List.getElem?_eq_getElem short)
        rw [same, d.granted_line] at this
        rw [if_pos short] at high ⊢
        omega
      · rw [if_neg short] at high ⊢
        omega
    have sums : (eight.map fun m => (g.line n m).held).sum = d.heldBy n + d.lack n target := by
      rw [List.map_congr_left fun m _ => each m, List.sum_map_add, d.heldBy_eq]
      rfl
    rw [← g.heldBy_eq, same] at sums
    rw [d.granted_heldBy] at sums
    change _ = d.heldBy n + _ at total
    omega

/-- A grant of a whole entry. -/
theorem granted_total (queue : d.pool.queue = []) (lack : d.lack n target ≠ 0)
    (fits : (d.asked n target).count ≤ d.pool.free.length) :
    g.heldBy n = d.heldBy n + (d.asked n target).count ∧ g.pool.free = d.pool.free.drop (d.asked n target).count ∧
      g.pool.queue = [] := by
  cases h with
  | enough none same => exact absurd none lack
  | nothing lack none same =>
    rw [same, none]
    exact ⟨rfl, rfl, queue⟩
  | waiting lack asks large same => exact absurd fits (not_le.2 (large.resolve_left fun h => h queue))
  | granted lack asks queue' fits same =>
    have total := (shareOut_spec (eight.zip (d.needsUnder n target)) (zip_eight_keys _)
      (d.pool.free.take (d.asked n target).count) (d.prog n).delay.lines).2.1
    rw [← d.shortfall_eq, d.shortfall_needsUnder, List.length_take, min_eq_left fits,
      min_eq_left (show (d.asked n target).count ≤ d.lack n target from min_le_left _ _)] at total
    rw [same]
    refine ⟨?_, rfl, queue⟩
    rw [d.granted_heldBy]
    exact total

/-- An entry that waits leaves every line as it was. -/
theorem waits (asks : (d.asked n target).count ≠ 0)
    (large : d.pool.queue ≠ [] ∨ d.pool.free.length < (d.asked n target).count) :
    g = d.modPool fun q => { q with
      needs := q.needs.set n (some (d.needsUnder n target)), queue := q.queue ++ [d.asked n target] } := by
  cases h with
  | enough none same =>
    refine absurd ?_ asks
    rw [d.asked_count, none, Nat.zero_min]
  | nothing lack none same => exact absurd none asks
  | waiting lack asks large same => exact same
  | granted lack asks queue fits same => exact absurd large (by rw [not_or, not_not, not_lt]; exact ⟨queue, fits⟩)

end Device.Asked

end Sys2Proof.Machine
end

section
/-!
PROOF. A recalculation to the required lengths with no request waiting in the pool, and the SETUP that brings it (R78, R82,
R83, R90, R92, R95 to R99, R105).
-/

namespace Sys2Proof.Machine

variable {d e g : Device} {s : State} {n k m : Ix8} {z : Member} {target : Line → Nat} {host : Bool}

/-! ## The excess handed back (R92) -/

theorem Device.returnExcess_free (queue : d.pool.queue = []) :
    ∃ back, (d.returnExcess n).pool = { d.pool with free := d.pool.free ++ back } := by
  rw [Device.returnExcess_eq]
  generalize (d.prog n).record.positions = l
  induction l generalizing d with
  | nil => exact ⟨[], by rw [List.append_nil]; rfl⟩
  | cons m l ih =>
    have step : (d.returnLine n m).pool = { d.pool with
        free := d.pool.free ++ (d.line n m).spare.take (d.line n m).excess } := by
      rw [Device.returnLine, Device.handBack_idle (d := d.modLine n m Line.returned) queue]
      rfl
    obtain ⟨back, run⟩ := ih (d := d.returnLine n m) (by rw [step]; exact queue)
    refine ⟨(d.line n m).spare.take (d.line n m).excess ++ back, ?_⟩
    rw [List.foldl_cons, run, step, List.append_assoc]

/-- The part with the required lengths of a programme computed and its excess blocks handed back. -/
def Device.freed (d : Device) (n : Ix8) : Device := (d.requireAll n).returnExcess n

theorem Device.freed_line (d : Device) (n : Ix8) (listed : (d.prog n).record.members[m.val]? = some z) :
    (d.freed n).line n m = { d.line n m with
      dReq := d.requiredOf n z, spare := ((d.freed n).line n m).spare
      underDelay := decide ((d.prog n).record.settings.delayTarget <
        ((d.port (z.on (d.prog n).ctx.selection).port).conv.lc : Int) + 24) } := by
  have spares := ((d.requireAll n).returnExcess_blocks n).spares n m
  rw [d.requireAll_line n listed] at spares
  exact spares

theorem Device.freed_engine (d : Device) (n : Ix8) : d.EngineOnly (d.freed n) :=
  (d.requireAll_engine n).trans (Device.returnExcess_engine _ n)

theorem Device.freed_delay (d : Device) (n : Ix8) : ((d.freed n).prog n).delay =
    { (d.prog n).delay with lines := ((d.freed n).prog n).delay.lines } := by
  rw [Device.freed, ((d.requireAll n).returnExcess_blocks n).delay, d.requireAll_delay]

theorem Device.requireAll_pool (d : Device) (n : Ix8) : (d.requireAll n).pool = d.pool := by
  rw [d.requireAll_eq]
  rfl

theorem Device.freed_alarms (d : Device) (n : Ix8) : (d.freed n).alarms = d.alarms :=
  ((d.requireAll n).returnExcess_blocks n).alarms.trans (d.requireAll_alarms n)

theorem Line.returned_held_le (l : Line) : l.returned.held ≤ l.held := by
  unfold Line.returned Line.held
  dsimp only
  rw [List.length_drop]
  omega

theorem Line.returned_lack (l : Line) {need : Nat} (keep : need ≤ blockNeed l.keep) :
    need - l.returned.held = need - l.held := by
  unfold Line.returned Line.excess Line.held
  dsimp only
  rw [List.length_drop]
  split_ifs <;> omega

section freed

variable (queue : d.pool.queue = [])
include queue

theorem Device.freed_returned : ((d.freed n).prog n) = ((d.requireAll n).reline n fun _ _ => Line.returned).prog n :=
  (Device.returnExcess_own (d := d.requireAll n) (by rw [Device.hasEntry, d.requireAll_pool, queue]; rfl)).2.2.2.1

theorem Device.freed_held (m : Ix8) : ((d.freed n).line n m).held ≤ (d.line n m).held ∧
    ∀ z, (d.prog n).record.members[m.val]? = some z → blockNeed (d.requiredOf n z) - ((d.freed n).line n m).held =
      blockNeed (d.requiredOf n z) - (d.line n m).held := by
  have line : (d.freed n).line n m = ((d.requireAll n).reline n fun _ _ => Line.returned).line n m :=
    congrArg (fun x : Programme => x.delay.lines.get m) (Device.freed_returned queue)
  rw [line]
  have record := (d.requireAll_engine n).record n
  cases there : (d.prog n).record.members[m.val]? with
  | none =>
    rw [Device.reline_line_unlisted _ n _ (by rw [record]; exact there)]
    exact ⟨(d.requireAll_holds n m).2.2.le, nofun⟩
  | some z =>
    rw [Device.reline_line_listed _ n _ (by rw [record]; exact there)]
    rw [← (d.requireAll_holds n m).2.2]
    refine ⟨Line.returned_held_le _, fun w same => ?_⟩
    cases same
    refine Line.returned_lack _ (blockNeed_mono ?_)
    rw [d.requireAll_line n there]
    exact (le_max_right _ _).trans (le_max_left _ _)

theorem Device.freed_others (other : k ≠ n) : (d.freed n).prog k = d.prog k := by
  obtain ⟨free, run⟩ :=
    (Device.returnExcess_own (d := d.requireAll n) (n := n) (by rw [Device.hasEntry, d.requireAll_pool, queue]; rfl)).2.2.2.2
      (by rw [d.requireAll_pool]; exact queue)
  rw [Device.freed, run]
  refine (Device.reline_other _ n _ other).trans ?_
  rw [d.requireAll_eq]
  exact d.reline_other n _ other

theorem Device.freed_heldBy : (d.freed n).heldBy n ≤ d.heldBy n := by
  rw [Device.heldBy_eq, Device.heldBy_eq]
  exact List.sum_le_sum fun m _ => (Device.freed_held queue m).1

/-- What a programme lacks for the required lengths of its members. -/
def Device.wanted (d : Device) (n : Ix8) : Nat :=
  (eight.map fun m => (d.prog n).record.members[m.val]?.elim 0 fun z =>
    blockNeed (d.requiredOf n z) - (d.line n m).held).sum

theorem Device.freed_lack : (d.freed n).lack n (fun l => l.targetOf .exact) = d.wanted n := by
  rw [Device.lack, Device.wanted]
  congr 1
  refine List.map_congr_left fun m _ => ?_
  rw [(d.freed_engine n).record n]
  cases there : (d.prog n).record.members[m.val]? with
  | none =>
    rw [if_neg fun short => by
      rw [List.getElem?_eq_getElem short] at there
      nomatch there]
    rfl
  | some z =>
    rw [if_pos (List.getElem?_eq_some_iff.1 there).1]
    have target : ((d.freed n).line n m).targetOf .exact = d.requiredOf n z := by
      rw [Line.targetOf, d.freed_line n there]
    rw [target]
    exact (Device.freed_held queue m).2 z there

end freed

/-! ## A recalculation to the required lengths -/

/-- The length that a member runs at with the blocks it holds. -/
def Line.within (l : Line) (required : Nat) : Nat :=
  if l.held < blockNeed required then 1024 * (l.held - 1) else required

/-- The part that a recalculation settles before its change starts: the lengths, and the blocks by what was free. -/
structure Device.Resettled (d c : Device) (n : Ix8) : Prop where
  engine : d.EngineOnly c
  alarms : c.alarms = d.alarms
  delay : (c.prog n).delay = { (d.prog n).delay with lines := (c.prog n).delay.lines }
  others : ∀ k, k ≠ n → c.prog k = d.prog k
  line : ∀ m z, (d.prog n).record.members[m.val]? = some z → c.line n m = { d.line n m with
    dReq := d.requiredOf n z, spare := (c.line n m).spare
    underDelay := decide ((d.prog n).record.settings.delayTarget <
      ((d.port (z.on (d.prog n).ctx.selection).port).conv.lc : Int) + 24)
    dNew := (c.line n m).within (d.requiredOf n z)
    clamped := decide ((c.line n m).held < blockNeed (d.requiredOf n z)) }
  enough : d.wanted n ≤ d.pool.free.length → d.pool.free.length + d.heldBy n ≤ d.pool.size →
    c.pool.queue = [] ∧ ∀ m z, (d.prog n).record.members[m.val]? = some z →
      blockNeed (d.requiredOf n z) ≤ (c.line n m).held
  short : d.pool.free.length < d.wanted n →
    (∀ m z, (d.prog n).record.members[m.val]? = some z → (d.line n m).d = 0 →
      (d.line n m).held ≤ blockNeed (d.requiredOf n z)) →
    (∃ m z, (d.prog n).record.members[m.val]? = some z ∧ (c.line n m).held < blockNeed (d.requiredOf n z)) ∧
    (d.pool.free.length < min (d.wanted n) (d.pool.size - d.heldBy n) →
      (∀ m, (c.line n m).held = (d.line n m).held) ∧ c.pool.free = d.pool.free ∧
      c.pool.queue = [{ prog := n, count := min (d.wanted n) (d.pool.size - d.heldBy n)
                        limited := decide (min (d.wanted n) (d.pool.size - d.heldBy n) < d.wanted n) }]) ∧
    (min (d.wanted n) (d.pool.size - d.heldBy n) ≤ d.pool.free.length →
      c.heldBy n = d.heldBy n + min (d.wanted n) (d.pool.size - d.heldBy n) ∧
      c.pool.free = d.pool.free.drop (min (d.wanted n) (d.pool.size - d.heldBy n)) ∧ c.pool.queue = [])

theorem Device.reline_held (d : Device) (n : Ix8) (f : Ix8 → Member → Line → Line) (h : ∀ m z l, (f m z l).held = l.held)
    (m : Ix8) : ((d.reline n f).line n m).held = (d.line n m).held := by
  cases there : (d.prog n).record.members[m.val]? with
  | none => rw [d.reline_line_unlisted n _ there]
  | some z => rw [d.reline_line_listed n _ there, h]

theorem Device.recalculate_resettled (active : d.active n = true) (queue : d.pool.queue = []) (host : Bool) :
    ∃ c, d.Resettled c n ∧ d.recalculate n .exact host = (c.reportShort n).startChange n host := by
  have engine := d.freed_engine n
  obtain ⟨back, pool⟩ := Device.returnExcess_free (d := d.requireAll n) (n := n) (by rw [d.requireAll_pool]; exact queue)
  rw [d.requireAll_pool] at pool
  change (d.freed n).pool = _ at pool
  obtain ⟨g, asked, run⟩ := Device.settleBlocks_asked (d := d.freed n) (n := n) (target := fun l => l.targetOf .exact)
    (by rw [Device.active, engine.inState]; exact active)
    (by rw [Device.hasEntry, pool, queue]; rfl) (by rw [pool, queue]; exact fun _ => nofun) (fun _ _ => rfl)
  refine ⟨_, ?_, congrArg (fun c : Device => (c.reportShort n).startChange n host) run⟩
  have record := (engine.trans asked.engine).record n
  have held (m : Ix8) : ((g.reline n fun _ _ l => l.settled (l.targetOf .exact)).line n m).held = (g.line n m).held :=
    g.reline_held n (fun _ _ l => l.settled (l.targetOf .exact)) (fun _ _ _ => rfl) m
  have listedLine (m : Ix8) (z : Member) (listed : (d.prog n).record.members[m.val]? = some z) :=
    g.reline_line_listed n (fun _ _ l => l.settled (l.targetOf .exact)) (m := m) (z := z) (by rw [record]; exact listed)
  have target (m : Ix8) (z : Member) (listed : (d.prog n).record.members[m.val]? = some z) :
      ((d.freed n).line n m).targetOf .exact = d.requiredOf n z := by
    rw [Line.targetOf, d.freed_line n listed]
  have spares := asked.blocks.spares n
  have sorted (m : Ix8) (z : Member) (listed : (d.prog n).record.members[m.val]? = some z) :
      (g.line n m).targetOf .exact = d.requiredOf n z := by
    rw [spares m, ← target m z listed]
    rfl
  have lack := Device.freed_lack (n := n) queue
  have free : (d.freed n).pool.free.length = d.pool.free.length + back.length := by rw [pool, List.length_append]
  have size : (d.freed n).pool.size = d.pool.size := by rw [pool]
  have heldBy := Device.freed_heldBy (n := n) queue
  have cPool : (g.reline n fun _ _ l => l.settled (l.targetOf .exact)).pool = g.pool := rfl
  have cHeldBy : (g.reline n fun _ _ l => l.settled (l.targetOf .exact)).heldBy n = g.heldBy n := by
    rw [Device.heldBy_eq, Device.heldBy_eq]
    simp only [held]
  refine ⟨(engine.trans asked.engine).trans (g.reline_engine n _), asked.blocks.alarms.trans (d.freed_alarms n), ?_,
    fun k other => (g.reline_other n _ other).trans ((asked.others other).trans (Device.freed_others queue other)),
    fun m z listed => ?_, fun enough room => ?_, fun scarce tight => ?_⟩
  · rw [g.reline_delay, asked.blocks.delay, d.freed_delay]
  · rw [listedLine m z listed, sorted m z listed, spares m, d.freed_line n listed]
    rfl
  · obtain ⟨none, -, whole⟩ := asked.whole (by rw [pool]; exact queue) (by omega) (by omega)
    refine ⟨none, fun m z listed => ?_⟩
    rw [held, whole m z (by rw [engine.record n]; exact listed), target m z listed]
    exact le_max_left _ _
  · have same : d.freed n = d.requireAll n := Device.returnExcess_none fun m z listed => Line.excess_none fun empty => by
      rw [(d.requireAll_engine n).record n] at listed
      rw [d.requireAll_line n listed] at empty ⊢
      refine (tight m z listed empty).trans (blockNeed_mono ?_)
      exact (le_max_right _ _).trans (le_max_left _ _)
    have none : back = [] := by
      have : (d.freed n).pool.free = d.pool.free ++ [] := by rw [same, d.requireAll_pool, List.append_nil]
      rw [pool] at this
      exact List.append_cancel_left this
    have holds (m : Ix8) : ((d.freed n).line n m).held = (d.line n m).held := by
      rw [same]
      exact (d.requireAll_holds n m).2.2
    have total : (d.freed n).heldBy n = d.heldBy n := by
      rw [Device.heldBy_eq, Device.heldBy_eq]
      simp only [holds]
    have kept : (d.freed n).pool = d.pool := by rw [same, d.requireAll_pool]
    have count : ((d.freed n).asked n fun l => l.targetOf .exact).count =
        min (d.wanted n) (d.pool.size - d.heldBy n) := by
      rw [Device.asked_count, lack, total, kept]
    have entry : (d.freed n).asked n (fun l => l.targetOf .exact) =
        { prog := n, count := min (d.wanted n) (d.pool.size - d.heldBy n)
          limited := decide (min (d.wanted n) (d.pool.size - d.heldBy n) < d.wanted n) } := by
      rw [Device.asked, lack, total, kept]
    refine ⟨?_, fun large => ?_, fun fits => ?_⟩
    · obtain ⟨m, z, listed, less⟩ := asked.lacks (by rw [lack, kept]; exact scarce)
      rw [engine.record n] at listed
      refine ⟨m, z, listed, ?_⟩
      rw [held, ← target m z listed]
      exact less
    · have waits := asked.waits (by rw [count]; omega) (.inr (by rw [count, kept]; exact large))
      refine ⟨fun m => ?_, ?_, ?_⟩
      · rw [held, waits]
        exact holds m
      · rw [cPool, waits]
        change (d.freed n).pool.free = _
        rw [kept]
      · rw [cPool, waits, entry]
        change (d.freed n).pool.queue ++ _ = _
        rw [kept, queue]
        rfl
    · obtain ⟨grown, left, empty⟩ := asked.granted_total (by rw [kept]; exact queue) (by rw [lack]; omega)
        (by rw [count, kept]; exact fits)
      rw [count, total] at grown
      rw [count, kept] at left
      exact ⟨cHeldBy.trans grown, left, empty⟩

/-! ## DELAY_SHORT and the change (R105) -/

theorem Device.reportShort_cases (d : Device) (n : Ix8) :
    (d.anyClamped n = true → d.reportShort n = d.activate (.delayShort n)) ∧
      (d.anyClamped n = false → d.reportShort n = d) :=
  ⟨fun h => if_pos h, fun h => if_neg (by rw [h]; nofun)⟩

theorem Device.reportShort_prog (d : Device) (n k : Ix8) : (d.reportShort n).prog k = d.prog k := by
  rw [Device.prog, d.reportShort_progs]
  rfl

theorem Device.reportShort_pool (d : Device) (n : Ix8) : (d.reportShort n).pool = d.pool := by
  unfold Device.reportShort
  split <;> rfl

theorem Device.reportShort_line (d : Device) (n k m : Ix8) : (d.reportShort n).line k m = d.line k m := by
  rw [Device.line, d.reportShort_prog]
  rfl

theorem Device.reportShort_clamped (d : Device) (n : Ix8) : (d.reportShort n).anyClamped n = d.anyClamped n := by
  unfold Device.anyClamped
  simp only [d.reportShort_line, d.reportShort_prog]

theorem Device.reportShort_differs (d : Device) (n : Ix8) : (d.reportShort n).differs n ↔ d.differs n := by
  unfold Device.differs
  simp only [d.reportShort_line, d.reportShort_prog]

theorem Device.reportShort_far (d : Device) (n : Ix8) (host : Bool) : (d.reportShort n).far n host ↔ d.far n host := by
  unfold Device.far
  simp only [d.reportShort_line, d.reportShort_prog]

/-- The alarms after a report of DELAY_SHORT and the start of a change. -/
theorem Device.startChange_reported (d : Device) (n : Ix8) (host : Bool) :
    (d.anyClamped n = true →
      ((d.reportShort n).startChange n host).alarms = d.alarms.activate d.time.seconds (.delayShort n)) ∧
    (d.anyClamped n = false → d.differs n → ((d.reportShort n).startChange n host).alarms = d.alarms) ∧
    (d.anyClamped n = false → ¬ d.differs n → d.hasEntry n = false →
      (((d.reportShort n).startChange n host).alarms.get (.delayShort n)).active = false) := by
  have started := (d.reportShort n).startChange_started n host
  obtain ⟨report, quiet⟩ := d.reportShort_cases n
  refine ⟨fun clamped => ?_, fun free moves => ?_, fun free rests entry => ?_⟩
  · have same : ((d.reportShort n).startChange n host).alarms = (d.reportShort n).alarms := by
      by_cases moves : d.differs n
      · exact started.silent ((d.reportShort_differs n).2 moves)
      · rw [((d.reportShort n).startChange_eq n host).1 (mt (d.reportShort_differs n).1 moves), Device.judgeShort,
          Device.retarget_anyClamped, d.reportShort_clamped, clamped]
        rfl
    rw [same, report clamped]
    rfl
  · rw [started.silent ((d.reportShort_differs n).2 moves), quiet free]
  · refine started.judged (mt (d.reportShort_differs n).1 rests) ((d.reportShort_clamped n).trans free) ?_
    rw [Device.hasEntry, d.reportShort_pool]
    exact entry

/-- The start of a change moves no block. -/
theorem Device.startChange_held (d : Device) (n : Ix8) (host : Bool) (m : Ix8) :
    ((d.startChange n host).line n m).held = (d.line n m).held := by
  obtain ⟨rest, fade, slew⟩ := d.startChange_eq n host
  by_cases differs : d.differs n
  · by_cases far : d.far n host
    · rw [fade differs far, Device.startFade, Device.mapLines_eq, Device.line, Device.prog_modDelay_self]
      refine (Device.reline_held _ n (fun _ _ l => { l with change := .wait }) (fun _ _ _ => rfl) m).trans ?_
      rw [d.retarget_line]
    · rw [slew differs far, Device.mapLines_eq]
      refine (Device.reline_held _ n (fun _ _ => Line.startSlew) (fun _ _ l => ?_) m).trans ?_
      · rw [l.startSlew_eq]
        rfl
      · rw [d.retarget_line]
  · rw [rest differs, Device.line, Device.judgeShort_prog]
    exact congrArg Line.held (d.retarget_line n m)

/-! ## A SETUP with a new delay target -/

theorem Settings.storing_delayTarget (o : Settings) {f : BitVec 24} (b : SettingsBlock) (loud : LoudMode)
    (change : ChangeMode) (given : f.getLsbD 0 = true) :
    (o.storing f b loud change).delayTarget = max 0 (min 480000 b.delayTarget.toInt) := if_pos given

theorem Device.wanted_eq (d : Device) (n : Ix8) : d.wanted n = (eight.map fun m =>
    match (d.prog n).record.members[m.val]? with
    | some z => needOf (d.requiredOf n z) - (d.line n m).held
    | none => 0).sum := by
  rw [Device.wanted]
  congr 1
  refine List.map_congr_left fun m _ => ?_
  cases (d.prog n).record.members[m.val]? <;> rfl

/-- Settles O20: the blocks settled for the new lengths, DELAY_SHORT by what is short, and the change by how far the
lengths move. -/
theorem newDelayTargetStartsAChange : Obligations.NewDelayTargetStartsAChange := by
  intro s tag n f b loud change ready active names given still x pool members target line req listed short count r
    other few queue room
  have run := exec_setup_active (tag := tag) ready active names
  change exec (.setup tag (byteOf n.val) f b) s = .next (s.answered
    (if f.getLsbD 0 then (s.dev.reached n f (x.record.settings.storing f b loud change)).targetTrigger n
      else s.dev.reached n f (x.record.settings.storing f b loud change))
    (executedReply 0xA1 tag (Answer.clampedIf (setupClamped f b) []).status
      [byteOf n.val :: settingsBytes (x.record.settings.storing f b loud change)])) at run
  have aim := Settings.storing_delayTarget x.record.settings b loud change given
  have prog := s.dev.reached_prog n f (x.record.settings.storing f b loud change)
  have moving := s.dev.reached_changing n f (x.record.settings.storing f b loud change)
  have aLine := s.dev.reached_line n f (x.record.settings.storing f b loud change)
  have aOther (k : Ix8) (h : k ≠ n) : (s.dev.reached n f (x.record.settings.storing f b loud change)).prog k =
    s.dev.prog k := (s.dev.prog_modProg n k _).trans (if_neg h.symm)
  have rest : (s.dev.reached n f (x.record.settings.storing f b loud change)).ports = s.dev.ports ∧
      (s.dev.reached n f (x.record.settings.storing f b loud change)).alarms = s.dev.alarms ∧
      (s.dev.reached n f (x.record.settings.storing f b loud change)).pool = s.dev.pool ∧
      (s.dev.reached n f (x.record.settings.storing f b loud change)).time = s.dev.time := ⟨rfl, rfl, rfl, rfl⟩
  rw [if_pos given] at run
  generalize s.dev.reached n f (x.record.settings.storing f b loud change) = a at *
  obtain ⟨aPorts, aAlarms, aPool, aTime⟩ := rest
  have here : a.active n = true := by
    rw [Device.active_iff, prog]
    exact active
  have rests : a.changing n = false := moving.trans still
  have aTarget : (a.prog n).record.settings.delayTarget = target := by rw [prog]; exact aim
  have trigger : a.targetTrigger n = a.recalculate n .exact true :=
    (Device.targetTrigger_eq here).2.2 rests (by rw [aTarget, prog]; exact other)
  obtain ⟨c, resettled, recalc⟩ := Device.recalculate_resettled here (by rw [aPool]; exact queue) true
  rw [trigger, recalc] at run
  have aMembers : (a.prog n).record.members = members := by rw [prog]
  have aReq (z : Member) : a.requiredOf n z = req z := by
    have port (p : Ix8) : a.port p = s.dev.port p := congrArg (fun o => o.get p) aPorts
    rw [Device.requiredOf, Device.required, aTarget, prog, port]
    rfl
  have aWanted : a.wanted n = short := by
    rw [Device.wanted, aMembers]
    change _ = (eight.map _).sum
    congr 1
    refine List.map_congr_left fun m _ => ?_
    cases there : members[m.val]? with
    | none => rfl
    | some z =>
      change blockNeed (a.requiredOf n z) - (a.line n m).held = _
      rw [aReq, aLine]
      rfl
  have aHeldBy : a.heldBy n = s.dev.heldBy n := by
    rw [Device.heldBy_eq, Device.heldBy_eq]
    simp only [aLine]
  obtain ⟨engine, alarms, delay, others, lines, enough, scarce⟩ := resettled
  rw [aMembers, aTarget] at lines
  rw [aMembers, aWanted, aPool, aHeldBy] at enough scarce
  rw [prog] at delay
  simp only [aReq, aLine] at lines enough scarce
  have started := (c.reportShort n).startChange_started n true
  have reported := c.startChange_reported n true
  have held (m : Ix8) : (((c.reportShort n).startChange n true).line n m).held = (c.line n m).held := by
    rw [Device.startChange_held, c.reportShort_line]
  generalize (c.reportShort n).startChange n true = e at *
  have cMembers : (c.prog n).record.members = members := by rw [engine.record n, aMembers]
  have cTarget : (c.prog n).record.settings.delayTarget = target := by rw [engine.record n, aTarget]
  refine ⟨e, _, run, ?_⟩
  intro y heldNow new lacks moves differs far
  have listedIff (m : Ix8) (z : Member) : (c.prog n).record.members[m.val]? = some z ↔ listed m z := by
    rw [cMembers]
  have length (m : Ix8) (z : Member) (there : listed m z) :
      (c.line n m).dNew = new m z ∧ (c.line n m).d = (line m).d := by
    rw [lines m z there]
    refine ⟨?_, rfl⟩
    change Line.within _ _ = if blockNeed (req z) ≤ heldNow m then _ else _
    rw [Line.within, show heldNow m = (c.line n m).held from held m]
    by_cases less : (c.line n m).held < blockNeed (req z)
    · rw [if_pos less, if_neg (not_le.2 less)]
    · rw [if_neg less, if_pos (not_lt.1 less)]
  have differsIff : (c.reportShort n).differs n ↔ differs := by
    rw [c.reportShort_differs]
    refine exists_congr fun m => exists_congr fun z => ?_
    rw [listedIff]
    refine and_congr_right fun there => ?_
    rw [(length m z there).1, (length m z there).2]
    exact max_sub_min_eq_zero.symm
  have farIff : (c.reportShort n).far n true ↔ far := by
    rw [c.reportShort_far]
    unfold Device.far
    rw [cTarget, delay]
    refine or_congr (exists_congr fun m => exists_congr fun z => ?_) (and_iff_right rfl)
    rw [listedIff]
    refine and_congr_right fun there => ?_
    rw [(length m z there).1, (length m z there).2]
  have clampedIff : c.anyClamped n = true ↔ lacks := by
    rw [Device.anyClamped, c.any_positions_iff]
    refine exists_congr fun m => exists_congr fun z => ?_
    rw [listedIff]
    refine and_congr_right fun there => ?_
    rw [lines m z there, show heldNow m = (c.line n m).held from held m]
    exact decide_eq_true_iff
  have rested (m : Ix8) (z : Member) (there : listed m z) : (c.line n m).change = .steady := by
    rw [lines m z there]
    exact ((s.dev.changing_eq_false_iff n).1 still).2 m z there
  have unclamped (no : ¬ lacks) : c.anyClamped n = false := eq_false_of_ne_true fun h => no (clampedIff.1 h)
  obtain ⟨active_, silent, judged⟩ := reported
  have pool_ : e.pool = c.pool := started.pool.trans (c.reportShort_pool n)
  refine ⟨?_, ?_, ?_, fun m z there => ?_, fun yes away => started.fades (differsIff.2 yes) (farIff.2 away), fun no => ?_,
    fun free => ?_, fun free tight => ?_, fun lack => ?_, fun no rests empty => ?_, fun no yes => ?_, fun k h => ?_⟩
  · rw [started.tLines, c.reportShort_prog, cTarget]
  · rw [started.pending, c.reportShort_prog, delay]
  · rw [started.gapLength, c.reportShort_prog, delay]
  · have led := started.led m z (by rw [c.reportShort_prog]; exact (listedIff m z).2 there)
    have own := lines m z there
    rw [c.reportShort_line] at led
    refine ⟨?_, ?_, ?_, ?_, ?_, ?_, fun yes away => started.wait (differsIff.2 yes) (farIff.2 away) m z
      (by rw [c.reportShort_prog]; exact (listedIff m z).2 there), fun yes near => ?_, fun no => ?_⟩
    · rw [led.dReq, own]
    · rw [led.dNew, (length m z there).1]
    · rw [led.d, own]
    · rw [led.inUse, own]
    · rw [led.clamped, own, show heldNow m = (c.line n m).held from held m]
      exact decide_eq_true_iff
    · rw [led.underDelay, own]
      refine decide_eq_true_iff.trans ?_
      rw [prog]
      have port (p : Ix8) : a.port p = s.dev.port p := congrArg (fun o => o.get p) aPorts
      rw [port]
    · rw [started.slew (differsIff.2 yes) (mt farIff.1 near) m z
        (by rw [c.reportShort_prog]; exact (listedIff m z).2 there), c.reportShort_line, Line.startSlew_eq,
        (length m z there).1, (length m z there).2]
      exact ⟨rfl, rfl, rfl⟩
    · rw [started.rests (mt differsIff.1 no) m z (by rw [c.reportShort_prog]; exact (listedIff m z).2 there),
        c.reportShort_line]
      exact rested m z there
  · obtain ⟨fade, step⟩ := started.stays fun ⟨yes, away⟩ => no ⟨differsIff.1 yes, farIff.1 away⟩
    rw [fade, step, c.reportShort_prog, delay]
    exact ⟨((s.dev.changing_eq_false_iff n).1 still).1, rfl⟩
  · obtain ⟨none, whole⟩ := enough free room
    refine ⟨?_, by rw [pool_]; exact none⟩
    rintro ⟨m, z, there, less⟩
    rw [show heldNow m = (c.line n m).held from held m] at less
    exact absurd (whole m z there) (not_le.2 less)
  · obtain ⟨⟨m, z, there, less⟩, waits, grants⟩ := scarce free tight
    refine ⟨⟨m, z, there, by rw [show heldNow m = (c.line n m).held from held m]; exact less⟩, fun large => ?_,
      fun fits => ?_⟩
    · obtain ⟨same, left, entry⟩ := waits large
      rw [pool_]
      exact ⟨fun m => (held m).trans (same m), left, entry⟩
    · obtain ⟨total, left, none⟩ := grants fits
      rw [pool_]
      refine ⟨?_, left, none⟩
      rw [Device.heldBy_eq]
      simp only [held]
      rw [← Device.heldBy_eq]
      exact total
  · have after := active_ (clampedIff.2 lack)
    rw [alarms, aAlarms, engine.time, aTime] at after
    intro t
    have value : t = (s.dev.alarms.activate s.dev.time.seconds (.delayShort n)).get (.delayShort n) := by
      rw [← after]
    cases on : r.active with
    | true =>
      have same : s.dev.alarms.activate s.dev.time.seconds (.delayShort n) = s.dev.alarms := if_pos on
      rw [value, same]
      exact ⟨on, fun _ => rfl, nofun⟩
    | false =>
      obtain ⟨get, -⟩ := s.dev.alarms.activate_eq s.dev.time.seconds (.delayShort n) on
      rw [value, get]
      exact ⟨rfl, nofun, fun _ => ⟨rfl, rfl, rfl⟩⟩
  · refine judged (unclamped no) (mt (c.reportShort_differs n).2 (mt differsIff.1 rests)) ?_
    rw [Device.hasEntry, ← pool_, empty]
    rfl
  · rw [silent (unclamped no) ((c.reportShort_differs n).1 (differsIff.2 yes)), alarms, aAlarms]
  · rw [started.others k h, c.reportShort_prog, others k h, aOther k h]

end Sys2Proof.Machine
end

section
/-!
PROOF. The initial fill at a RUN (R50, R51, R78, R82, R83, R96, R102, R105).
-/

namespace Sys2Proof.Machine

variable {d e g : Device} {s : State} {n k m : Ix8} {z : Member} {target : Line → Nat} {host : Bool}

/-! ## GAP where no line shrinks (R100, R102) -/

/-- A line at the entry into GAP, frozen for what it has to grow. -/
def Line.gapped (l : Line) : Line := { l with freeze := l.dNew - l.d, change := .wait }

theorem Device.foldl_gapMember_grow (l : List Ix8) (nodup : l.Nodup) (d : Device)
    (grow : ∀ m ∈ l, ¬ (d.line n m).dNew < (d.line n m).d) :
    l.foldl (fun e m => e.gapMember n m) d =
      l.foldl (fun e m => e.modLine n m fun k => { k with freeze := k.dNew - k.d }) d := by
  induction l generalizing d with
  | nil => rfl
  | cons m l ih =>
    obtain ⟨new, nodup⟩ := List.nodup_cons.1 nodup
    have first : d.gapMember n m = d.modLine n m fun k => { k with freeze := k.dNew - k.d } := if_neg (grow m (.head _))
    rw [List.foldl_cons, List.foldl_cons, first]
    refine ih nodup _ fun k there => ?_
    have other : (d.modLine n m fun k => { k with freeze := k.dNew - k.d }).line n k = d.line n k := by
      rw [Device.modLine_eq, d.withLines_line, Oct.get_set_ne _ _ fun same : m = k => new (same ▸ there)]
      rfl
    rw [other]
    exact grow k (.tail _ there)

theorem Device.enterGap_grow (grow : ∀ m z, (d.prog n).record.members[m.val]? = some z →
    ¬ (d.line n m).dNew < (d.line n m).d) :
    ∃ x : Delay → Delay, d.enterGap n = (d.reline n fun _ _ => Line.gapped).modDelay n x ∧
      ∀ y, (x y).lines = y.lines ∧ (x y).pending = y.pending ∧ (x y).tLines = y.tLines := by
  have fold : (d.prog n).record.positions.foldl (fun e m => e.gapMember n m) d =
      d.reline n fun _ _ k => { k with freeze := k.dNew - k.d } := by
    rw [Device.foldl_gapMember_grow _ (d.prog n).record.positions_nodup d fun m there => by
      obtain ⟨z, listed⟩ := Record.mem_positions.1 there
      exact grow m z listed]
    exact d.mapLines_eq n _
  have lines : (d.reline n fun _ _ k => { k with freeze := k.dNew - k.d }).mapLines n (fun l => { l with change := .wait }) =
      d.reline n fun _ _ => Line.gapped := by
    rw [Device.mapLines_eq]
    have record := (d.reline_engine n fun _ _ k => { k with freeze := k.dNew - k.d }).record n
    refine (congrArg (fun ls => (d.reline n fun _ _ k => { k with freeze := k.dNew - k.d }).withLines n ls)
      (Oct.ext_get fun m => ?_)).trans (d.withLines_withLines n _ _)
    rw [Oct.get_ofFn, Oct.get_ofFn, record]
    cases there : (d.prog n).record.members[m.val]? with
    | none => exact d.reline_line_unlisted n _ there
    | some z =>
      change Line.mk _ _ _ _ _ _ _ _ _ _ _ _ _ = _
      rw [d.reline_line_listed n _ there]
      rfl
  unfold Device.enterGap
  extract_lets e g f
  have same : f = (d.reline n fun _ _ => Line.gapped).modDelay n fun x =>
      { x with fade := .gap, fadeStep := 0, gapLength := g } := by
    change (Device.mapLines e n _).modDelay n _ = _
    rw [show e = _ from fold, lines]
  by_cases none : g = 0
  · rw [if_pos none, same]
    refine ⟨fun x => { x with fade := .fadeIn, fadeStep := 0, gapLength := g }, ?_, fun y => ⟨rfl, rfl, rfl⟩⟩
    rw [Device.enterFadeIn, Device.modDelay, Device.modDelay, Device.modProg_modProg]
    rfl
  · rw [if_neg none, same]
    exact ⟨_, rfl, fun y => ⟨rfl, rfl, rfl⟩⟩

/-! ## Sums and maxima over the members -/

theorem range_filterMap_getElem {α : Type} (l : List α) (k : Nat) :
    ((List.range k).filterMap fun i => l[i]?) = l.take k := by
  induction k with
  | zero => rfl
  | succ k ih =>
    rw [List.range_succ, List.filterMap_append, ih, List.take_add_one]
    cases h : l[k]? <;> simp [h]

theorem sum_eight_members {α : Type} (l : List α) (short : l.length ≤ 8) (f : α → Nat) :
    (eight.map fun m => l[m.val]?.elim 0 f).sum = (l.map f).sum := by
  have all : l = (eight.filterMap fun m => l[m.val]?) := by
    have places : List.range 8 = eight.map Fin.val := rfl
    have taken := range_filterMap_getElem l 8
    rw [places, List.filterMap_map, List.take_of_length_le short] at taken
    exact taken.symm
  conv_rhs => rw [all]
  induction eight with
  | nil => rfl
  | cons m rest ih =>
    rw [List.map_cons, List.sum_cons, List.filterMap_cons]
    cases l[m.val]? with
    | none => exact (Nat.zero_add _).trans ih
    | some a => 
      rw [List.map_cons, List.sum_cons]
      exact congrArg (f a + ·) ih

theorem foldl_max_filter {α : Type} (l : List α) (p : α → Bool) (f : α → Nat) (a : Nat) :
    ((l.filter p).map f).foldl max a = (l.map fun x => if p x then f x else 0).foldl max a := by
  induction l generalizing a with
  | nil => rfl
  | cons x l ih =>
    rw [List.filter_cons, List.map_cons, List.foldl_cons]
    split_ifs with h
    · rw [List.map_cons, List.foldl_cons]
      exact ih _
    · rw [Nat.max_zero]
      exact ih _

/-! ## Timers at 0 (R51) -/

theorem AlarmUnit.foldl_zeroTimers_get (l : List Alarm) (u : AlarmUnit) (a : Alarm) :
    (l.foldl AlarmUnit.zeroTimers u).get a =
      if a ∈ l then { u.get a with setTimer := 0, clearTimer := 0, expiry := .none } else u.get a := by
  induction l generalizing u with
  | nil => rw [if_neg List.not_mem_nil]; rfl
  | cons b l ih =>
    have first : (u.zeroTimers b).get a =
        if a = b then { u.get b with setTimer := 0, clearTimer := 0, expiry := .none } else u.get a :=
      u.put_get b a _
    rw [List.foldl_cons, ih, first]
    by_cases same : a = b
    · subst same
      rw [if_pos rfl, if_pos (List.mem_cons_self ..), ite_self]
    · have tail : a ∈ b :: l ↔ a ∈ l := by rw [List.mem_cons, or_iff_right same]
      rw [if_neg same, if_congr tail rfl rfl]

/-! ## The fill (R102) -/

/-- The part that the initial fill settles: required lengths, T_lines, and the blocks by what was free. -/
def Device.filling (d : Device) (n : Ix8) : Device :=
  (d.requireAll n).modDelay n fun x => { x with tLines := (d.prog n).record.settings.delayTarget }

theorem Device.initialFill_eq (d : Device) (n : Ix8) :
    d.initialFill n = (((d.filling n).settleBlocks n fun l => l.dReq).reportShort n).enterGap n := rfl

theorem Device.filling_line (d : Device) (n m : Ix8) : (d.filling n).line n m = (d.requireAll n).line n m := by
  rw [Device.filling, Device.line, Device.prog_modDelay_self]
  rfl

theorem Device.filling_delay (d : Device) (n : Ix8) : ((d.filling n).prog n).delay = { (d.prog n).delay with
    tLines := (d.prog n).record.settings.delayTarget, lines := ((d.filling n).prog n).delay.lines } := by
  rw [Device.filling, Device.prog_modDelay_self]
  dsimp only
  rw [d.requireAll_delay]

theorem Device.filling_pool (d : Device) (n : Ix8) : (d.filling n).pool = d.pool := d.requireAll_pool n

theorem Device.filling_alarms (d : Device) (n : Ix8) : (d.filling n).alarms = d.alarms := d.requireAll_alarms n

theorem Device.filling_others (d : Device) (other : k ≠ n) : (d.filling n).prog k = d.prog k := by
  refine ((d.requireAll n).prog_modProg n k _).trans ((if_neg other.symm).trans ?_)
  rw [d.requireAll_eq]
  exact d.reline_other n _ other

/-- What the initial fill leaves of a programme whose lines are empty, and of the pool. -/
structure Device.Filled (d e g : Device) (n : Ix8) : Prop where
  asked : (d.filling n).Asked g n fun l => l.dReq
  pool : e.pool = g.pool
  others : ∀ k, k ≠ n → e.prog k = d.prog k
  fade : (e.prog n).delay.fade = (if (e.prog n).delay.gapLength = 0 then .fadeIn else .gap)
  step : (e.prog n).delay.fadeStep = 0
  length : (e.prog n).delay.gapLength = ((d.prog n).record.positions.map fun m => (e.line n m).dNew).foldl max 0
  tLines : (e.prog n).delay.tLines = (d.prog n).record.settings.delayTarget
  pending : (e.prog n).delay.pending = (d.prog n).delay.pending
  held : ∀ m, (e.line n m).held = (g.line n m).held
  line : ∀ m z, (d.prog n).record.members[m.val]? = some z → e.line n m = { d.line n m with
    dReq := d.requiredOf n z, spare := (e.line n m).spare
    underDelay := decide ((d.prog n).record.settings.delayTarget <
      ((d.port (z.on (d.prog n).ctx.selection).port).conv.lc : Int) + 24)
    dNew := (e.line n m).within (d.requiredOf n z), freeze := (e.line n m).within (d.requiredOf n z), change := .wait
    clamped := decide ((e.line n m).held < blockNeed (d.requiredOf n z)) }
  short : (∃ m z, (d.prog n).record.members[m.val]? = some z ∧ (e.line n m).held < blockNeed (d.requiredOf n z)) →
    e.alarms = d.alarms.activate d.time.seconds (.delayShort n)
  silent : (¬ ∃ m z, (d.prog n).record.members[m.val]? = some z ∧ (e.line n m).held < blockNeed (d.requiredOf n z)) →
    e.alarms = d.alarms

theorem Device.initialFill_filled (active : d.active n = true) (entry : d.hasEntry n = false)
    (waits : ∀ q ∈ d.pool.queue.head?, d.pool.free.length < q.count)
    (empty : ∀ m z, (d.prog n).record.members[m.val]? = some z → (d.line n m).d = 0) :
    ∃ g, d.Filled (d.initialFill n) g n := by
  have engine : d.EngineOnly (d.filling n) := (d.requireAll_engine n).trans (Device.modDelay_engine _ n _)
  obtain ⟨g, asked, run⟩ := Device.settleBlocks_asked (d := d.filling n) (n := n) (target := fun l => l.dReq)
    (by rw [Device.active, engine.inState]; exact active) (by rw [Device.hasEntry, d.filling_pool]; exact entry)
    (by rw [d.filling_pool]; exact waits) (fun _ _ => rfl)
  refine ⟨g, ?_⟩
  rw [Device.initialFill_eq, run]
  have record := (engine.trans asked.engine).record n
  have spares := asked.blocks.spares n
  have cLine (m : Ix8) (z : Member) (listed : (d.prog n).record.members[m.val]? = some z) :
      (g.reline n fun _ _ l => l.settled l.dReq).line n m = { d.line n m with
        dReq := d.requiredOf n z, spare := (g.line n m).spare
        underDelay := decide ((d.prog n).record.settings.delayTarget <
          ((d.port (z.on (d.prog n).ctx.selection).port).conv.lc : Int) + 24)
        dNew := (g.line n m).within (d.requiredOf n z)
        clamped := decide ((g.line n m).held < blockNeed (d.requiredOf n z)) } := by
    have own : g.line n m = { d.line n m with
        dReq := d.requiredOf n z, spare := (g.line n m).spare
        underDelay := decide ((d.prog n).record.settings.delayTarget <
          ((d.port (z.on (d.prog n).ctx.selection).port).conv.lc : Int) + 24) } := by
      have := spares m
      rw [d.filling_line, d.requireAll_line n listed] at this
      exact this
    rw [g.reline_line_listed n _ (by rw [record]; exact listed)]
    have required : (g.line n m).dReq = d.requiredOf n z := by rw [own]
    rw [congrArg (g.line n m).settled required]
    exact congrArg (fun l : Line => { l with
      dNew := (g.line n m).within (d.requiredOf n z)
      clamped := decide ((g.line n m).held < blockNeed (d.requiredOf n z)) }) own
  have cHeld := g.reline_held n (fun _ _ l => l.settled l.dReq) fun _ _ _ => rfl
  have cDelay := g.reline_delay n fun _ _ l => l.settled l.dReq
  have cRecord := (g.reline_record n fun _ _ l => l.settled l.dReq).trans record
  have cOther (k : Ix8) (h : k ≠ n) := g.reline_other n (fun _ _ l => l.settled l.dReq) h
  have cPool : (g.reline n fun _ _ l => l.settled l.dReq).pool = g.pool := rfl
  have cAlarms : (g.reline n fun _ _ l => l.settled l.dReq).alarms = d.alarms :=
    asked.blocks.alarms.trans (d.filling_alarms n)
  have cTime := ((engine.trans asked.engine).trans (g.reline_engine n fun _ _ l => l.settled l.dReq)).time
  generalize g.reline n (fun _ _ l => l.settled l.dReq) = c at *
  have listedIff (m : Ix8) (z : Member) : ((c.reportShort n).prog n).record.members[m.val]? = some z ↔
      (d.prog n).record.members[m.val]? = some z := by
    rw [c.reportShort_prog, cRecord]
  obtain ⟨x, gap, same⟩ := Device.enterGap_grow (d := c.reportShort n) (n := n) fun m z listed => by
    rw [listedIff] at listed
    rw [c.reportShort_line, cLine m z listed]
    exact not_lt.2 ((empty m z listed).le.trans (Nat.zero_le _))
  obtain ⟨phase, step, length, -, alarms⟩ := (c.reportShort n).enterGap_spec n
  have eLine (m : Ix8) : ((c.reportShort n).enterGap n).line n m =
      ((c.reportShort n).reline n fun _ _ => Line.gapped).line n m := by
    rw [gap, Device.line, Device.prog_modDelay_self]
    exact congrArg (fun o => Oct.get o m) (same _).1
  have eListed (m : Ix8) (z : Member) (listed : (d.prog n).record.members[m.val]? = some z) :
      ((c.reportShort n).enterGap n).line n m = (c.line n m).gapped := by
    rw [eLine, Device.reline_line_listed _ n _ ((listedIff m z).2 listed), c.reportShort_line]
  have eHeld (m : Ix8) : (((c.reportShort n).enterGap n).line n m).held = (g.line n m).held := by
    rw [eLine, Device.reline_held _ n (fun _ _ => Line.gapped) (fun _ _ _ => rfl), c.reportShort_line, cHeld]
  have eDelay := (c.reportShort n).reline_delay n fun _ _ => Line.gapped
  have gapDelay : (((c.reportShort n).enterGap n).prog n).delay = x (((c.reportShort n).reline n fun _ _ => Line.gapped).prog n).delay := by
    rw [gap, Device.prog_modDelay_self]
  have ePool : ((c.reportShort n).enterGap n).pool = c.pool := by
    rw [gap]
    exact c.reportShort_pool n
  have eOther (k : Ix8) (h : k ≠ n) : ((c.reportShort n).enterGap n).prog k = c.prog k := by
    rw [gap]
    exact ((Device.prog_modProg _ n k _).trans (if_neg h.symm)).trans
      (((c.reportShort n).reline_other n _ h).trans (c.reportShort_prog n k))
  have lacks : (∃ m z, (d.prog n).record.members[m.val]? = some z ∧
      (((c.reportShort n).enterGap n).line n m).held < blockNeed (d.requiredOf n z)) ↔ c.anyClamped n = true := by
    rw [Device.anyClamped, c.any_positions_iff, cRecord]
    refine exists_congr fun m => exists_congr fun z => and_congr_right fun listed => ?_
    rw [eHeld, cLine m z listed]
    exact decide_eq_true_iff.symm
  obtain ⟨report, quiet⟩ := c.reportShort_cases n
  refine ⟨asked, ePool.trans cPool, fun k h => ?_, ?_, step, ?_, ?_, ?_, eHeld, fun m z listed => ?_, fun short => ?_,
    fun enough => ?_⟩
  · rw [eOther k h, cOther k h, asked.others h, d.filling_others h]
  · rw [phase, length]
  · rw [length, c.reportShort_prog, cRecord]
    congr 1
    refine List.map_congr_left fun m there => ?_
    obtain ⟨z, listed⟩ := Record.mem_positions.1 there
    rw [eListed m z listed, c.reportShort_line]
    have none : (c.line n m).d = 0 := by
      rw [cLine m z listed]
      exact empty m z listed
    rw [none]
    rfl
  · rw [gapDelay, (same _).2.2, eDelay]
    dsimp only
    rw [c.reportShort_prog, cDelay, asked.blocks.delay, d.filling_delay]
  · rw [gapDelay, (same _).2.1, eDelay]
    dsimp only
    rw [c.reportShort_prog, cDelay, asked.blocks.delay, d.filling_delay]
  · have within : (((c.reportShort n).enterGap n).line n m).within (d.requiredOf n z) =
        (g.line n m).within (d.requiredOf n z) := by
      rw [Line.within, eHeld, ← Line.within]
    rw [within, eHeld, eListed m z listed, cLine m z listed, Line.gapped]
    have none := empty m z listed
    dsimp only
    rw [none]
    rfl
  · rw [alarms, report (lacks.1 short)]
    change c.alarms.activate c.time.seconds _ = _
    rw [cAlarms, cTime]
  · rw [alarms, quiet (eq_false_of_ne_true fun h => enough (lacks.2 h)), cAlarms]

/-- The part with a programme in STANDBY made ACTIVE, before its lines are filled (R51). -/
def Device.activated (d : Device) (n : Ix8) : Device := d.modProg n fun x => { x with
  record := { x.record with state := .active }
  ctx := x.ctx.run
  meter := Meter.run x.record
  gain := Gain.reset
  stage := x.stage.run x.record.settings.trim }

theorem Device.activated_prog (d : Device) (n : Ix8) : (d.activated n).prog n = { d.prog n with
    record := { (d.prog n).record with state := .active }
    ctx := (d.prog n).ctx.run
    meter := Meter.run (d.prog n).record
    gain := Gain.reset
    stage := (d.prog n).stage.run (d.prog n).record.settings.trim } := d.prog_modProg_self n _

theorem Device.runProgramme_eq (d : Device) (n : Ix8) : d.runProgramme n =
    ((d.activated n).initialFill n).modAlarms fun u => (conditionsOf n).foldl AlarmUnit.zeroTimers u := rfl

theorem Device.heldBy_reset (h : (d.prog n).delay = Delay.reset) (m : Ix8) : (d.line n m) = Line.reset := by
  rw [Device.line, h]
  exact Oct.get_fill _ _

/-! ## The pool at an initial fill -/

/-- The block needs of a programme's members for their required lengths. -/
def Device.fillNeeds (d : Device) (n : Ix8) : List Nat :=
  (d.prog n).record.members.map fun z => blockNeed (d.requiredOf n z)

section fill

variable (reset : ∀ m, d.line n m = Line.reset) (few : (d.prog n).record.members.length ≤ 8)

theorem Device.filling_record (d : Device) (n : Ix8) : ((d.filling n).prog n).record = (d.prog n).record :=
  ((d.requireAll_engine n).trans (Device.modDelay_engine _ n _)).record n

theorem Device.filling_dReq (d : Device) (n : Ix8) (listed : (d.prog n).record.members[m.val]? = some z) :
    ((d.filling n).line n m).dReq = d.requiredOf n z := by
  rw [d.filling_line, d.requireAll_line n listed]

include reset

theorem Device.filling_held (m : Ix8) : ((d.filling n).line n m).held = 0 := by
  rw [d.filling_line, (d.requireAll_holds n m).2.2, reset]
  rfl

theorem Device.filling_heldBy : (d.filling n).heldBy n = 0 := by
  rw [Device.heldBy_eq]
  simp only [Device.filling_held reset]
  rfl

include few

theorem Device.filling_lack : (d.filling n).lack n (fun l => l.dReq) = (d.fillNeeds n).sum := by
  rw [Device.lack, d.filling_record]
  refine Eq.trans (congrArg List.sum (List.map_congr_left fun m _ => ?_)) (sum_eight_members _ few _)
  rw [Device.filling_held reset, Nat.sub_zero]
  cases there : (d.prog n).record.members[m.val]? with
  | none =>
    rw [if_neg fun less => by
      rw [List.getElem?_eq_getElem less] at there
      nomatch there]
    rfl
  | some z =>
    rw [if_pos (List.getElem?_eq_some_iff.1 there).1, d.filling_dReq n there]
    rfl

theorem Device.filling_asked : (d.filling n).asked n (fun l => l.dReq) =
    { prog := n, count := min (d.fillNeeds n).sum d.pool.size
      limited := decide (min (d.fillNeeds n).sum d.pool.size < (d.fillNeeds n).sum) } := by
  rw [Device.asked, Device.filling_lack reset few, Device.filling_heldBy reset, d.filling_pool]
  rfl

omit reset in
theorem Device.filling_needs : (d.filling n).needsUnder n (fun l => l.dReq) = d.fillNeeds n := by
  rw [Device.needsUnder, d.filling_record, Device.fillNeeds]
  have size : (d.prog n).record.positions.length = (d.prog n).record.members.length := by
    rw [Record.positions_take, List.length_take]
    exact min_eq_left few
  refine List.ext_getElem? fun i => ?_
  by_cases inside : i < 8
  · have at_ := Record.positions_map (d.prog n).record (fun m => blockNeed ((d.filling n).line n m).dReq) ⟨i, inside⟩
    rw [show ((⟨i, inside⟩ : Ix8) : Fin 8).val = i from rfl] at at_
    rw [at_, List.getElem?_map]
    split_ifs with less
    · have listed := List.getElem?_eq_getElem less
      rw [listed, d.filling_dReq (m := ⟨i, inside⟩) n listed]
      rfl
    · rw [List.getElem?_eq_none (not_lt.1 less)]
      rfl
  · rw [List.getElem?_eq_none (by rw [List.length_map, size]; omega),
      List.getElem?_eq_none (by rw [List.length_map]; omega)]

/-- Blocks enough: each member gets its need. -/
theorem Device.Filled.ample (h : d.Filled e g n) (queue : d.pool.queue = [] ∨ (d.fillNeeds n).sum = 0)
    (free : (d.fillNeeds n).sum ≤ d.pool.free.length) (room : d.pool.free.length ≤ d.pool.size) :
    (∀ m z, (d.prog n).record.members[m.val]? = some z → (e.line n m).held = blockNeed (d.requiredOf n z)) ∧
      e.pool.free = d.pool.free.drop (d.fillNeeds n).sum ∧ e.pool.queue = d.pool.queue := by
  have lack := Device.filling_lack reset few
  rw [h.pool]
  by_cases none : (d.fillNeeds n).sum = 0
  · have same : g = d.filling n := by
      cases h.asked with
      | enough _ same => exact same
      | nothing some _ _ => exact absurd (lack.trans none) some
      | waiting some _ _ _ => exact absurd (lack.trans none) some
      | granted some _ _ _ _ => exact absurd (lack.trans none) some
    rw [same, d.filling_pool, none]
    refine ⟨fun m z listed => ?_, rfl, rfl⟩
    have enough := ((d.filling n).lack_eq_zero n _).1 (lack.trans none) m z (by rw [d.filling_record]; exact listed)
    rw [d.filling_dReq n listed, Device.filling_held reset] at enough
    rw [h.held, same, Device.filling_held reset]
    omega
  · have idle := queue.resolve_right none
    obtain ⟨empty, left, whole⟩ := h.asked.whole (by rw [d.filling_pool]; exact idle) (by rw [lack, d.filling_pool]; exact free)
      (by rw [lack, d.filling_pool, Device.filling_heldBy reset]; omega)
    rw [lack, d.filling_pool] at left
    refine ⟨fun m z listed => ?_, left, empty.trans idle.symm⟩
    rw [h.held, whole m z (by rw [d.filling_record]; exact listed), d.filling_dReq n listed, Device.filling_held reset,
      Nat.max_zero]

/-- Too few blocks free, and none asked for before: a grant, limited where the whole pool is too small. -/
theorem Device.Filled.limited (h : d.Filled e g n) (queue : d.pool.queue = [])
    (scarce : d.pool.free.length < (d.fillNeeds n).sum) (fits : min (d.fillNeeds n).sum d.pool.size ≤ d.pool.free.length) :
    (∃ m z, (d.prog n).record.members[m.val]? = some z ∧ (e.line n m).held < blockNeed (d.requiredOf n z)) ∧
      e.heldBy n = min (d.fillNeeds n).sum d.pool.size ∧
      e.pool.free = d.pool.free.drop (min (d.fillNeeds n).sum d.pool.size) ∧ e.pool.queue = [] := by
  have lack := Device.filling_lack reset few
  have entry := congrArg PoolEntry.count (Device.filling_asked reset few)
  obtain ⟨m, z, listed, less⟩ := h.asked.lacks (by rw [lack, d.filling_pool]; exact scarce)
  rw [d.filling_record] at listed
  rw [d.filling_dReq n listed] at less
  obtain ⟨total, left, empty⟩ := h.asked.granted_total (by rw [d.filling_pool]; exact queue) (by rw [lack]; omega)
    (by rw [entry, d.filling_pool]; exact fits)
  rw [entry, Device.filling_heldBy reset, Nat.zero_add] at total
  rw [entry, d.filling_pool] at left
  refine ⟨⟨m, z, listed, by rw [h.held]; exact less⟩, ?_, by rw [h.pool]; exact left, by rw [h.pool]; exact empty⟩
  rw [Device.heldBy_eq]
  simp only [h.held]
  rw [← Device.heldBy_eq]
  exact total

/-- A request that cannot be granted at once waits at the tail, with its need figures, and no member has a block. -/
theorem Device.Filled.waits (h : d.Filled e g n) (asks : 0 < min (d.fillNeeds n).sum d.pool.size)
    (large : d.pool.queue ≠ [] ∨ d.pool.free.length < min (d.fillNeeds n).sum d.pool.size) :
    (∃ m z, (d.prog n).record.members[m.val]? = some z ∧ (e.line n m).held < blockNeed (d.requiredOf n z)) ∧
      (∀ m, (e.line n m).held = 0) ∧ e.pool.free = d.pool.free ∧
      e.pool.queue = d.pool.queue ++ [{ prog := n, count := min (d.fillNeeds n).sum d.pool.size
                                        limited := decide (min (d.fillNeeds n).sum d.pool.size < (d.fillNeeds n).sum) }] ∧
      e.pool.needs.get n = some (d.fillNeeds n) := by
  have lack := Device.filling_lack reset few
  have entry := Device.filling_asked reset few
  have same := h.asked.waits (by rw [entry]; exact asks.ne') (by rw [entry, d.filling_pool]; exact large)
  have none (m : Ix8) : (e.line n m).held = 0 := by
    rw [h.held, same]
    exact Device.filling_held reset m
  have some : (d.filling n).lack n (fun l => l.dReq) ≠ 0 := by
    rw [lack]
    omega
  rw [Ne, (d.filling n).lack_eq_zero, d.filling_record] at some
  push Not at some
  obtain ⟨m, z, listed, less⟩ := some
  rw [d.filling_dReq n listed] at less
  refine ⟨⟨m, z, listed, by rw [none]; omega⟩, none, ?_, ?_, ?_⟩
  · rw [h.pool, same]
    change (d.filling n).pool.free = _
    rw [d.filling_pool]
  · rw [h.pool, same, entry]
    change (d.filling n).pool.queue ++ _ = _
    rw [d.filling_pool]
  · rw [h.pool, same, Device.filling_needs few]
    exact Oct.get_set_self _ _ _

end fill

/-- The gap of an initial fill is the longest new length. -/
theorem Device.Filled.gap (h : d.Filled e g n) : (e.prog n).delay.gapLength =
    (eight.map fun m => ((d.prog n).record.members[m.val]?.map fun z => (e.line n m).within (d.requiredOf n z)).getD 0).foldl
      max 0 := by
  rw [h.length, Record.positions_eq, foldl_max_filter]
  refine congrArg (List.foldl max 0) (List.map_congr_left fun m _ => ?_)
  cases there : (d.prog n).record.members[m.val]? with
  | none => rfl
  | some z => exact congrArg Line.dNew (h.line m z there)

end Sys2Proof.Machine
end

section
/-!
PROOF. A RUN taken in STANDBY (R50, R51, R78, R82, R83, R96, R102, R105).
-/

namespace Sys2Proof.Machine

variable {d e g : Device} {s : State} {n k m : Ix8} {z : Member}

/-! ## The need of a member at its primary source (R90) -/

theorem Device.activated_line (d : Device) (n m : Ix8) (reset : (d.prog n).delay = Delay.reset) :
    (d.activated n).line n m = Line.reset := by
  rw [Device.line, d.activated_prog]
  exact Device.heldBy_reset reset m

theorem Device.activated_requiredOf (d : Device) (n : Ix8) (z : Member) :
    ((d.activated n).requiredOf n z : Int) = max 0 (min 480000
      ((d.prog n).record.settings.delayTarget - ((d.port z.primary.port).conv.lc : Int) - 24)) := by
  rw [Device.requiredOf, Device.required, d.activated_prog]
  exact Int.toNat_of_nonneg (le_max_left _ _)

theorem blockNeed_toNat {v : Int} {k : Nat} (h : (k : Int) = v) :
    blockNeed k = if v = 0 then 0 else (v.toNat + 1023) / 1024 + 1 := by
  subst h
  unfold blockNeed
  simp only [Int.toNat_natCast, Int.natCast_eq_zero]

/-! ## The part that a RUN leaves -/

/-- What a RUN leaves outside the delay engine. -/
theorem Device.runProgramme_spec (d : Device) (n : Ix8) :
    (∀ k, (d.runProgramme n).prog k = ((d.activated n).initialFill n).prog k) ∧
      (d.runProgramme n).pool = ((d.activated n).initialFill n).pool ∧
      (d.runProgramme n).time = d.time ∧ (d.runProgramme n).ports = d.ports ∧ (d.runProgramme n).mem = d.mem ∧
      (d.runProgramme n).map = d.map ∧ (d.runProgramme n).link = d.link ∧
      ∀ b, (d.runProgramme n).alarms.get b = if b ∈ conditionsOf n then
        { ((d.activated n).initialFill n).alarms.get b with setTimer := 0, clearTimer := 0, expiry := .none }
        else ((d.activated n).initialFill n).alarms.get b := by
  have engine := (d.activated n).initialFill_engine n
  have time : (d.activated n).time = d.time := rfl
  have ports : (d.activated n).ports = d.ports := rfl
  have mem : (d.activated n).mem = d.mem := rfl
  have map : (d.activated n).map = d.map := rfl
  have link : (d.activated n).link = d.link := rfl
  rw [d.runProgramme_eq]
  generalize d.activated n = a at *
  generalize a.initialFill n = i at *
  have records := AlarmUnit.foldl_zeroTimers_get (conditionsOf n) i.alarms
  exact ⟨fun _ => rfl, rfl, engine.time.trans time, engine.ports.trans ports, engine.mem.trans mem,
    engine.map.trans map, engine.link.trans link, records⟩

/-- The reply of a RUN taken in STANDBY, and the part that it leaves. -/
theorem exec_run_standby {tag : Byte} (ready : s.dev.readyInRun) (standby : (s.dev.prog n).record.state = .standby)
    (some : (s.dev.prog n).record.members ≠ []) :
    exec (.run tag (byteOf n.val)) s =
      .next (s.answered (s.dev.runProgramme n) (okReply 0xA2 tag [byteOf n.val, 2])) := by
  have ran : s.dev.carryOut (.run (byteOf n.val)) =
      (s.dev.runProgramme n, .ok ((s.dev.runProgramme n).stateFields n)) := by
    simp only [Device.carryOut, Device.requestRun, ix8?_byteOf, standby, if_neg some]
  have run := exec_run_executed (i := .run tag (byteOf n.val)) rfl rfl ready nofun nofun ran
  have fields : (s.dev.runProgramme n).stateFields n = [byteOf n.val, 2] := by
    rw [Device.stateFields, s.dev.runProgramme_spec n |>.1, ((s.dev.activated n).initialFill_engine n).record n,
      s.dev.activated_prog]
    rfl
  rw [fields] at run
  exact run

/-- A programme with no request waiting and its lines empty is filled at a RUN. -/
theorem Device.activated_filled (reset : (d.prog n).delay = Delay.reset) (unqueued : d.hasEntry n = false)
    (waits : ∀ q ∈ d.pool.queue.head?, d.pool.free.length < q.count) :
    ∃ g, (d.activated n).Filled ((d.activated n).initialFill n) g n := by
  have pool : (d.activated n).pool = d.pool := rfl
  refine Device.initialFill_filled ?_ ?_ ?_ fun m z _ => ?_
  · rw [Device.active_iff, d.activated_prog]
  · rw [Device.hasEntry, pool]
    exact unqueued
  · rw [pool]
    exact waits
  · rw [d.activated_line n m reset]
    rfl

/-- The records of a programme's conditions after a RUN. -/
theorem Device.runProgramme_records {lacks : Prop}
    (short : lacks → ((d.activated n).initialFill n).alarms = d.alarms.activate d.time.seconds (.delayShort n))
    (silent : ¬ lacks → ((d.activated n).initialFill n).alarms = d.alarms) :
    (∀ b, b ∉ conditionsOf n → (d.runProgramme n).alarms.get b = d.alarms.get b) ∧
    ∀ b ∈ conditionsOf n,
      (b = .delayShort n ∧ (d.alarms.get b).active = false ∧ lacks → (d.runProgramme n).alarms.get b =
        { active := true, latch := true, count := addSat (d.alarms.get b).count 1, setTimer := 0, clearTimer := 0
          time := d.time.seconds
          noticed := (d.alarms.get b).noticed || (d.alarms.masks.get .delayShort).notify, expiry := .none }) ∧
      (¬ (b = .delayShort n ∧ (d.alarms.get b).active = false ∧ lacks) → (d.runProgramme n).alarms.get b =
        { d.alarms.get b with setTimer := 0, clearTimer := 0, expiry := .none }) := by
  obtain ⟨-, -, -, -, -, -, -, records⟩ := d.runProgramme_spec n
  have kept (b : Alarm) (h : ¬ (b = .delayShort n ∧ (d.alarms.get b).active = false ∧ lacks)) :
      ((d.activated n).initialFill n).alarms.get b = d.alarms.get b := by
    by_cases lack : lacks
    · rw [short lack, AlarmUnit.activate_get, if_neg]
      rintro ⟨rfl, off⟩
      exact h ⟨rfl, off, lack⟩
    · rw [silent lack]
  refine ⟨fun b absent => ?_, fun b present => ⟨?_, fun h => ?_⟩⟩
  · rw [records, if_neg absent, kept b]
    rintro ⟨rfl, -⟩
    exact absent (by simp [conditionsOf])
  · rintro ⟨rfl, off, lack⟩
    rw [records, if_pos present, short lack, (d.alarms.activate_eq d.time.seconds (.delayShort n) off).1]
    rfl
  · rw [records, if_pos present, kept b h]

/-- Settles O21: the blocks settled for the required lengths, and the fill that they allow. -/
theorem runStartsTheInitialFill : Obligations.RunStartsTheInitialFill := by
  intro s tag n ready x pool need blocks short count standby some few fresh unqueued waits fits
  refine ⟨s.dev.runProgramme n, exec_run_standby ready standby some, ?_⟩
  obtain ⟨g, filled⟩ := Device.activated_filled fresh unqueued waits
  obtain ⟨eProg, ePool, eTime, ePorts, eMem, eMap, eLink, -⟩ := s.dev.runProgramme_spec n
  have reset (m : Ix8) := s.dev.activated_line n m fresh
  have prog := s.dev.activated_prog n
  have members : ((s.dev.activated n).prog n).record.members = x.record.members := by rw [prog]
  have few' : ((s.dev.activated n).prog n).record.members.length ≤ 8 := by rw [members]; exact few
  have size (z : Member) : blockNeed ((s.dev.activated n).requiredOf n z) = blocks z :=
    blockNeed_toNat (s.dev.activated_requiredOf n z)
  have length (z : Member) : (s.dev.activated n).requiredOf n z = (need z).toNat :=
    (Int.toNat_natCast _).symm.trans (congrArg Int.toNat (s.dev.activated_requiredOf n z))
  have needs : (s.dev.activated n).fillNeeds n = x.record.members.map blocks := by
    rw [Device.fillNeeds, members]
    exact List.map_congr_left fun z _ => size z
  have ample := Device.Filled.ample reset few' filled
  have limited := Device.Filled.limited reset few' filled
  have waiting := Device.Filled.waits reset few' filled
  have engine := (s.dev.activated n).initialFill_engine n
  have aPool : (s.dev.activated n).pool = pool := rfl
  have aPort (p : Ix8) : (s.dev.activated n).port p = s.dev.port p := rfl
  have others (k : Ix8) (h : k ≠ n) : (s.dev.runProgramme n).prog k = s.dev.prog k := by
    rw [eProg, filled.others k h]
    exact (s.dev.prog_modProg n k _).trans (if_neg h.symm)
  have records := Device.runProgramme_records (d := s.dev) (n := n) filled.short filled.silent
  have eLine (m : Ix8) : (s.dev.runProgramme n).line n m = ((s.dev.activated n).initialFill n).line n m :=
    congrArg (fun x : Programme => x.delay.lines.get m) (eProg n)
  have eHeldBy : (s.dev.runProgramme n).heldBy n = ((s.dev.activated n).initialFill n).heldBy n :=
    congrArg (fun x : Programme => (x.delay.lines.toList.map Line.held).sum) (eProg n)
  generalize s.dev.runProgramme n = e at *
  generalize (s.dev.activated n).initialFill n = i at *
  have own := engine.prog n
  intro y heldNow listed new gap lacks
  have heldEq (m : Ix8) : heldNow m = (i.line n m).held := congrArg Line.held (eLine m)
  have within (m : Ix8) (z : Member) : (i.line n m).within ((s.dev.activated n).requiredOf n z) = new m z := by
    change _ = if blocks z ≤ heldNow m then (need z).toNat else 1024 * (heldNow m - 1)
    rw [Line.within, size, heldEq, length]
    by_cases less : (i.line n m).held < blocks z
    · rw [if_pos less, if_neg (not_le.2 less)]
    · rw [if_neg less, if_pos (not_lt.1 less)]
  have gapEq : (i.prog n).delay.gapLength = gap := by
    rw [filled.gap, members]
    simp only [within]
    rfl
  have lacksIff : (∃ m z, ((s.dev.activated n).prog n).record.members[m.val]? = .some z ∧
      (i.line n m).held < blockNeed ((s.dev.activated n).requiredOf n z)) ↔ lacks := by
    rw [members]
    simp only [size, ← heldEq]
    rfl
  rw [lacksIff] at limited waiting records
  rw [aPool, needs] at ample limited waiting
  rw [members] at ample
  simp only [size, ← heldEq] at ample limited waiting
  rw [← ePool] at ample limited waiting
  rw [← eHeldBy] at limited
  have yEq : y = i.prog n := eProg n
  rw [prog] at own
  refine ⟨by rw [yEq, own], by rw [yEq, own]; rfl, by rw [yEq, own]; rfl, by rw [yEq, own], by rw [yEq, own],
    by rw [yEq, own]; rfl, by rw [yEq, filled.fade, gapEq], by rw [yEq, filled.step], by rw [yEq, gapEq],
    by rw [yEq, filled.tLines, prog], ?_, fun m z there => ?_, fun free room => ample free room fits, limited,
    waiting, others, records.1, records.2, eTime, ePorts, eMem, eMap, eLink⟩
  · rw [yEq, filled.pending, prog]
    exact congrArg Delay.pending fresh
  · have line := filled.line m z (by rw [members]; exact there)
    rw [within, size, ← heldEq, reset, ← eLine] at line
    intro l
    have value : l = _ := line
    rw [value]
    refine ⟨rfl, s.dev.activated_requiredOf n z, rfl, rfl, rfl, decide_eq_true_iff, ?_⟩
    rw [prog]
    exact decide_eq_true_iff

end Sys2Proof.Machine
end

section
/-!
PROOF. A delay line as a queue over the words of its blocks (R91, R92, R98, R100).
-/

namespace Sys2Proof.Machine

variable {l : Line} {mem : DelayMemory} {h : HouseIndex} {x : Sample}

/-! ## Words of blocks (R74, R92) -/

theorem blockWord_injective {b c o p : Nat} (ho : o < 1024) (hp : p < 1024) (same : blockWord b o = blockWord c p) :
    b = c ∧ o = p := by
  unfold blockWord at same
  omega

/-- The word at which a line takes its next sample. -/
def Line.tailWord (l : Line) : Nat :=
  blockWord ((l.inUse ++ l.spare.take 1).getD ((l.headPos + l.d) / 1024) 0) ((l.headPos + l.d) % 1024)

/-- The line after a sample has been appended: one longer, with a spare taken into use where the tail needs it. -/
def Line.lengthened (l : Line) : Line :=
  if (l.headPos + l.d) / 1024 < l.inUse.length then { l with d := l.d + 1 }
  else { l with d := l.d + 1, inUse := l.inUse ++ l.spare.take 1, spare := l.spare.drop 1 }

/-- The tail of a sound line is in its last block in use, or opens a spare. -/
theorem Line.Sound.tail (sound : l.Sound) : (l.headPos + l.d) / 1024 < l.inUse.length ∨
    ((l.headPos + l.d) / 1024 = l.inUse.length ∧ ∃ b rest, l.spare = b :: rest) := by
  obtain ⟨-, -, used, room⟩ := sound
  rcases room with inside | spare
  · exact .inl inside
  · by_cases inside : (l.headPos + l.d) / 1024 < l.inUse.length
    · exact .inl inside
    · refine .inr ⟨by omega, ?_⟩
      cases spares : l.spare with
      | nil => exact absurd spares spare
      | cons b rest => exact ⟨b, rest, rfl⟩

/-- A sample appended to a sound line goes to its tail word. -/
theorem Line.Sound.append (sound : l.Sound) (mem : DelayMemory) (x : Sample) :
    l.append mem x = (l.lengthened, mem.write l.tailWord x) := by
  unfold Line.append Line.tailPlace Line.lengthened Line.tailWord
  rcases sound.tail with inside | ⟨at_end, b, rest, spares⟩
  · dsimp only
    rw [List.getElem?_eq_getElem inside, if_pos inside, List.getD_append _ _ _ _ inside, List.getD_eq_getElem _ _ inside]
  · have none : l.inUse[(l.headPos + l.d) / 1024]? = none := List.getElem?_eq_none at_end.ge
    dsimp only
    rw [none, if_neg (not_lt.2 at_end.ge), spares, at_end]
    simp

/-- The words of a line's samples stay where they are as it grows, and its new sample is at the tail. -/
theorem Line.Sound.wordAt_lengthened (sound : l.Sound) :
    (∀ i, i < l.d → l.lengthened.wordAt i = l.wordAt i) ∧ l.lengthened.wordAt l.d = l.tailWord := by
  obtain ⟨head, -, used, -⟩ := id sound
  have before (i : Nat) (older : i < l.d) : (l.headPos + i) / 1024 < l.inUse.length := by omega
  unfold Line.lengthened
  rcases sound.tail with inside | ⟨at_end, b, rest, spares⟩
  · rw [if_pos inside]
    refine ⟨fun i older => rfl, ?_⟩
    unfold Line.wordAt Line.tailWord
    rw [List.getD_append _ _ _ _ inside]
  · rw [if_neg (not_lt.2 at_end.ge)]
    refine ⟨fun i older => ?_, rfl⟩
    unfold Line.wordAt
    dsimp only
    rw [List.getD_append _ _ _ _ (before i older)]

/-- The blocks of the line are distinct, so no sample of it lies in the tail word. -/
theorem Line.Sound.wordAt_ne_tail (sound : l.Sound) {i : Nat} (older : i < l.d) : l.wordAt i ≠ l.tailWord := by
  obtain ⟨head, nodup, used, -⟩ := id sound
  intro same
  obtain ⟨block, offset⟩ := blockWord_injective (Nat.mod_lt _ (by decide)) (Nat.mod_lt _ (by decide)) same
  have before : (l.headPos + i) / 1024 < l.inUse.length := by omega
  have distinct : (l.inUse ++ l.spare.take 1).Nodup :=
    nodup.sublist ((List.Sublist.refl _).append (List.take_sublist _ _))
  have place : (l.headPos + l.d) / 1024 < (l.inUse ++ l.spare.take 1).length := by
    rw [List.length_append]
    rcases sound.tail with inside | ⟨at_end, b, rest, spares⟩
    · omega
    · rw [spares]
      simp [at_end]
  rw [← List.getD_append _ (l.spare.take 1) _ _ before, List.getD_eq_getElem _ _ (by rw [List.length_append]; omega),
    List.getD_eq_getElem _ _ place, distinct.getElem_inj_iff] at block
  omega

/-! ## The head delivered (R91) -/

theorem Line.deliverOne_eq (l : Line) (some : 2 ≤ l.d) :
    l.deliverOne.1.d = l.d - 1 ∧ l.deliverOne.1.headIndex = l.headIndex ∧
      l.deliverOne.1.inUse = l.inUse.drop ((l.headPos + 1) / 1024) ∧ l.deliverOne.1.headPos = (l.headPos + 1) % 1024 := by
  unfold Line.deliverOne
  dsimp only
  rw [Line.judgeEmptied_eq]
  unfold Line.removeHead
  have left : l.d - 1 ≠ 0 := by omega
  dsimp only
  rw [if_neg left, if_neg left]
  exact ⟨rfl, rfl, rfl, rfl⟩

/-- After a delivery every sample stands one place nearer the head, in the word where it was. -/
theorem Line.wordAt_deliverOne (l : Line) (some : 2 ≤ l.d) (i : Nat) :
    l.deliverOne.1.wordAt i = l.wordAt (i + 1) := by
  obtain ⟨-, -, used, place⟩ := l.deliverOne_eq some
  unfold Line.wordAt
  rw [used, place, List.getD_eq_getElem?_getD, List.getD_eq_getElem?_getD, List.getElem?_drop]
  have blocks : (l.headPos + 1) / 1024 + ((l.headPos + 1) % 1024 + i) / 1024 = (l.headPos + (i + 1)) / 1024 := by omega
  have words : ((l.headPos + 1) % 1024 + i) % 1024 = (l.headPos + (i + 1)) % 1024 := by omega
  rw [blocks, words]

theorem Line.headAddress_eq (l : Line) (head : l.headPos < 1024) : l.headAddress = l.wordAt 0 := by
  unfold Line.headAddress Line.wordAt
  rw [Nat.add_zero, Nat.div_eq_of_lt head, Nat.mod_eq_of_lt head]
  cases l.inUse <;> rfl

/-! ## One house sample of a line -/

/-- A line with its head index counted from a house sample. -/
def Line.indexed (l : Line) (h : HouseIndex) : Line := { l with headIndex := h - BitVec.ofNat 48 l.d }

theorem Line.indexed_sound (sound : l.Sound) (h : HouseIndex) : (l.indexed h).Sound := sound

theorem Line.lengthened_d (l : Line) : l.lengthened.d = l.d + 1 := by
  unfold Line.lengthened
  split_ifs <;> rfl

theorem Line.lengthened_headPos (l : Line) : l.lengthened.headPos = l.headPos := by
  unfold Line.lengthened
  split_ifs <;> rfl

theorem Line.lengthened_headIndex (l : Line) : l.lengthened.headIndex = l.headIndex := by
  unfold Line.lengthened
  split_ifs <;> rfl

/-- Settles O53: the tail word takes the input, and the head advances or is kept. -/
theorem delayLineIsAQueue : Obligations.DelayLineIsAQueue := by
  intro l mem h x sound wf tail
  have indexed := Line.indexed_sound sound h
  have appended := indexed.append mem x
  obtain ⟨older, newest⟩ := indexed.wordAt_lengthened
  have read (a : Nat) : (mem.write tail x).read a = if a = tail then x else mem.read a := DelayMemory.read_write wf tail x a
  have kept (i : Nat) (inside : i < l.d) : (mem.write tail x).read ((l.indexed h).lengthened.wordAt i) =
      mem.read (l.wordAt i) := by
    rw [older i inside, read]
    exact if_neg (indexed.wordAt_ne_tail inside)
  have put : (mem.write tail x).read ((l.indexed h).lengthened.wordAt l.d) = x := by
    rw [show (l.indexed h).lengthened.wordAt l.d = tail from newest, read, if_pos rfl]
  have head : (l.indexed h).lengthened.headPos < 1024 := by
    rw [Line.lengthened_headPos]
    exact sound.1
  have length : (l.indexed h).lengthened.d = l.d + 1 := Line.lengthened_d _
  have index : (l.indexed h).lengthened.headIndex = h - BitVec.ofNat 48 l.d := Line.lengthened_headIndex _
  refine ⟨fun some => ?_, fun none => ?_, fun w which => ?_⟩
  · have step : l.step mem h x .normal =
        { line := (l.indexed h).lengthened.deliverOne.1, mem := mem.write tail x
          delivered := .some ((mem.write tail x).read (l.indexed h).lengthened.headAddress)
          back := (l.indexed h).lengthened.deliverOne.2 } := by
      rw [Line.step]
      refine (if_neg fun h => by omega).trans ?_
      change LineStep.mk (Line.append (l.indexed h) mem x).1.deliverOne.1 (Line.append (l.indexed h) mem x).2
        (.some ((Line.append (l.indexed h) mem x).2.read (Line.append (l.indexed h) mem x).1.headAddress))
        (Line.append (l.indexed h) mem x).1.deliverOne.2 = _
      rw [appended]
      rfl
    intro r
    have value : r = _ := step
    obtain ⟨long, same, -, -⟩ := (l.indexed h).lengthened.deliverOne_eq (by omega)
    have word := (l.indexed h).lengthened.wordAt_deliverOne (by omega)
    rw [value]
    dsimp only
    refine ⟨?_, ?_, ?_, ?_, fun i inside => ?_, ?_, fun a other => ?_⟩
    · rw [Line.headAddress_eq _ head, kept 0 (by omega)]
    · rw [long, length]
      rfl
    · rw [same, index]
    · rw [word, Nat.sub_add_cancel some]
      exact put
    · rw [word]
      exact kept (i + 1) inside
    · rw [read, if_pos rfl]
    · rw [read, if_neg other]
  · rw [Line.step]
    refine (if_pos ⟨none, rfl⟩).trans ?_
    have zero : h - BitVec.ofNat 48 l.d = h := by
      rw [none]
      exact BitVec.sub_zero h
    rw [zero]
  · have step : l.step mem h x w =
        { line := (l.indexed h).lengthened, mem := mem.write tail x
          delivered := if w = .frozen then .none else some ((mem.write tail x).read (l.indexed h).lengthened.headAddress)
          back := [] } := by
      rw [Line.step]
      refine (if_neg fun h => by rcases which with rfl | rfl <;> exact nomatch h.2).trans ?_
      rcases which with rfl | rfl
      · change LineStep.mk (Line.append (l.indexed h) mem x).1 (Line.append (l.indexed h) mem x).2
          (.some ((Line.append (l.indexed h) mem x).2.read (Line.append (l.indexed h) mem x).1.headAddress)) [] = _
        rw [appended]
        rfl
      · change LineStep.mk (Line.append (l.indexed h) mem x).1 (Line.append (l.indexed h) mem x).2 .none [] = _
        rw [appended]
        rfl
    intro r
    have value : r = _ := step
    rw [value]
    dsimp only
    refine ⟨?_, length, index, rfl, put, kept, by rw [read, if_pos rfl], fun a other => by rw [read, if_neg other]⟩
    split_ifs with frozen empty
    · rfl
    · rw [Line.headAddress_eq _ head, ← empty]
      exact congrArg some put
    · rw [Line.headAddress_eq _ head, kept 0 (Nat.pos_of_ne_zero empty)]

end Sys2Proof.Machine
end

section
/-!
SUPPORT. The phases of a sub-block end (R8), each seen in one programme or one port: the meters, the gain computers,
the changeover controllers, the qualification timers and the reports.
-/

namespace Sys2Proof.Machine

/-! ## A pass over the eight, seen at one of them -/

theorem foldl_at {α β : Type} {f : α → Ix8 → α} {P : α → Prop} (view : Ix8 → α → β)
    (keep : ∀ a m, P a → P (f a m)) (other : ∀ a m n, P a → n ≠ m → view n (f a m) = view n a) (n : Ix8) :
    ∀ (l : List Ix8), l.Nodup → ∀ a, P a → P (l.foldl f a) ∧ (n ∉ l → view n (l.foldl f a) = view n a) ∧
      (n ∈ l → ∃ b, P b ∧ view n b = view n a ∧ view n (l.foldl f a) = view n (f b n)) := by
  intro l
  induction l with
  | nil => exact fun _ a start => ⟨start, fun _ => rfl, fun h => nomatch h⟩
  | cons m l ih =>
    intro distinct a start
    obtain ⟨fresh, distinct⟩ := List.nodup_cons.1 distinct
    obtain ⟨kept, outside, inside⟩ := ih distinct (f a m) (keep a m start)
    refine ⟨kept, fun h => ?_, fun h => ?_⟩
    · obtain ⟨differs, later⟩ := List.ne_and_not_mem_of_not_mem_cons h
      exact (outside later).trans (other a m n start differs)
    · rcases List.mem_cons.1 h with rfl | later
      · exact ⟨a, start, rfl, outside fresh⟩
      · obtain ⟨b, holds, same, there⟩ := inside later
        refine ⟨b, holds, same.trans (other a m n start ?_), there⟩
        rintro rfl
        exact fresh later

/-- A pass whose steps keep `P`, each changing its own place's view alone, shows at place `n` what the step of `n` makes
of some state with `P` that shows there what the start does. -/
theorem forEight_at {α β : Type} {f : α → Ix8 → α} {P : α → Prop} (view : Ix8 → α → β)
    (keep : ∀ a m, P a → P (f a m)) (other : ∀ a m n, P a → n ≠ m → view n (f a m) = view n a) {a : α} (start : P a)
    (n : Ix8) : ∃ b, P b ∧ view n b = view n a ∧ view n (forEight a f) = view n (f b n) :=
  (foldl_at view keep other n eight (by decide) a start).2.2 (mem_eight n)

theorem forEight_holds {α : Type} {f : α → Ix8 → α} {P : α → Prop} (keep : ∀ a m, P a → P (f a m)) {a : α}
    (start : P a) : P (forEight a f) :=
  (foldl_at (fun _ _ => ()) keep (fun _ _ _ _ _ => rfl) 0 eight (by decide) a start).1

/-! ## The meters (R124, R125) -/

/-- The meter that a programme's sub-block end leaves. -/
def Device.metered (d : Device) (second : Bool) (n : Ix8) : Meter :=
  if d.active n then (d.prog n).meter.close (d.prog n).record (d.fit n) second
  else { (d.prog n).meter with activeThroughout := false }

/-- The OVER event of a programme is reported at its sub-block end. -/
def Device.overs (d : Device) (second : Bool) (n : Ix8) : Bool :=
  d.active n && (d.metered second n).over (d.prog n).record

/-- The OVER record that it leaves. -/
def Device.overed (d : Device) (second : Bool) (n : Ix8) : AlarmRecord :=
  let r := d.alarms.get (.overEvent n)
  if d.overs second n then
    { r with
      latch := true, count := addSat r.count 1, time := d.time.seconds
      noticed := r.noticed || (d.alarms.masks.get .overEvent).notify }
  else r

/-- Only meters and OVER records differ. -/
structure Device.MetersOnly (d e : Device) : Prop where
  frame : e = { d with progs := e.progs, alarms := e.alarms }
  prog : ∀ n, e.prog n = { d.prog n with meter := (e.prog n).meter }
  masks : e.alarms.masks = d.alarms.masks
  get : ∀ a, a.kind ≠ .overEvent → e.alarms.get a = d.alarms.get a

variable {d e : Device}

theorem Device.MetersOnly.refl (d : Device) : d.MetersOnly d := ⟨rfl, fun _ => rfl, rfl, fun _ _ => rfl⟩

theorem Device.MetersOnly.time (h : d.MetersOnly e) : e.time = d.time := by rw [h.frame]

theorem Device.MetersOnly.ports (h : d.MetersOnly e) : e.ports = d.ports := by rw [h.frame]

theorem Device.MetersOnly.active (h : d.MetersOnly e) (n : Ix8) : e.active n = d.active n := by
  rw [Device.active, Device.inState, h.prog n]
  rfl

theorem Device.MetersOnly.fit (h : d.MetersOnly e) (n : Ix8) : e.fit n = d.fit n := by
  unfold Device.fit Device.port Programme.currentSource
  rw [h.prog n, h.time, h.ports]

theorem Device.MetersOnly.metered (h : d.MetersOnly e) {n : Ix8} (same : (e.prog n).meter = (d.prog n).meter)
    (second : Bool) : e.metered second n = d.metered second n := by
  have prog : e.prog n = d.prog n := by rw [h.prog n, same]
  rw [Device.metered, Device.metered, h.active, h.fit, prog]

theorem Device.prog_modMeter_ne (d : Device) {n k : Ix8} (h : k ≠ n) (f : Meter → Meter) :
    (d.modMeter n f).prog k = d.prog k := (d.prog_modProg n k _).trans (if_neg h.symm)

theorem Device.closeMeter_eq (d : Device) (second : Bool) (n : Ix8) :
    d.closeMeter second n = (d.modMeter n fun _ => d.metered second n).modAlarms fun u =>
      if d.overs second n then u.occur d.time.seconds (.overEvent n) else u := by
  by_cases active : d.active n = true
  · have meter : d.metered second n = (d.prog n).meter.close (d.prog n).record (d.fit n) second := if_pos active
    have step : (d.modMeter n fun t => t.close (d.prog n).record (d.fit n) second) = d.modMeter n fun _ => d.metered second n :=
      d.modProg_congr n (by rw [meter])
    have closed : ((d.modMeter n fun _ => d.metered second n).prog n) = { d.prog n with meter := d.metered second n } :=
      d.prog_modMeter_self n _
    have overs : d.overs second n = (d.metered second n).over (d.prog n).record := by rw [Device.overs, active, Bool.true_and]
    rw [Device.closeMeter, if_pos active, step, overs]
    dsimp only
    rw [closed]
    dsimp only
    generalize (d.metered second n).over (d.prog n).record = reached
    cases reached <;> rfl
  · have meter : d.metered second n = { (d.prog n).meter with activeThroughout := false } := if_neg active
    have overs : d.overs second n = false := by
      rw [Device.overs, Bool.eq_false_of_not_eq_true active, Bool.false_and]
    have step : (d.modMeter n fun t => { t with activeThroughout := false }) = d.modMeter n fun _ => d.metered second n :=
      d.modProg_congr n (by rw [meter])
    rw [Device.closeMeter, if_neg active, step, overs]
    rfl

theorem Device.closeMeter_prog (d : Device) (second : Bool) (n : Ix8) :
    (d.closeMeter second n).prog n = { d.prog n with meter := d.metered second n } := by
  rw [d.closeMeter_eq, Device.prog_modAlarms]
  exact d.prog_modMeter_self n _

theorem Device.closeMeter_prog_ne (d : Device) (second : Bool) {n k : Ix8} (h : k ≠ n) :
    (d.closeMeter second n).prog k = d.prog k := by
  rw [d.closeMeter_eq, Device.prog_modAlarms]
  exact d.prog_modMeter_ne h _

theorem Device.closeMeter_alarms (d : Device) (second : Bool) (n : Ix8) :
    (d.closeMeter second n).alarms =
      if d.overs second n then d.alarms.occur d.time.seconds (.overEvent n) else d.alarms := by
  rw [d.closeMeter_eq]
  rfl

theorem Device.closeMeter_over (d : Device) (second : Bool) (n : Ix8) :
    (d.closeMeter second n).alarms.get (.overEvent n) = d.overed second n := by
  rw [d.closeMeter_alarms, Device.overed]
  split_ifs
  · exact (d.alarms.occur_get _ _ _).trans (if_pos rfl)
  · rfl

theorem Device.closeMeter_get_ne (d : Device) (second : Bool) {n : Ix8} {a : Alarm} (h : a ≠ .overEvent n) :
    (d.closeMeter second n).alarms.get a = d.alarms.get a := by
  rw [d.closeMeter_alarms]
  split_ifs
  · exact (d.alarms.occur_get _ _ _).trans (if_neg h)
  · rfl

theorem Device.closeMeter_metersOnly (d : Device) (second : Bool) (n : Ix8) : d.MetersOnly (d.closeMeter second n) where
  frame := by
    rw [d.closeMeter_eq]
    rfl
  prog k := by
    by_cases same : k = n
    · rw [same, d.closeMeter_prog]
    · rw [d.closeMeter_prog_ne second same]
  masks := by
    rw [d.closeMeter_alarms]
    split_ifs
    · exact AlarmUnit.occur_masks _ _ _
    · rfl
  get a other := d.closeMeter_get_ne second fun same => other (by rw [same]; rfl)

theorem Device.MetersOnly.trans {f : Device} (h : d.MetersOnly e) (k : e.MetersOnly f) : d.MetersOnly f where
  frame := by rw [k.frame, h.frame]
  prog n := by rw [k.prog, h.prog]
  masks := k.masks.trans h.masks
  get a other := (k.get a other).trans (h.get a other)

/-- The meters and the OVER records after the pass. -/
theorem Device.closeMeters_spec (d : Device) (second : Bool) :
    d.MetersOnly (forEight d fun e n => e.closeMeter second n) ∧ ∀ n,
      ((forEight d fun e n => e.closeMeter second n).prog n).meter = d.metered second n ∧
      (forEight d fun e n => e.closeMeter second n).alarms.get (.overEvent n) = d.overed second n := by
  have keep (e : Device) (m : Ix8) (h : d.MetersOnly e) :
      d.MetersOnly (e.closeMeter second m) := h.trans (e.closeMeter_metersOnly second m)
  refine ⟨forEight_holds keep (.refl d), fun n => ?_⟩
  obtain ⟨e, only, same, there⟩ := forEight_at (P := d.MetersOnly)
    (fun n (e : Device) => ((e.prog n).meter, e.alarms.get (.overEvent n))) keep
    (fun e m n _ other => by
      rw [e.closeMeter_prog_ne second other, e.closeMeter_get_ne second fun same => other (Alarm.overEvent.inj same)])
    (.refl d) n
  obtain ⟨meter, raised⟩ := Prod.mk.inj same
  obtain ⟨atMeter, atRaised⟩ := Prod.mk.inj there
  have metered := only.metered meter second
  refine ⟨atMeter.trans ((congrArg Programme.meter (e.closeMeter_prog second n)).trans metered), atRaised.trans ((e.closeMeter_over second n).trans ?_)⟩
  rw [Device.overed, Device.overed, Device.overs, Device.overs, metered, raised, only.active, only.time, only.masks, only.prog n]

end Sys2Proof.Machine
end

section
/-!
SUPPORT. A pass that changes each programme by what it holds itself; with it the gain computers and the changeover
controllers of a sub-block end.
-/

namespace Sys2Proof.Machine

/-! ## A pass over the programmes, each changed by itself -/

/-- The programmes of a part become `next`. -/
def Device.reprog (d : Device) (next : Ix8 → Programme) : Device := { d with progs := Oct.ofFn next }

@[simp] theorem Device.reprog_prog (d : Device) (next : Ix8 → Programme) (n : Ix8) : (d.reprog next).prog n = next n :=
  Oct.get_ofFn _ _

/-- Where each step makes of its own programme what the part and that programme give, whatever the others are, the pass
makes of every programme what the part before it gives. -/
theorem forEight_modProg {op : Device → Ix8 → Device} {next : Device → Ix8 → Programme}
    (step : ∀ e n, op e n = e.modProg n fun _ => next e n)
    (own : ∀ (d : Device) (P : Oct Programme) (n : Ix8), P.get n = d.progs.get n →
      next { d with progs := P } n = next d n) (d : Device) : forEight d op = d.reprog (next d) := by
  have keep (e : Device) (m : Ix8) (h : ∃ P, e = { d with progs := P }) : ∃ P, op e m = { d with progs := P } := by
    obtain ⟨P, rfl⟩ := h
    exact ⟨_, step _ m⟩
  obtain ⟨P, all⟩ := forEight_holds (P := fun e => ∃ P, e = { d with progs := P }) keep ⟨d.progs, rfl⟩
  rw [all]
  refine congrArg (fun P => { d with progs := P }) (Oct.ext_get fun n => ?_)
  obtain ⟨e, ⟨Q, rfl⟩, same, there⟩ := forEight_at (P := fun e => ∃ P, e = { d with progs := P })
    (fun n (e : Device) => e.prog n) keep
    (fun e m n _ other => by
      rw [step]
      exact (e.prog_modProg m n _).trans (if_neg other.symm)) ⟨d.progs, rfl⟩ n
  rw [all, step, Device.prog_modProg_self, own d Q n same] at there
  exact there.trans (Oct.get_ofFn _ _).symm

/-! ## The gain computers (R129 to R131) -/

/-- The gain computer that a programme's sub-block end leaves. -/
def Device.regained (d : Device) (n : Ix8) : Gain :=
  if d.active n then (d.prog n).gain.close (d.prog n).record.settings (d.prog n).meter (closedStart d.time.h)
  else (d.prog n).gain

theorem Device.modProg_self (d : Device) (n : Ix8) : (d.modProg n fun _ => d.prog n) = d := by
  unfold Device.modProg Oct.modify Device.prog
  rw [Oct.set_get]

theorem closeGains_eq (d : Device) :
    forEight d Device.closeGain = d.reprog fun n => { d.prog n with gain := d.regained n } := by
  refine forEight_modProg (next := fun d n => { d.prog n with gain := d.regained n }) (fun e n => ?_) (fun d P n same => ?_) d
  · unfold Device.closeGain Device.regained
    split_ifs
    · exact e.modProg_congr n rfl
    · exact (e.modProg_self n).symm
  · unfold Device.regained Device.active Device.inState Device.prog
    rw [same]

/-! ## The changeover controllers (R68 to R70) -/

/-- A context after its sub-block end, by the health of the two sides and the failure of the primary. -/
def Context.judged (c : Context) (o : Settings) (primary backup failed : Bool) : Context :=
  let a := { c with primaryHealthy := primary, backupHealthy := backup }
  let b := if o.changeoverMode ≠ .manual ∧ c.selection = .primary ∧ c.state = .idle ∧ failed = true ∧ backup = true then
    a.pend o .backup .auto else a
  b.countReturn o

/-- The context that a programme's sub-block end leaves. -/
def Device.sided (d : Device) (n : Ix8) : Context :=
  if d.active n then
    (d.prog n).ctx.judged (d.prog n).record.settings (d.healthy n .primary) (d.healthy n .backup) (d.primaryFailed n)
  else (d.prog n).ctx

theorem Device.judgeSides_eq (d : Device) (n : Ix8) (active : d.active n = true) :
    d.judgeSides n = d.modProg n fun _ => { d.prog n with ctx := d.sided n } := by
  rw [Device.sided, if_pos active]
  have running : (d.prog n).record.state = .active := Device.active_iff.1 active
  unfold Device.judgeSides
  extract_lets primary backup e
  have own : (d.modCtx n fun c => { c with primaryHealthy := primary, backupHealthy := backup }).prog n =
      { d.prog n with ctx := { (d.prog n).ctx with primaryHealthy := primary, backupHealthy := backup } } :=
    d.prog_modCtx_self n _
  have failed : (d.modCtx n fun c => { c with primaryHealthy := primary, backupHealthy := backup }).primaryFailed n =
      d.primaryFailed n := by
    unfold Device.primaryFailed
    rw [own]
    rfl
  let a : Context := { (d.prog n).ctx with primaryHealthy := primary, backupHealthy := backup }
  let o := (d.prog n).record.settings
  let b : Context := if o.changeoverMode ≠ .manual ∧ (d.prog n).ctx.selection = .primary ∧
    (d.prog n).ctx.state = .idle ∧ d.primaryFailed n = true ∧ backup = true then a.pend o .backup .auto else a
  have tested : e = d.modProg n fun _ => { d.prog n with ctx := b } := by
    change Device.autoTest _ n = _
    unfold Device.autoTest
    rw [own, failed]
    dsimp only
    by_cases here : o.changeoverMode ≠ .manual ∧ (d.prog n).ctx.selection = .primary ∧ (d.prog n).ctx.state = .idle ∧
        d.primaryFailed n = true ∧ backup = true
    · have made : b = a.pend o .backup .auto := if_pos here
      rw [if_pos ⟨running, here⟩, made]
      exact (d.modProg_modProg n _ _).trans (d.modProg_congr n rfl)
    · have made : b = a := if_neg here
      rw [if_neg fun both => here both.2, made]
      exact d.modProg_congr n rfl
  rw [tested]
  exact (d.modProg_modProg n _ _).trans (d.modProg_congr n rfl)

theorem judgeChangeovers_eq (d : Device) :
    forEight d Device.judgeChangeover = d.reprog fun n => { d.prog n with ctx := d.sided n } := by
  refine forEight_modProg (next := fun d n => { d.prog n with ctx := d.sided n }) (fun e n => ?_) (fun d P n same => ?_) d
  · by_cases active : e.active n = true
    · exact (if_pos active).trans (e.judgeSides_eq n active)
    · have same : e.sided n = (e.prog n).ctx := if_neg active
      rw [same]
      exact (if_neg active).trans (e.modProg_self n).symm
  · unfold Device.sided Device.healthy Device.primaryFailed Device.active Device.inState Device.prog
    rw [same]
    rfl

end Sys2Proof.Machine
end

section
/-!
SUPPORT. The qualification timers and the reports of a sub-block end, and what the whole sub-block end makes of the
part.
-/

namespace Sys2Proof.Machine

/-! ## A pass over the alarm unit -/

/-- Where each step changes the alarm unit by what the rest of the part gives, the pass changes it alone. -/
theorem forEight_modAlarms {op : Device → Ix8 → Device} {g : Device → Ix8 → AlarmUnit → AlarmUnit}
    (step : ∀ e n, op e n = e.modAlarms (g e n)) (own : ∀ (d : Device) (u : AlarmUnit) (n : Ix8), g { d with alarms := u } n = g d n)
    (d : Device) : forEight d op = d.modAlarms fun u => forEight u fun v n => g d n v := by
  unfold forEight
  induction eight generalizing d with
  | nil => rfl
  | cons m l ih =>
    rw [List.foldl_cons, ih, step]
    have same (v : AlarmUnit) (n : Ix8) : g (d.modAlarms (g d m)) n v = g d n v := congrFun (own d _ n) v
    simp only [same]
    rfl

/-! ## UNLOCK (R149) -/

/-- UNLOCK of a port as a sub-block end leaves it in an alarm unit. -/
def Device.requalifyUnlock (d : Device) (p : Ix8) (u : AlarmUnit) : AlarmUnit :=
  if (d.port p).lane.enabled then
    u.qualify (.unlock p) (!((d.port p).conv.state == .locked)) ((d.port p).conv.state == .locked) 5 10
  else u

theorem judgeUnlocks_eq (d : Device) :
    forEight d Device.judgeUnlock = d.modAlarms fun u => forEight u fun v p => d.requalifyUnlock p v := by
  refine forEight_modAlarms (g := Device.requalifyUnlock) (fun e p => ?_) (fun d u p => rfl) d
  unfold Device.judgeUnlock
  by_cases on : (e.port p).lane.enabled = true
  · have step : e.requalifyUnlock p = fun u => u.qualify (.unlock p) (!((e.port p).conv.state == .locked))
        ((e.port p).conv.state == .locked) 5 10 := funext fun u => if_pos on
    rw [if_pos on, step]
  · have step : e.requalifyUnlock p = id := funext fun u => if_neg on
    rw [if_neg on, step]
    rfl

theorem requalifyUnlock_get_ne (d : Device) {p : Ix8} {a : Alarm} (u : AlarmUnit) (h : a ≠ .unlock p) :
    (d.requalifyUnlock p u).get a = u.get a := by
  unfold Device.requalifyUnlock
  split_ifs
  · exact (u.qualify_get _ _ _ _ _ _).trans (if_neg h)
  · rfl

/-- UNLOCK of a port after a sub-block end. -/
def Device.requalifiedUnlock (d : Device) (p : Ix8) (r : AlarmRecord) : AlarmRecord :=
  if (d.port p).lane.enabled then
    r.qualify (!((d.port p).conv.state == .locked)) ((d.port p).conv.state == .locked) 5 10
  else r

theorem requalifyUnlock_get (d : Device) (p : Ix8) (u : AlarmUnit) :
    (d.requalifyUnlock p u).get (.unlock p) = d.requalifiedUnlock p (u.get (.unlock p)) := by
  unfold Device.requalifyUnlock Device.requalifiedUnlock
  split_ifs
  · exact (u.qualify_get _ _ _ _ _ _).trans (if_pos rfl)
  · rfl

theorem requalifyUnlocks_get (d : Device) (u : AlarmUnit) :
    (∀ p, (forEight u fun v p => d.requalifyUnlock p v).get (.unlock p) = d.requalifiedUnlock p (u.get (.unlock p))) ∧
      ∀ a, a.kind ≠ .unlock → (forEight u fun v p => d.requalifyUnlock p v).get a = u.get a := by
  constructor
  · intro p
    obtain ⟨v, -, same, there⟩ := forEight_at (P := fun _ => True) (fun p (v : AlarmUnit) => v.get (.unlock p))
      (f := fun v p => d.requalifyUnlock p v) (a := u) (fun _ _ _ => trivial)
      (fun v m n _ other => requalifyUnlock_get_ne d v fun same => other (Alarm.unlock.inj same)) trivial p
    rw [there, requalifyUnlock_get, same]
  · intro a other
    exact forEight_holds (P := fun v : AlarmUnit => v.get a = u.get a) (fun v m same =>
      (requalifyUnlock_get_ne d v fun h => other (by rw [h]; rfl)).trans same) rfl

/-! ## SILENCE and the loudness conditions (R150, R151) -/

/-- SILENCE of a programme after a sub-block end. -/
def Device.requalifiedSilence (d : Device) (n : Ix8) (r : AlarmRecord) : AlarmRecord :=
  let s := (d.prog n).record.settings
  r.qualify ((d.sourceLevels n).all fun v => decide (v < s.silenceLevel))
    ((d.sourceLevels n).any fun v => decide (s.silenceLevel + 20 ≤ v))
    (s.silenceSetTime * 10).toNat (s.silenceClearTime * 10).toNat

/-- LOUD_HIGH under a short-term loudness. -/
def Settings.requalifiedHigh (s : Settings) (v : Int) (r : AlarmRecord) : AlarmRecord :=
  r.qualify (decide (s.loudnessTarget + s.loudnessWindow < v)) (decide (v ≤ s.loudnessTarget + s.loudnessWindow - 10))
    (s.loudnessTime * 10).toNat (s.loudnessTime * 10).toNat

/-- LOUD_LOW under a short-term loudness. -/
def Settings.requalifiedLow (s : Settings) (v : Int) (r : AlarmRecord) : AlarmRecord :=
  r.qualify (decide (v < s.loudnessTarget - s.loudnessWindow)) (decide (s.loudnessTarget - s.loudnessWindow + 10 ≤ v))
    (s.loudnessTime * 10).toNat (s.loudnessTime * 10).toNat

/-- The three conditions of a programme as a sub-block end leaves them in an alarm unit. -/
def Device.requalifyProgramme (d : Device) (n : Ix8) (u : AlarmUnit) : AlarmUnit :=
  if d.active n then
    let v := u.put (.silence n) (d.requalifiedSilence n (u.get (.silence n)))
    (d.prog n).meter.shortTerm.elim v fun s =>
      let w := v.put (.loudHigh n) ((d.prog n).record.settings.requalifiedHigh s (v.get (.loudHigh n)))
      w.put (.loudLow n) ((d.prog n).record.settings.requalifiedLow s (w.get (.loudLow n)))
  else u

theorem judgeProgrammes_eq (d : Device) :
    forEight d Device.judgeProgramme = d.modAlarms fun u => forEight u fun v n => d.requalifyProgramme n v := by
  refine forEight_modAlarms (g := Device.requalifyProgramme) (fun e n => ?_) (fun d u n => rfl) d
  by_cases active : e.active n = true
  · refine (if_pos active).trans ?_
    have step : e.requalifyProgramme n = _ := funext fun u => if_pos active
    rw [step]
    unfold Device.judgeLoud
    have prog : (e.judgeSilence n).prog n = e.prog n := rfl
    rw [prog]
    cases (e.prog n).meter.shortTerm with
    | none => rfl
    | some v => rfl
  · have step : e.requalifyProgramme n = id := funext fun u => if_neg active
    rw [step]
    exact if_neg active

theorem requalifyProgramme_get_ne (d : Device) {n : Ix8} {a : Alarm} (u : AlarmUnit) (silence : a ≠ .silence n)
    (high : a ≠ .loudHigh n) (low : a ≠ .loudLow n) : (d.requalifyProgramme n u).get a = u.get a := by
  unfold Device.requalifyProgramme
  split_ifs
  · cases (d.prog n).meter.shortTerm with
    | none => exact (u.put_get _ _ _).trans (if_neg silence)
    | some v =>
      refine (AlarmUnit.put_get _ _ _ _).trans ((if_neg low).trans ?_)
      exact (AlarmUnit.put_get _ _ _ _).trans ((if_neg high).trans ((u.put_get _ _ _).trans (if_neg silence)))
  · rfl

theorem requalifyProgramme_get (d : Device) (n : Ix8) (u : AlarmUnit) (active : d.active n = true) :
    (d.requalifyProgramme n u).get (.silence n) = d.requalifiedSilence n (u.get (.silence n)) ∧
    (d.requalifyProgramme n u).get (.loudHigh n) = ((d.prog n).meter.shortTerm.elim (u.get (.loudHigh n)) fun v =>
      (d.prog n).record.settings.requalifiedHigh v (u.get (.loudHigh n))) ∧
    (d.requalifyProgramme n u).get (.loudLow n) = (d.prog n).meter.shortTerm.elim (u.get (.loudLow n)) fun v =>
      (d.prog n).record.settings.requalifiedLow v (u.get (.loudLow n)) := by
  have step : d.requalifyProgramme n u = _ := if_pos active
  rw [step]
  have high : Alarm.loudHigh n ≠ .silence n := nofun
  have low : Alarm.loudLow n ≠ .silence n := nofun
  have apart : Alarm.loudLow n ≠ .loudHigh n := nofun
  cases (d.prog n).meter.shortTerm with
  | none =>
    refine ⟨?_, ?_, ?_⟩
    · exact (u.put_get _ _ _).trans (if_pos rfl)
    · exact (u.put_get _ _ _).trans (if_neg high)
    · exact (u.put_get _ _ _).trans (if_neg low)
  | some v =>
    simp only [Option.elim_some, AlarmUnit.put_get, if_neg high, if_neg low, if_neg apart, if_neg high.symm, if_neg low.symm,
      if_neg apart.symm, if_true, and_self]

theorem requalifyProgrammes_get (d : Device) (u : AlarmUnit) :
    (∀ n, d.active n = true →
      (forEight u fun v n => d.requalifyProgramme n v).get (.silence n) = d.requalifiedSilence n (u.get (.silence n)) ∧
      (forEight u fun v n => d.requalifyProgramme n v).get (.loudHigh n) =
        ((d.prog n).meter.shortTerm.elim (u.get (.loudHigh n)) fun v =>
          (d.prog n).record.settings.requalifiedHigh v (u.get (.loudHigh n))) ∧
      (forEight u fun v n => d.requalifyProgramme n v).get (.loudLow n) =
        (d.prog n).meter.shortTerm.elim (u.get (.loudLow n)) fun v =>
          (d.prog n).record.settings.requalifiedLow v (u.get (.loudLow n))) ∧
    ∀ a, (∀ n, a = .silence n ∨ a = .loudHigh n ∨ a = .loudLow n → d.active n = false) →
      (forEight u fun v n => d.requalifyProgramme n v).get a = u.get a := by
  constructor
  · intro n active
    obtain ⟨v, -, same, there⟩ := forEight_at (P := fun _ => True)
      (fun n (v : AlarmUnit) => (v.get (.silence n), v.get (.loudHigh n), v.get (.loudLow n)))
      (f := fun v n => d.requalifyProgramme n v) (a := u) (fun _ _ _ => trivial)
      (fun v m n _ other => by
        simp only [Prod.mk.injEq]
        refine ⟨requalifyProgramme_get_ne d v ?_ ?_ ?_, requalifyProgramme_get_ne d v ?_ ?_ ?_,
          requalifyProgramme_get_ne d v ?_ ?_ ?_⟩ <;> (intro h; cases h <;> exact other rfl)) trivial n
    simp only [Prod.mk.injEq] at same there
    obtain ⟨silence, high, low⟩ := same
    obtain ⟨atSilence, atHigh, atLow⟩ := there
    obtain ⟨one, two, three⟩ := requalifyProgramme_get d n v active
    rw [atSilence, atHigh, atLow, one, two, three, silence, high, low]
    exact ⟨rfl, rfl, rfl⟩
  · intro a idle
    refine forEight_holds (P := fun v : AlarmUnit => v.get a = u.get a) (fun v m same => ?_) rfl
    by_cases active : d.active m = true
    · have apart (h : a = .silence m ∨ a = .loudHigh m ∨ a = .loudLow m) : False := by
        rw [idle m h] at active
        exact nomatch active
      exact (requalifyProgramme_get_ne d v (fun h => apart (.inl h)) (fun h => apart (.inr (.inl h)))
        (fun h => apart (.inr (.inr h)))).trans same
    · rw [Device.requalifyProgramme, if_neg active]
      exact same

/-! ## The reports (R186, R187) -/

/-- Report slots and subscriptions alone have changed. -/
def Device.ReportsOnly (d e : Device) : Prop :=
  e = { d with link := { d.link with subscriptions := e.link.subscriptions, slots := e.link.slots } }

theorem Device.formReport_eq (d : Device) (n : Ix8) (h : d.active n = true ∧ d.link.subscriptions.get n ≠ .none) :
    d.formReport n = d.modLink fun l => { l with
      subscriptions := l.subscriptions.set n (d.link.subscriptions.get n).after.1
      slots := l.slots.set n (some (d.report1 n (d.link.slots.get n).isSome (d.link.subscriptions.get n).after.2)) } := by
  unfold Device.formReport
  extract_lets sub r
  exact if_pos h

theorem Device.formReport_none (d : Device) (n : Ix8) (h : ¬ (d.active n = true ∧ d.link.subscriptions.get n ≠ .none)) :
    d.formReport n = d := if_neg h

theorem Device.ReportsOnly.refl (d : Device) : d.ReportsOnly d := rfl

theorem Device.ReportsOnly.formReport {d e : Device} (h : d.ReportsOnly e) (n : Ix8) : d.ReportsOnly (e.formReport n) := by
  by_cases due : e.active n = true ∧ e.link.subscriptions.get n ≠ .none
  · rw [e.formReport_eq n due, h]
    rfl
  · rw [e.formReport_none n due]
    exact h

/-- What the pass of the reports leaves in the link. -/
theorem formReports_spec (d : Device) :
    d.ReportsOnly (forEight d Device.formReport) ∧ ∀ n,
      (d.active n = true ∧ d.link.subscriptions.get n ≠ .none →
        (forEight d Device.formReport).link.subscriptions.get n = (d.link.subscriptions.get n).after.1 ∧
        (forEight d Device.formReport).link.slots.get n =
          some (d.report1 n (d.link.slots.get n).isSome (d.link.subscriptions.get n).after.2)) ∧
      (¬ (d.active n = true ∧ d.link.subscriptions.get n ≠ .none) →
        (forEight d Device.formReport).link.subscriptions.get n = d.link.subscriptions.get n ∧
        (forEight d Device.formReport).link.slots.get n = d.link.slots.get n) := by
  have keep (e : Device) (m : Ix8) (h : d.ReportsOnly e) : d.ReportsOnly (e.formReport m) := h.formReport m
  refine ⟨forEight_holds keep (.refl d), fun n => ?_⟩
  obtain ⟨e, only, same, there⟩ := forEight_at (P := d.ReportsOnly)
    (fun n (e : Device) => (e.link.subscriptions.get n, e.link.slots.get n)) keep
    (fun e m n _ other => by
      by_cases due : e.active m = true ∧ e.link.subscriptions.get m ≠ .none
      · rw [e.formReport_eq m due]
        exact Prod.ext (Oct.get_set_ne _ _ other.symm) (Oct.get_set_ne _ _ other.symm)
      · rw [e.formReport_none m due]) (.refl d) n
  obtain ⟨sub, slot⟩ := Prod.mk.inj same
  obtain ⟨atSub, atSlot⟩ := Prod.mk.inj there
  have active : e.active n = d.active n := by rw [only]; rfl
  have report (o l : Bool) : e.report1 n o l = d.report1 n o l := by rw [only]; rfl
  rw [atSub, atSlot]
  constructor
  · intro due
    rw [← sub, ← active] at due
    rw [e.formReport_eq n due]
    refine ⟨(Oct.get_set_self _ _ _).trans (by rw [sub]), (Oct.get_set_self _ _ _).trans ?_⟩
    rw [sub, slot, report]
  · intro due
    rw [← sub, ← active] at due
    rw [e.formReport_none n due]
    exact ⟨sub, slot⟩

end Sys2Proof.Machine
end

section
/-!
SUPPORT. What a sub-block end makes of the whole part (R8), by its phases.
-/

namespace Sys2Proof.Machine

variable {d e : Device}

/-! ## The judged context keeps its selection -/

theorem Context.countReturn_eq (c : Context) (s : Settings) :
    c.countReturn s = { c with returnTimer := (c.countReturn s).returnTimer, returnDue := (c.countReturn s).returnDue } := by
  unfold Context.countReturn
  split_ifs <;> rfl

theorem Context.judged_selection (c : Context) (o : Settings) (x y z : Bool) :
    (c.judged o x y z).selection = c.selection := by
  unfold Context.judged
  rw [Context.countReturn_eq]
  dsimp only
  split_ifs
  · rw [Context.pend_eq]
  · rfl

theorem Device.sided_selection (d : Device) (n : Ix8) : (d.sided n).selection = (d.prog n).ctx.selection := by
  unfold Device.sided
  split_ifs
  · exact Context.judged_selection _ _ _ _ _
  · rfl

/-! ## What the phases read -/

theorem Device.active_congr {n : Ix8} (record : (e.prog n).record = (d.prog n).record) : e.active n = d.active n := by
  unfold Device.active Device.inState
  rw [record]

theorem Device.sided_congr {n : Ix8} (ports : e.ports = d.ports) (record : (e.prog n).record = (d.prog n).record)
    (ctx : (e.prog n).ctx = (d.prog n).ctx) (silence : e.alarms.get (.silence n) = d.alarms.get (.silence n))
    (unlock : ∀ p, e.alarms.get (.unlock p) = d.alarms.get (.unlock p)) : e.sided n = d.sided n := by
  have healthy (side : Selection) : e.healthy n side = d.healthy n side := by
    unfold Device.healthy Device.levelAt Device.port
    rw [record, ports]
  have failed : e.primaryFailed n = d.primaryFailed n := by
    unfold Device.primaryFailed
    rw [record, silence]
    simp only [unlock]
  unfold Device.sided
  rw [Device.active_congr record, healthy, healthy, failed, record, ctx]

theorem Device.requalifiedSilence_congr {n : Ix8} (ports : e.ports = d.ports)
    (record : (e.prog n).record = (d.prog n).record)
    (selection : (e.prog n).ctx.selection = (d.prog n).ctx.selection) : e.requalifiedSilence n = d.requalifiedSilence n := by
  unfold Device.requalifiedSilence Device.sourceLevels Device.levelAt Device.port Programme.currentSource
  rw [record, ports, selection]

/-! ## The sub-block end (R8) -/

/-- The part with the slot levels of the sub-block formed. -/
def Device.levelled (d : Device) : Device := { d with ports := d.ports.map Port.closeLevels }

/-- The gain computer after a sub-block end, which reads the meter just closed. -/
def Device.gained (d : Device) (n : Ix8) (t : Meter) : Gain :=
  if d.active n then (d.prog n).gain.close (d.prog n).record.settings t (closedStart d.time.h) else (d.prog n).gain

/-- What a sub-block end leaves, `d` being the part with the boundary taken. -/
structure Device.Closed (d e : Device) : Prop where
  frame : e = { d with
    ports := e.ports, progs := e.progs, alarms := e.alarms
    link := { d.link with subscriptions := e.link.subscriptions, slots := e.link.slots } }
  port : ∀ p, e.port p = { (d.port p).closeLevels with conv := (d.port p).conv.freshFlags }
  prog : ∀ n, e.prog n = { d.prog n with
    meter := d.levelled.metered (onSecond d.time.h) n
    gain := d.gained n (d.levelled.metered (onSecond d.time.h) n)
    ctx := (d.levelled.sided n).freshFlag, gen := (d.prog n).gen.freshFlag }
  overs : ∀ n, e.alarms.get (.overEvent n) = d.levelled.overed (onSecond d.time.h) n
  unlock : ∀ p, e.alarms.get (.unlock p) = d.requalifiedUnlock p (d.alarms.get (.unlock p))
  silence : ∀ n, d.active n = true →
    e.alarms.get (.silence n) = d.levelled.requalifiedSilence n (d.alarms.get (.silence n))
  high : ∀ n, d.active n = true → e.alarms.get (.loudHigh n) =
    (e.prog n).meter.shortTerm.elim (d.alarms.get (.loudHigh n)) fun v =>
      (d.prog n).record.settings.requalifiedHigh v (d.alarms.get (.loudHigh n))
  low : ∀ n, d.active n = true → e.alarms.get (.loudLow n) =
    (e.prog n).meter.shortTerm.elim (d.alarms.get (.loudLow n)) fun v =>
      (d.prog n).record.settings.requalifiedLow v (d.alarms.get (.loudLow n))
  other : ∀ a, a.kind ≠ .unlock → a.kind ≠ .overEvent →
    (∀ n, a = .silence n ∨ a = .loudHigh n ∨ a = .loudLow n → d.active n = false) → e.alarms.get a = d.alarms.get a
  reported : ∀ n, d.active n = true → d.link.subscriptions.get n ≠ .none →
    e.link.subscriptions.get n = (d.link.subscriptions.get n).after.1 ∧
    e.link.slots.get n = some (e.report1 n (d.link.slots.get n).isSome (d.link.subscriptions.get n).after.2)
  unreported : ∀ n, ¬ (d.active n = true ∧ d.link.subscriptions.get n ≠ .none) →
    e.link.subscriptions.get n = d.link.subscriptions.get n ∧ e.link.slots.get n = d.link.slots.get n

theorem Device.freshFlags_prog (d : Device) (n : Ix8) :
    d.freshFlags.prog n = { d.prog n with ctx := (d.prog n).ctx.freshFlag, gen := (d.prog n).gen.freshFlag } :=
  Oct.get_map _ _ _

theorem Device.freshFlags_port (d : Device) (p : Ix8) :
    d.freshFlags.port p = { d.port p with conv := (d.port p).conv.freshFlags } := Oct.get_map _ _ _

/-- The flags of the blocks are in no report. -/
theorem Device.freshFlags_report1 (d : Device) (n : Ix8) (o l : Bool) :
    d.freshFlags.report1 n o l = d.report1 n o l := by
  unfold Device.report1 Device.changing Device.line
  rw [d.freshFlags_prog]
  rfl

theorem Device.closeSubBlock_closed (d : Device) : d.Closed d.closeSubBlock := by
  obtain ⟨only, metered⟩ := d.levelled.closeMeters_spec (onSecond d.time.h)
  have b : ∃ b, b = forEight d.levelled fun e n => e.closeMeter (onSecond d.time.h) n := ⟨_, rfl⟩
  obtain ⟨b, bDef⟩ := b
  rw [← bDef] at only metered
  have cProg (n : Ix8) : (forEight b Device.closeGain).prog n = { d.prog n with
      meter := d.levelled.metered (onSecond d.time.h) n
      gain := d.gained n (d.levelled.metered (onSecond d.time.h) n) } := by
    rw [closeGains_eq, Device.reprog_prog, Device.regained, only.active, only.time, only.prog n, (metered n).1]
    rfl
  have cAlarms : (forEight b Device.closeGain).alarms = b.alarms := by rw [closeGains_eq]; rfl
  have cPorts : (forEight b Device.closeGain).ports = d.levelled.ports := by rw [closeGains_eq]; exact only.ports
  have cFrame : forEight b Device.closeGain = { d.levelled with
      progs := (forEight b Device.closeGain).progs, alarms := b.alarms } := by
    rw [closeGains_eq, only.frame]
    rfl
  obtain ⟨c, cDef⟩ : ∃ c, c = forEight b Device.closeGain := ⟨_, rfl⟩
  rw [← cDef] at cProg cAlarms cPorts cFrame
  have sided (n : Ix8) : c.sided n = d.levelled.sided n := by
    refine Device.sided_congr cPorts (by rw [cProg]; rfl) (by rw [cProg]; rfl) ?_ fun p => ?_
    · rw [cAlarms, only.get (.silence n) (show Kind.silence ≠ .overEvent by decide)]
    · rw [cAlarms, only.get (.unlock p) (show Kind.unlock ≠ .overEvent by decide)]
  have fProg (n : Ix8) : (forEight c Device.judgeChangeover).prog n = { d.prog n with
      meter := d.levelled.metered (onSecond d.time.h) n
      gain := d.gained n (d.levelled.metered (onSecond d.time.h) n)
      ctx := d.levelled.sided n } := by
    rw [judgeChangeovers_eq, Device.reprog_prog, cProg, sided]
  have fFrame : forEight c Device.judgeChangeover = { d.levelled with
      progs := (forEight c Device.judgeChangeover).progs, alarms := b.alarms } := by
    rw [judgeChangeovers_eq, cFrame]
    rfl
  obtain ⟨f, fDef⟩ : ∃ f, f = forEight c Device.judgeChangeover := ⟨_, rfl⟩
  rw [← fDef] at fProg fFrame
  have gEq : forEight (forEight f Device.judgeUnlock) Device.judgeProgramme = f.modAlarms fun u =>
      forEight (forEight u fun v p => f.requalifyUnlock p v) fun v n => f.requalifyProgramme n v := by
    rw [judgeUnlocks_eq, judgeProgrammes_eq]
    rfl
  obtain ⟨unlocks, keptUnlocks⟩ := requalifyUnlocks_get f f.alarms
  obtain ⟨loud, keptLoud⟩ := requalifyProgrammes_get f (forEight f.alarms fun v p => f.requalifyUnlock p v)
  obtain ⟨g, gDef⟩ : ∃ g, g = forEight (forEight f Device.judgeUnlock) Device.judgeProgramme := ⟨_, rfl⟩
  have gAlarms : g.alarms = forEight (forEight f.alarms fun v p => f.requalifyUnlock p v) fun v n =>
      f.requalifyProgramme n v := by
    rw [gDef, gEq]
    rfl
  have gFrame : g = { d.levelled with progs := f.progs, alarms := g.alarms } := by
    rw [gAlarms, gDef, gEq, fFrame]
    rfl
  rw [← gAlarms] at loud keptLoud
  obtain ⟨reports, slots⟩ := formReports_spec g
  obtain ⟨h, hDef⟩ : ∃ h, h = forEight g Device.formReport := ⟨_, rfl⟩
  rw [← hDef] at reports slots
  have whole : d.closeSubBlock = h.freshFlags := by
    rw [hDef, gDef, fDef, cDef, bDef]
    rfl
  have gProg (n : Ix8) : g.prog n = f.prog n := by rw [gFrame]; rfl
  have hProg (n : Ix8) : h.prog n = g.prog n := by rw [reports]; rfl
  have hAlarms : h.alarms = g.alarms := by rw [reports]
  have fActive (n : Ix8) : f.active n = d.active n := Device.active_congr (by rw [fProg])
  have gActive (n : Ix8) : g.active n = d.active n := (Device.active_congr (by rw [gProg])).trans (fActive n)
  have fAlarms : f.alarms = b.alarms := by rw [fFrame]
  have fPorts : f.ports = d.levelled.ports := by rw [fFrame]
  have eProg (n : Ix8) : h.freshFlags.prog n = { d.prog n with
      meter := d.levelled.metered (onSecond d.time.h) n
      gain := d.gained n (d.levelled.metered (onSecond d.time.h) n)
      ctx := (d.levelled.sided n).freshFlag, gen := (d.prog n).gen.freshFlag } := by
    rw [Device.freshFlags_prog, hProg, gProg, fProg]
  have eAlarms : h.freshFlags.alarms = g.alarms := hAlarms
  have calm (n : Ix8) : ∀ a, a = .silence n ∨ a = .loudHigh n ∨ a = .loudLow n →
      (forEight f.alarms fun v p => f.requalifyUnlock p v).get a = d.alarms.get a := by
    rintro a (rfl | rfl | rfl)
    · rw [keptUnlocks (.silence n) (show Kind.silence ≠ .unlock by decide), fAlarms]
      exact only.get (.silence n) (show Kind.silence ≠ .overEvent by decide)
    · rw [keptUnlocks (.loudHigh n) (show Kind.loudHigh ≠ .unlock by decide), fAlarms]
      exact only.get (.loudHigh n) (show Kind.loudHigh ≠ .overEvent by decide)
    · rw [keptUnlocks (.loudLow n) (show Kind.loudLow ≠ .unlock by decide), fAlarms]
      exact only.get (.loudLow n) (show Kind.loudLow ≠ .overEvent by decide)
  rw [whole]
  refine ⟨?_, fun p => ?_, eProg, fun n => ?_, fun p => ?_, fun n active => ?_, fun n active => ?_, fun n active => ?_,
    fun a unlock overs idle => ?_, fun n active subscribed => ?_, fun n neither => ?_⟩
  · rw [reports, gFrame]
    rfl
  · rw [Device.freshFlags_port, reports, gFrame]
    refine (congrArg (fun x : Port => { x with conv := x.conv.freshFlags }) (Oct.get_map _ _ _)).trans ?_
    rfl
  · rw [eAlarms, keptLoud _ (by rintro n (h | h | h) <;> cases h), keptUnlocks (.overEvent n) (show Kind.overEvent ≠ .unlock by decide), fAlarms]
    exact (metered n).2
  · rw [eAlarms, keptLoud _ (by rintro n (h | h | h) <;> cases h), unlocks, fAlarms,
      only.get (.unlock p) (show Kind.unlock ≠ .overEvent by decide)]
    unfold Device.requalifiedUnlock Device.port
    rw [fPorts]
    unfold Device.levelled
    rw [Oct.get_map]
    rfl
  · rw [eAlarms, (loud n ((fActive n).trans active)).1, calm n _ (.inl rfl)]
    refine congrFun (Device.requalifiedSilence_congr fPorts ?_ ?_) _
    · rw [fProg]
      rfl
    · rw [fProg]
      exact d.levelled.sided_selection n
  · rw [eAlarms, (loud n ((fActive n).trans active)).2.1, calm n _ (.inr (.inl rfl)), eProg, fProg]
  · rw [eAlarms, (loud n ((fActive n).trans active)).2.2, calm n _ (.inr (.inr rfl)), eProg, fProg]
  · rw [eAlarms, keptLoud a fun n which => (fActive n).trans (idle n which), keptUnlocks a unlock, fAlarms]
    exact only.get a overs
  · have due := (slots n).1 ⟨(gActive n).trans active, by rw [gFrame]; exact subscribed⟩
    have report (o l : Bool) : h.freshFlags.report1 n o l = g.report1 n o l := by
      rw [Device.freshFlags_report1, reports]
      rfl
    rw [report]
    rw [show g.link = d.link by rw [gFrame]; rfl] at due
    exact due
  · have due := (slots n).2
    rw [gActive, show g.link = d.link by rw [gFrame]; rfl] at due
    exact due neither

end Sys2Proof.Machine
end

section
/-!
The sub-block end: the levels and the second (O36), and the reports (O37).
-/

namespace Sys2Proof.Machine

/-- The part with the boundary taken. -/
def Device.taken (d : Device) : Device := { d with time := d.time.take }

theorem exec_subBlockEnd {s : State} (calm : s.dev.calm) (due : s.dev.time.boundary = .due) :
    exec .subBlockEnd s = .next { s with dev := s.dev.taken.closeSubBlock } ∧
      s.dev.taken.Closed s.dev.taken.closeSubBlock := by
  refine ⟨?_, Device.closeSubBlock_closed _⟩
  refine (State.prompt_calm calm Device.subBlockEnd).trans ?_
  rw [Device.subBlockEnd_due due]
  rfl

/-- Settles O36: the levels, the flags and the second of the boundary. -/
theorem subBlockEndClosesTheLevels : Obligations.SubBlockEndClosesTheLevels := by
  intro s calm h port
  refine ⟨fun due => ?_, fun notDue => ?_, fun neither => ?_⟩
  · obtain ⟨run, closed⟩ := exec_subBlockEnd calm due
    refine ⟨_, run, fun second => ?_, ?_, fun p => ?_, fun n => ?_, ?_⟩
    · refine (State.prompt_calm calm Device.secondBoundary).trans ?_
      rw [Device.secondBoundary_due due ((onSecond_iff _).2 second), Device.subBlockEnd_due due]
      rfl
    · rw [closed.frame]
      change s.dev.time.take = _
      unfold Timebase.take
      simp only [onSecond_iff]
      rfl
    · rw [closed.port]
      rfl
    · rw [closed.prog]
      exact ⟨rfl, rfl, rfl⟩
    · rw [closed.frame]
      exact ⟨rfl, rfl, rfl, rfl, rfl, rfl⟩
  · refine (State.prompt_calm calm Device.subBlockEnd).trans ?_
    rw [Device.subBlockEnd_not_due notDue]
  · refine (State.prompt_calm calm Device.secondBoundary).trans ?_
    have idle : s.dev.secondBoundary = s.dev := by
      refine if_neg fun both => neither ?_
      obtain ⟨second, due⟩ := (Bool.and_eq_true _ _).mp both
      exact ⟨(onSecond_iff _).1 second, s.dev.boundaryDue_iff.1 due⟩
    rw [idle]

/-! ## The reports -/

theorem Subscription.after_spec (old : Subscription) :
    (old = .continuous → old.after.2 = false ∧ old.after.1 = .continuous) ∧
    (∀ k, old = .count (k + 2) → old.after.2 = false ∧ old.after.1 = .count (k + 1)) ∧
    (old = .count 1 → old.after.2 = true ∧ old.after.1 = .none) := by
  refine ⟨?_, ?_, ?_⟩
  · rintro rfl
    exact ⟨rfl, rfl⟩
  · rintro k rfl
    have more : ¬ k + 2 ≤ 1 := by omega
    simp [Subscription.after]
  · rintro rfl
    exact ⟨rfl, rfl⟩

theorem Meter.countMomentary_members (t : Meter) : t.countMomentary.members = t.members := by
  unfold Meter.countMomentary
  split
  · rfl
  · split_ifs <;> rfl

/-- A meter member after its sub-block end in a mode (R112, R123). -/
def MeterMember.closed (mode : LoudMode) (m : MeterMember) : MeterMember :=
  match mode with
  | .off => { m.closePeak.clearFilter with energy := 0 }
  | .measure | .correct => { m.closePeak with energy := 0 }

theorem MeterMember.closed_eq (mode : LoudMode) (m : MeterMember) : m.closed mode = { m with
    level := levelOf m.peak, peak := 0, energy := 0
    stage1 := if mode = .off then .zero else m.stage1
    stage2 := if mode = .off then .zero else m.stage2 } := by
  unfold MeterMember.closed MeterMember.clearFilter MeterMember.closePeak
  generalize levelOf m.peak = v
  cases mode <;> rfl

theorem Oct.map_map {α β γ : Type} (o : Oct α) (f : α → β) (g : β → γ) : (o.map f).map g = o.map fun a => g (f a) := by
  cases o
  rfl

theorem Meter.closeRunning_members (a : Meter) (l : List (Ix8 × Member)) (valid : Bool) :
    (a.closeRunning l valid).members = a.members.map fun m => { m with energy := 0 } := by
  unfold Meter.closeRunning
  exact congrArg (Oct.map fun m : MeterMember => { m with energy := 0 }) (Meter.countMomentary_members _)

/-- What the closing of a meter makes of its members. -/
theorem Meter.close_members (t : Meter) (r : Record) (fit second : Bool) :
    (t.close r fit second).members = t.members.map (MeterMember.closed r.settings.loudnessMode) := by
  unfold Meter.close
  cases r.settings.loudnessMode with
  | off =>
    change Oct.map (fun m : MeterMember => { m.clearFilter with energy := 0 }) (t.members.map MeterMember.closePeak) = _
    rw [Oct.map_map]
    rfl
  | measure =>
    dsimp only
    split_ifs <;> (rw [Meter.closeRunning_members]; exact Oct.map_map _ _ _)
  | correct =>
    dsimp only
    split_ifs <;> (rw [Meter.closeRunning_members]; exact Oct.map_map _ _ _)

/-- The positions of a record are the first ones, as many as it has members. -/
theorem Record.positions_eq_take (r : Record) : r.positions = eight.take r.members.length := by
  rw [r.positions_eq]
  have test : (fun m : Ix8 => r.members[m.val]?.isSome) = fun m => decide (m.val < r.members.length) := by
    funext m
    by_cases listed : m.val < r.members.length
    · rw [List.getElem?_eq_getElem listed, decide_eq_true listed]
      rfl
    · rw [List.getElem?_eq_none (not_lt.1 listed), decide_eq_false listed]
      rfl
  rw [test]
  generalize r.members.length = k
  have few : ∀ k < 9, (eight.filter fun m => decide (m.val < k)) = eight.take k := by decide
  by_cases small : k < 9
  · exact few k small
  · rw [List.take_of_length_le (show eight.length ≤ k from by change 8 ≤ k; omega)]
    exact List.filter_eq_self.2 fun m _ => decide_eq_true (by omega)

theorem eight_getElem? (m : Ix8) : eight[m.val]? = some m := by
  revert m
  decide

theorem Record.positions_getElem? (r : Record) {m : Ix8} (listed : m.val < r.members.length) :
    r.positions[m.val]? = some m := by
  rw [r.positions_eq_take, List.getElem?_take, if_pos listed]
  exact eight_getElem? m

theorem Device.any_positions_iff_lt (d : Device) (n : Ix8) (test : Ix8 → Bool) :
    (d.prog n).record.positions.any test = true ↔
      ∃ m : Ix8, m.val < (d.prog n).record.members.length ∧ test m = true := by
  rw [List.any_eq_true]
  simp only [Record.mem_positions_iff_lt]

/-- Settles O37: the reports of the subscribed programmes. -/
theorem subBlockEndFormsReports : Obligations.SubBlockEndFormsReports := by
  intro s calm due
  obtain ⟨run, closed⟩ := exec_subBlockEnd calm due
  refine ⟨_, run, ?_⟩
  intro n old
  refine ⟨fun state subscribed => ?_, fun neither => ?_⟩
  · have active : s.dev.taken.active n = true := Device.active_iff.2 state
    obtain ⟨sub, slot⟩ := closed.reported n active subscribed
    have meter := congrArg Programme.meter (closed.prog n)
    have levels (m : Ix8) : ((s.dev.taken.closeSubBlock.prog n).meter.members.get m).level =
        levelOf ((s.dev.prog n).meter.members.get m).peak := by
      have closing : s.dev.taken.levelled.metered (onSecond s.dev.taken.time.h) n = _ := if_pos active
      have prog : s.dev.taken.levelled.prog n = s.dev.prog n := rfl
      rw [meter]
      dsimp only
      rw [closing, Meter.close_members, Oct.get_map, MeterMember.closed_eq, prog]
    have record : (s.dev.taken.closeSubBlock.prog n).record = (s.dev.prog n).record := by
      rw [closed.prog n]
      rfl
    have delay : (s.dev.taken.closeSubBlock.prog n).delay = (s.dev.prog n).delay := by
      rw [closed.prog n]
      rfl
    obtain ⟨continuous, counted, last⟩ := Subscription.after_spec old
    refine ⟨_, slot, rfl, ?_, rfl, rfl, rfl, rfl, rfl, rfl, rfl, rfl, rfl, ⟨?_, ?_, fun short => ?_, fun m listed => ?_⟩, ?_⟩
    · rw [closed.frame]
      rfl
    · unfold Device.report1 Device.changing
      dsimp only
      rw [Bool.or_eq_true, Device.any_positions_iff_lt, record]
      unfold Device.line
      rw [delay, bne_iff_ne]
      simp only [bne_iff_ne]
    · unfold Device.report1
      dsimp only
      rw [Device.any_positions_iff_lt, record]
      unfold Device.line
      rw [delay]
    · unfold Device.report1
      dsimp only
      rw [List.length_map, record, Record.positions_eq_take, List.length_take]
      exact min_eq_left short
    · unfold Device.report1
      dsimp only
      rw [List.getElem?_map, record, Record.positions_getElem? _ listed, ← levels]
      rfl
    · rw [sub]
      exact ⟨continuous, counted, last⟩
  · have none : ¬ (s.dev.taken.active n = true ∧ s.dev.taken.link.subscriptions.get n ≠ .none) := by
      rintro ⟨active, subscribed⟩
      exact neither.elim (fun h => h (Device.active_iff.1 active)) subscribed
    exact (closed.unreported n none).symm

end Sys2Proof.Machine
end

section
/-!
The sub-block end: the qualification timers (O40) and the changeover contexts (O39).
-/

namespace Sys2Proof.Machine

/-! ## Qualification (R148) -/

/-- One judgement of a qualified condition, as R148 states it. -/
def AlarmRecord.Requalified (r new : AlarmRecord) (setMet clearMet : Prop) (setLimit clearLimit : Nat) : Prop :=
  (r.active = false → setMet → new = { r with
    setTimer := max r.setTimer (min (r.setTimer + 1) setLimit)
    expiry := if setLimit ≤ r.setTimer + 1 then .set else .none }) ∧
  (r.active = false → ¬ setMet → new = { r with setTimer := 0, expiry := .none }) ∧
  (r.active = true → clearMet → new = { r with
    clearTimer := max r.clearTimer (min (r.clearTimer + 1) clearLimit)
    expiry := if clearLimit ≤ r.clearTimer + 1 then .clear else .none }) ∧
  (r.active = true → ¬ clearMet → new = { r with clearTimer := 0, expiry := .none })

/-- A timer at its limit stays, one below it counts. -/
theorem countedTimer_eq (t limit : Nat) : (if limit ≤ t then t else t + 1) = max t (min (t + 1) limit) := by
  split_ifs <;> omega

theorem limit_le_countedTimer (t limit : Nat) : (limit ≤ max t (min (t + 1) limit)) ↔ limit ≤ t + 1 := by omega

theorem AlarmRecord.qualify_requalified (r : AlarmRecord) {x y : Bool} {setMet clearMet : Prop} (set : x = true ↔ setMet)
    (clear : y = true ↔ clearMet) (i j : Nat) : r.Requalified (r.qualify x y i j) setMet clearMet i j := by
  refine ⟨fun off met => ?_, fun off unmet => ?_, fun on met => ?_, fun on unmet => ?_⟩
  · unfold AlarmRecord.qualify
    simp only [off, set.2 met, countedTimer_eq, limit_le_countedTimer, if_true, Bool.true_and, decide_eq_true_eq]
    rfl
  · have x : x = false := Bool.eq_false_of_not_eq_true fun h => unmet (set.1 h)
    unfold AlarmRecord.qualify
    simp only [off, x, Bool.false_and]
    rfl
  · unfold AlarmRecord.qualify
    simp only [on, clear.2 met, countedTimer_eq, limit_le_countedTimer, if_true, Bool.true_and, decide_eq_true_eq]
  · have y : y = false := Bool.eq_false_of_not_eq_true fun h => unmet (clear.1 h)
    unfold AlarmRecord.qualify
    simp only [on, y, Bool.false_and]
    rfl

theorem Device.levelled_levelAt (d : Device) (q : Source) :
    d.levelled.levelAt q = levelOf ((d.port q.port).peaks.get q.slot) := by
  unfold Device.levelAt Device.port Device.levelled Port.closeLevels
  rw [Oct.get_map]
  dsimp only
  rw [Quad.get_map]

/-- The levels of the current sources, as a sub-block end forms them. -/
theorem Device.levelled_sourceLevels (d : Device) (n : Ix8) :
    d.levelled.sourceLevels n = (d.prog n).record.members.map fun z =>
      levelOf ((d.port (z.on (d.prog n).ctx.selection).port).peaks.get (z.on (d.prog n).ctx.selection).slot) := by
  unfold Device.sourceLevels
  refine List.map_congr_left fun z _ => ?_
  rw [Device.levelled_levelAt, Member.on_eq]
  rfl

theorem Device.taken_port (d : Device) (p : Ix8) : d.taken.port p = d.port p := rfl

theorem Device.taken_prog (d : Device) (n : Ix8) : d.taken.prog n = d.prog n := rfl

theorem Device.levelled_prog (d : Device) (n : Ix8) : d.levelled.prog n = d.prog n := rfl

theorem all_map_lt_iff (l : List Member) (f : Member → Int) (v : Int) :
    ((l.map f).all fun x => decide (x < v)) = true ↔ ∀ z ∈ l, f z < v := by simp

theorem any_map_le_iff (l : List Member) (f : Member → Int) (v : Int) :
    ((l.map f).any fun x => decide (v ≤ x)) = true ↔ ∃ z ∈ l, v ≤ f z := by simp

/-- Settles O40: each condition judged by its criteria. -/
theorem subBlockEndQualifiesConditions : Obligations.SubBlockEndQualifiesConditions := by
  intro s calm due judged
  obtain ⟨run, closed⟩ := exec_subBlockEnd calm due
  refine ⟨_, run, fun p => ⟨fun off => ?_, fun on => ?_⟩, ?_, fun a unlock silence high low overs => ?_⟩
  · rw [closed.unlock]
    exact if_neg (by rw [show (s.dev.taken.port p) = s.dev.port p from rfl, off]; decide)
  · rw [closed.unlock]
    refine (congrArg (fun r => judged _ r _ _ _ _) (if_pos on)).mpr ?_
    refine AlarmRecord.qualify_requalified _ ?_ ?_ _ _
    · rw [Bool.not_eq_true', beq_eq_false_iff_ne]
      rfl
    · rw [beq_iff_eq]
      rfl
  · intro n x o level conditions
    have activeIff : s.dev.taken.active n = true ↔ x.record.state = .active := Device.active_iff
    have levels : s.dev.taken.levelled.sourceLevels n = x.record.members.map level := by
      rw [Device.levelled_sourceLevels, Device.taken_prog]
      simp only [Device.taken_port]
      rfl
    refine ⟨fun idle a listed => ?_, fun state => ⟨?_, fun absent => ?_, fun v present => ?_⟩⟩
    · have idle : s.dev.taken.active n = false := Bool.eq_false_of_not_eq_true fun h => idle (activeIff.1 h)
      have which (k : Ix8) (h : a = .silence k ∨ a = .loudHigh k ∨ a = .loudLow k) : s.dev.taken.active k = false := by
        have same : k = n := by
          rcases List.mem_cons.1 listed with rfl | listed
          · rcases h with h | h | h <;> cases h
            rfl
          · rcases List.mem_cons.1 listed with rfl | listed
            · rcases h with h | h | h <;> cases h
              rfl
            · cases List.mem_singleton.1 listed
              rcases h with h | h | h <;> cases h
              rfl
        rw [same]
        exact idle
      have kinds : a.kind ≠ .unlock ∧ a.kind ≠ .overEvent := by
        rcases List.mem_cons.1 listed with rfl | listed
        · exact ⟨show Kind.silence ≠ .unlock by decide, show Kind.silence ≠ .overEvent by decide⟩
        · rcases List.mem_cons.1 listed with rfl | listed
          · exact ⟨show Kind.loudHigh ≠ .unlock by decide, show Kind.loudHigh ≠ .overEvent by decide⟩
          · cases List.mem_singleton.1 listed
            exact ⟨show Kind.loudLow ≠ .unlock by decide, show Kind.loudLow ≠ .overEvent by decide⟩
      exact closed.other a kinds.1 kinds.2 which
    · rw [closed.silence n (activeIff.2 state), Device.requalifiedSilence, levels]
      refine AlarmRecord.qualify_requalified _ ?_ ?_ _ _
      · exact all_map_lt_iff _ level _
      · exact any_map_le_iff _ level _
    · rw [closed.high n (activeIff.2 state), closed.low n (activeIff.2 state), absent]
      exact ⟨rfl, rfl⟩
    · intro limit
      rw [closed.high n (activeIff.2 state), closed.low n (activeIff.2 state), present]
      exact ⟨AlarmRecord.qualify_requalified _ decide_eq_true_iff decide_eq_true_iff _ _,
        AlarmRecord.qualify_requalified _ decide_eq_true_iff decide_eq_true_iff _ _⟩
  · refine closed.other a unlock overs fun n which => ?_
    rcases which with rfl | rfl | rfl
    · exact absurd rfl silence
    · exact absurd rfl high
    · exact absurd rfl low

/-! ## Changeover (R66, R68 to R70) -/

/-- What the sub-block end makes of a context, by the health of the sides and the failure of the primary. -/
theorem Context.judged_spec (c : Context) (o : Settings) (primary backup failed : Bool) :
    let requests := o.changeoverMode ≠ .manual ∧ c.selection = .primary ∧ c.state = .idle ∧ failed = true ∧ backup = true
    let returns := o.changeoverMode = .autoReturn ∧ c.selection = .backup ∧ c.selectedBy = .auto ∧ c.state = .idle ∧
      primary = true
    let u := c.judged o primary backup failed
    u.primaryHealthy = primary ∧ u.backupHealthy = backup ∧
    (requests → u.state = .pending ∧ u.target = some (.backup, .auto) ∧ u.holdTimer = 0 ∧
      (u.startDue = true ↔ c.quiet = 960 ∨ o.holdLimit ≤ 0)) ∧
    (¬ requests → u.state = c.state ∧ u.target = c.target ∧ u.holdTimer = c.holdTimer ∧ u.startDue = c.startDue) ∧
    (returns → u.returnTimer = c.returnTimer + 1 ∧
      (u.returnDue = true ↔ o.returnTime * 10 ≤ ((c.returnTimer + 1 : Nat) : Int))) ∧
    (¬ returns → u.returnTimer = 0 ∧ u.returnDue = false) ∧
    u.selection = c.selection ∧ u.selectedBy = c.selectedBy ∧ u.next = c.next ∧ u.fadeStep = c.fadeStep ∧
    u.quiet = c.quiet ∧ u.gapThreshold = c.gapThreshold := by
  intro requests returns u
  by_cases asks : requests
  · have stays : ¬ returns := fun h => nomatch asks.2.1.symm.trans h.2.1
    have made : u = (({ c with primaryHealthy := primary, backupHealthy := backup } : Context).pend o .backup .auto).countReturn o :=
      congrArg (fun b : Context => b.countReturn o) (if_pos asks)
    have counted : u = { (({ c with primaryHealthy := primary, backupHealthy := backup } : Context).pend o .backup .auto) with
        returnTimer := 0, returnDue := false } := by
      rw [made, Context.pend_eq]
      exact if_neg fun h => nomatch h.2.2.2.1
    rw [counted, Context.pend_eq]
    exact ⟨rfl, rfl, fun _ => ⟨rfl, rfl, rfl, decide_eq_true_iff⟩, fun h => absurd asks h, fun h => absurd h stays,
      fun _ => ⟨rfl, rfl⟩, rfl, rfl, rfl, rfl, rfl, rfl⟩
  · have made : u = ({ c with primaryHealthy := primary, backupHealthy := backup } : Context).countReturn o :=
      congrArg (fun b : Context => b.countReturn o) (if_neg asks)
    by_cases back : returns
    · have counted : u = { c with
          primaryHealthy := primary, backupHealthy := backup
          returnTimer := c.returnTimer + 1
          returnDue := decide (o.returnTime * 10 ≤ ((c.returnTimer + 1 : Nat) : Int)) } := made.trans (if_pos back)
      rw [counted]
      exact ⟨rfl, rfl, fun h => absurd h asks, fun _ => ⟨rfl, rfl, rfl, rfl⟩, fun _ => ⟨rfl, decide_eq_true_iff⟩,
        fun h => absurd back h, rfl, rfl, rfl, rfl, rfl, rfl⟩
    · have counted : u = { c with
          primaryHealthy := primary, backupHealthy := backup, returnTimer := 0, returnDue := false } :=
        made.trans (if_neg back)
      rw [counted]
      exact ⟨rfl, rfl, fun h => absurd h asks, fun _ => ⟨rfl, rfl, rfl, rfl⟩, fun h => absurd h back,
        fun _ => ⟨rfl, rfl⟩, rfl, rfl, rfl, rfl, rfl, rfl⟩

theorem Device.levelled_conv (d : Device) (p : Ix8) : (d.levelled.port p).conv = (d.port p).conv := by
  unfold Device.port Device.levelled
  rw [Oct.get_map]
  rfl

theorem Device.levelled_healthy_iff (d : Device) (n : Ix8) (side : Selection) : d.levelled.healthy n side = true ↔
    (∀ q ∈ (d.prog n).record.side side, (d.port q.port).conv.state = .locked) ∧
      ∃ q ∈ (d.prog n).record.side side,
        (d.prog n).record.settings.silenceLevel ≤ levelOf ((d.port q.port).peaks.get q.slot) := by
  unfold Device.healthy
  simp only [Bool.and_eq_true, List.all_eq_true, List.any_eq_true, decide_eq_true_eq, beq_iff_eq, Device.levelled_conv,
    Device.levelled_levelAt]
  rfl

theorem Device.primaryFailed_iff (d : Device) (n : Ix8) : d.primaryFailed n = true ↔
    (d.alarms.get (.silence n)).active = true ∨
      ∃ q ∈ (d.prog n).record.side .primary, (d.alarms.get (.unlock q.port)).active = true := by
  unfold Device.primaryFailed
  rw [Bool.or_eq_true, List.any_eq_true]

/-- Settles O39: the contexts by the health of the two sides. -/
theorem subBlockEndJudgesTheSides : Obligations.SubBlockEndJudgesTheSides := by
  intro s calm due
  obtain ⟨run, closed⟩ := exec_subBlockEnd calm due
  refine ⟨_, run, ?_⟩
  intro n x o level side healthy failed requests returns c
  have activeIff : s.dev.taken.levelled.active n = true ↔ x.record.state = .active := Device.active_iff
  have ctx : c = (s.dev.taken.levelled.sided n).freshFlag := congrArg Programme.ctx (closed.prog n)
  refine ⟨fun idle => ?_, fun state => ?_⟩
  · rw [ctx, Device.sided, if_neg fun h => idle (activeIff.1 h)]
    rfl
  · have sides (t : Selection) : s.dev.taken.levelled.healthy n t = true ↔ healthy t := by
      rw [Device.levelled_healthy_iff]
      cases t <;> rfl
    have fails : s.dev.taken.levelled.primaryFailed n = true ↔ failed := Device.primaryFailed_iff _ n
    have judged : s.dev.taken.levelled.sided n = x.ctx.judged o (s.dev.taken.levelled.healthy n .primary)
        (s.dev.taken.levelled.healthy n .backup) (s.dev.taken.levelled.primaryFailed n) := if_pos (activeIff.2 state)
    have spec := x.ctx.judged_spec o (s.dev.taken.levelled.healthy n .primary) (s.dev.taken.levelled.healthy n .backup)
      (s.dev.taken.levelled.primaryFailed n)
    rw [← judged, sides, sides, fails] at spec
    obtain ⟨primary, backup, asks, quiet, back, stays, rest⟩ := spec
    rw [ctx]
    refine ⟨?_, ?_, rfl, asks, quiet, back, stays, rest⟩
    · change (s.dev.taken.levelled.sided n).primaryHealthy = true ↔ _
      rw [primary, sides]
    · change (s.dev.taken.levelled.sided n).backupHealthy = true ↔ _
      rw [backup, sides]

end Sys2Proof.Machine
end

section
/-!
SUPPORT. What a sub-block end makes of one meter and of one gain computer (R112 to R131), field by field.
-/

namespace Sys2Proof.Machine

/-! ## The histogram (R119) -/

theorem binCount_cons (b : Nat × Nat) (l : List (Nat × Nat)) (k : Nat) :
    binCount (b :: l) k = if b.1 = k then b.2 else binCount l k := by
  unfold binCount
  rw [List.find?_cons]
  by_cases h : b.1 = k
  · rw [if_pos h, beq_iff_eq.2 h]
  · rw [if_neg h, beq_eq_false_iff_ne.2 h]

/-- A bin below every bin of a list has count 0 there. -/
theorem binCount_below {l : List (Nat × Nat)} {k : Nat} (h : ∀ b ∈ l, k < b.1) : binCount l k = 0 := by
  induction l with
  | nil => rfl
  | cons b l ih =>
    rw [binCount_cons, if_neg (h b List.mem_cons_self).ne']
    exact ih fun c there => h c (List.mem_cons_of_mem _ there)

/-- Every bin of a list after a count is one of the list, or the bin counted. -/
theorem mem_addBin {l : List (Nat × Nat)} {k : Nat} {c : Nat × Nat} (h : c ∈ addBin l k) : c.1 = k ∨ ∃ b ∈ l, c.1 = b.1 := by
  induction l with
  | nil =>
    cases List.mem_singleton.1 h
    exact .inl rfl
  | cons b l ih =>
    rw [addBin] at h
    split_ifs at h
    · rcases List.mem_cons.1 h with rfl | h
      · exact .inl rfl
      · exact .inr ⟨c, h, rfl⟩
    · rcases List.mem_cons.1 h with rfl | h
      · exact .inl rfl
      · exact .inr ⟨c, List.mem_cons_of_mem _ h, rfl⟩
    · rcases List.mem_cons.1 h with rfl | h
      · exact .inr ⟨c, List.mem_cons_self, rfl⟩
      · exact (ih h).imp_right fun ⟨b, there, same⟩ => ⟨b, List.mem_cons_of_mem _ there, same⟩

theorem addBin_sorted {l : List (Nat × Nat)} (sorted : l.Pairwise fun a b => a.1 < b.1) (k : Nat) :
    (addBin l k).Pairwise fun a b => a.1 < b.1 := by
  induction l with
  | nil => exact List.pairwise_singleton _ _
  | cons b l ih =>
    obtain ⟨first, rest⟩ := List.pairwise_cons.1 sorted
    rw [addBin]
    split_ifs with below same
    · refine List.pairwise_cons.2 ⟨fun c there => ?_, sorted⟩
      rcases List.mem_cons.1 there with rfl | there
      · exact below
      · exact below.trans (first c there)
    · exact List.pairwise_cons.2 ⟨fun c there => same ▸ first c there, rest⟩
    · refine List.pairwise_cons.2 ⟨fun c there => ?_, ih rest⟩
      rcases mem_addBin there with h | ⟨a, inside, h⟩
      · omega
      · rw [h]
        exact first a inside

theorem binCount_addBin {l : List (Nat × Nat)} (sorted : l.Pairwise fun a b => a.1 < b.1) (k j : Nat) :
    binCount (addBin l k) j = if j = k then min (binCount l k + 1) 4294967295 else binCount l j := by
  induction l with
  | nil =>
    rw [addBin, binCount_cons]
    simp only [eq_comm]
    rfl
  | cons b l ih =>
    obtain ⟨first, rest⟩ := List.pairwise_cons.1 sorted
    rw [addBin]
    by_cases below : k < b.1
    · have absent : binCount (b :: l) k = 0 := binCount_below fun c there => by
        rcases List.mem_cons.1 there with rfl | there
        · exact below
        · exact below.trans (first c there)
      rw [if_pos below, binCount_cons, absent]
      simp only [eq_comm]
      rfl
    · rw [if_neg below]
      by_cases same : k = b.1
      · rw [if_pos same, binCount_cons, binCount_cons, binCount_cons]
        by_cases there : b.1 = j
        · rw [if_pos (same.trans there), if_pos there, if_pos (there.symm.trans same.symm), if_pos same.symm]
          rfl
        · rw [if_neg fun h => there (same.symm.trans h), if_neg there, if_neg fun h => there (same.symm.trans h.symm)]
      · rw [if_neg same, binCount_cons, ih rest, binCount_cons, binCount_cons, if_neg (Ne.symm same)]
        by_cases there : b.1 = j
        · rw [if_pos there, if_pos there, if_neg fun h => same (h.symm.trans there.symm)]
        · rw [if_neg there, if_neg there]

/-- A count in a histogram (R119). -/
theorem Meter.countMomentary_bins (t : Meter) : t.countMomentary.bins = t.momentary.elim t.bins fun m =>
    if -700 ≤ m then addBin t.bins (m + 700).toNat else t.bins := by
  unfold Meter.countMomentary
  cases t.momentary with
  | none => rfl
  | some m => exact apply_ite Meter.bins _ _ _

theorem Meter.countMomentary_belowGate (t : Meter) : t.countMomentary.belowGate = t.momentary.elim t.belowGate fun m =>
    if -700 ≤ m then t.belowGate else addCount t.belowGate := by
  unfold Meter.countMomentary
  cases t.momentary with
  | none => rfl
  | some m => exact apply_ite Meter.belowGate _ _ _

theorem Meter.countMomentary_eq (t : Meter) :
    t.countMomentary = { t with bins := t.countMomentary.bins, belowGate := t.countMomentary.belowGate } := by
  unfold Meter.countMomentary
  split
  · rfl
  · split_ifs <;> rfl

/-! ## The meter (R112 to R125) -/

/-- The meter at the end of a sub-block in OFF. -/
theorem Meter.close_off (t : Meter) (r : Record) (fit second : Bool) (off : r.settings.loudnessMode = .off) :
    let u := t.close r fit second
    u.energies = addEnergy t.energies { energy := 0, valid := false } ∧ u.momentary = none ∧ u.shortTerm = none ∧
      u.integrated = none ∧ u.bins = t.bins ∧ u.belowGate = t.belowGate := by
  unfold Meter.close
  rw [off]
  exact ⟨rfl, rfl, rfl, rfl, rfl, rfl⟩

/-- What the work of a running sub-block keeps. -/
theorem Meter.closeRunning_frame (a : Meter) (l : List (Ix8 × Member)) (valid : Bool) :
    (a.closeRunning l valid).mode = a.mode ∧ (a.closeRunning l valid).resetFlag = a.resetFlag ∧
      (a.closeRunning l valid).integrated = a.integrated := by
  unfold Meter.closeRunning
  extract_lets x c
  have counted : c = _ := Meter.countMomentary_eq _
  rw [counted]
  exact ⟨rfl, rfl, rfl⟩

/-- What it writes. -/
theorem Meter.closeRunning_figures (a : Meter) (listed : List (Ix8 × Member)) (valid : Bool) :
    let l := addEnergy a.energies { energy := a.programmeEnergy listed, valid := valid }
    let u := a.closeRunning listed valid
    u.energies = l ∧ u.momentary = momentaryOf l ∧ u.shortTerm = shortTermOf l ∧
      u.bins = ((momentaryOf l).elim a.bins fun m => if -700 ≤ m then addBin a.bins (m + 700).toNat else a.bins) ∧
      u.belowGate = ((momentaryOf l).elim a.belowGate fun m => if -700 ≤ m then a.belowGate else addCount a.belowGate) := by
  intro l u
  have bins := Meter.countMomentary_bins { a with energies := l, momentary := momentaryOf l }
  have below := Meter.countMomentary_belowGate { a with energies := l, momentary := momentaryOf l }
  have counted := Meter.countMomentary_eq { a with energies := l, momentary := momentaryOf l }
  have energies := congrArg Meter.energies counted
  have momentary := congrArg Meter.momentary counted
  dsimp only at bins below energies momentary
  obtain ⟨c, cDef⟩ : ∃ c, c = ({ a with energies := l, momentary := momentaryOf l } : Meter).countMomentary := ⟨_, rfl⟩
  have whole : u = { c with
      shortTerm := shortTermOf l, members := c.members.map fun m => { m with energy := 0 } } := by
    rw [cDef]
    rfl
  rw [← cDef] at bins below energies momentary
  rw [whole]
  exact ⟨energies, momentary, rfl, bins, below⟩

/-- The energy sums are those of the sub-block, the peaks being closed first. -/
theorem Meter.programmeEnergy_congr {t u : Meter} (same : ∀ m, (u.members.get m).energy = (t.members.get m).energy)
    (l : List (Ix8 × Member)) : u.programmeEnergy l = t.programmeEnergy l := by
  unfold Meter.programmeEnergy
  simp only [same]

/-- A meter at the end of a sub-block, with the mode and the flag adopted and the peaks closed. -/
def Meter.adopted (t : Meter) (r : Record) : Meter :=
  { t with
    mode := r.settings.loudnessMode, resetFlag := r.settings.resetOnChangeover
    members := t.members.map MeterMember.closePeak }

theorem Meter.close_eq_running (t : Meter) (r : Record) (fit second : Bool) (on : r.settings.loudnessMode ≠ .off) :
    let c := (t.adopted r).closeRunning r.listed (fit && t.activeThroughout && t.runningThroughout)
    t.close r fit second = { c with
      integrated := if second then integratedOf c.bins else c.integrated, activeThroughout := true
      runningThroughout := true } := by
  unfold Meter.close Meter.adopted
  cases mode : r.settings.loudnessMode with
  | off => exact absurd mode on
  | measure => cases second <;> rfl
  | correct => cases second <;> rfl

theorem Meter.close_common (t : Meter) (r : Record) (fit second : Bool) :
    let u := t.close r fit second
    u.mode = r.settings.loudnessMode ∧ u.resetFlag = r.settings.resetOnChangeover ∧ u.activeThroughout = true ∧
      (u.runningThroughout = true ↔ r.settings.loudnessMode ≠ .off) := by
  by_cases off : r.settings.loudnessMode = .off
  · unfold Meter.close
    rw [off]
    exact ⟨rfl, rfl, rfl, iff_of_false nofun fun h => h rfl⟩
  · intro u
    have closed : u = _ := t.close_eq_running r fit second off
    obtain ⟨mode, flag, -⟩ := (t.adopted r).closeRunning_frame r.listed (fit && t.activeThroughout && t.runningThroughout)
    rw [closed]
    exact ⟨mode, flag, rfl, iff_of_true rfl off⟩

/-- The meter at the end of a sub-block in a running mode. -/
theorem Meter.close_running (t : Meter) (r : Record) (fit second : Bool) (on : r.settings.loudnessMode ≠ .off) :
    let u := t.close r fit second
    let l := addEnergy t.energies
      { energy := t.programmeEnergy r.listed, valid := fit && t.activeThroughout && t.runningThroughout }
    u.energies = l ∧ u.momentary = momentaryOf l ∧ u.shortTerm = shortTermOf l ∧
      u.bins = ((momentaryOf l).elim t.bins fun m => if -700 ≤ m then addBin t.bins (m + 700).toNat else t.bins) ∧
      u.belowGate = ((momentaryOf l).elim t.belowGate fun m => if -700 ≤ m then t.belowGate else addCount t.belowGate) ∧
      u.integrated = if second then integratedOf u.bins else t.integrated := by
  intro u
  have closed : u = _ := t.close_eq_running r fit second on
  have energy : (t.adopted r).programmeEnergy r.listed = t.programmeEnergy r.listed :=
    by
    refine Meter.programmeEnergy_congr (fun m => ?_) _
    have closed : (t.adopted r).members.get m = (t.members.get m).closePeak := Oct.get_map t.members _ m
    rw [closed]
    rfl
  obtain ⟨energies, momentary, short, bins, below⟩ := (t.adopted r).closeRunning_figures r.listed
    (fit && t.activeThroughout && t.runningThroughout)
  obtain ⟨-, -, integrated⟩ := (t.adopted r).closeRunning_frame r.listed (fit && t.activeThroughout && t.runningThroughout)
  rw [energy] at energies momentary short bins below
  rw [closed]
  refine ⟨energies, momentary, short, bins, below, ?_⟩
  dsimp only
  rw [integrated]
  rfl

/-! ## The gain computer (R129 to R131) -/

theorem Gain.schedule1_spec (g : Gain) (tag : HouseIndex) :
    (g.schedule1 tag).g = g.g ∧ (g.g = g.previous → g.schedule1 tag = g) ∧
      (g.g ≠ g.previous → g.schedule1 tag =
        { g := g.g, previous := g.g, schedule := g.schedule ++ [{ tag := tag, gain := g.g }] }) := by
  unfold Gain.schedule1
  by_cases same : g.g = g.previous
  · rw [if_pos same]
    exact ⟨rfl, fun _ => rfl, fun h => absurd same h⟩
  · rw [if_neg same]
    exact ⟨rfl, fun h => absurd h same, fun _ => rfl⟩

theorem Gain.step_frame (g : Gain) (s : Settings) (mode : LoudMode) (v : Option Int) :
    g.step s mode v = { g with g := (g.step s mode v).g } := by
  unfold Gain.step
  split
  · split_ifs <;> rfl
  · rfl
  · rfl
  · rfl

/-- G moves toward the wanted gain by the slew (R129). -/
theorem Gain.step_correct (g : Gain) (s : Settings) (v : Int) (near : s.loudnessTarget - 200 ≤ v)
    (bounds : -s.maxCut ≤ s.maxBoost) :
    (g.step s .correct (some v)).g =
      stepToward g.g (10 * max (-s.maxCut) (min s.maxBoost (s.loudnessTarget - v))) s.slew := by
  unfold Gain.step
  dsimp only
  rw [if_neg (not_lt.2 near), desiredGain, clampInt_eq bounds]

end Sys2Proof.Machine
end

section
/-!
The sub-block end: the meters and the gain computers (O38).
-/

namespace Sys2Proof.Machine

theorem sum_filterMap {α β : Type} (l : List α) (g : α → Option β) (f : β → Rat) :
    ((l.filterMap g).map f).sum = (l.map fun a => (g a).elim 0 f).sum := by
  induction l with
  | nil => rfl
  | cons a l ih =>
    rw [List.filterMap_cons, List.map_cons, List.sum_cons, ← ih]
    cases g a with
    | none => exact (zero_add _).symm
    | some b => rfl

theorem Meter.programmeEnergy_listed (t : Meter) (r : Record) : t.programmeEnergy r.listed =
    (eight.map fun m => (r.members[m.val]?).elim 0 fun z => z.role.weight * ((t.members.get m).energy / 4800)).sum := by
  unfold Meter.programmeEnergy Record.listed
  rw [sum_filterMap]
  refine congrArg List.sum (List.map_congr_left fun m _ => ?_)
  cases r.members[m.val]? <;> rfl

/-- The causes that make a sub-block of a programme invalid (R116, log 49). -/
theorem Device.levelled_fit_iff (d : Device) (n : Ix8) : d.levelled.fit n = true ↔ d.time.h ≠ 0 ∧
    (∀ z ∈ (d.prog n).record.members,
      (d.port (z.on (d.prog n).ctx.selection).port).conv.throughout = true ∧
      (d.port (z.on (d.prog n).ctx.selection).port).conv.slipMark = false) ∧
    (d.prog n).ctx.fadeFlag = false ∧ (d.prog n).gen.flag = false := by
  unfold Device.fit
  simp only [Bool.and_eq_true, Bool.not_eq_true', List.all_eq_true, Device.levelled_conv, Device.levelled_prog, and_assoc]
  refine and_congr ?_ (and_congr_left' (forall₂_congr fun z _ => ?_))
  · rw [← Bool.not_eq_true, Timebase.atWrap_iff]
    rfl
  · rw [Programme.currentSource, Member.on_eq]

theorem addEnergy_eq (l : List EnergyEntry) (e : EnergyEntry) :
    addEnergy l e = (l ++ [e]).drop ((l ++ [e]).length - 30) := by
  rw [addEnergy, List.length_append]
  rfl

theorem addEnergy_length_le (l : List EnergyEntry) (e : EnergyEntry) : (addEnergy l e).length ≤ 30 := by
  rw [addEnergy_eq, List.length_drop]
  omega

theorem momentaryOf_spec (l : List EnergyEntry) :
    ((l.drop (l.length - 4)).length = 4 ∧ (∀ q ∈ l.drop (l.length - 4), q.valid = true) →
      momentaryOf l = some (meanLoudness (l.drop (l.length - 4)))) ∧
    (¬ ((l.drop (l.length - 4)).length = 4 ∧ ∀ q ∈ l.drop (l.length - 4), q.valid = true) → momentaryOf l = none) := by
  unfold momentaryOf
  rw [← List.all_eq_true]
  exact ⟨fun h => if_pos h, fun h => if_neg h⟩

theorem shortTermOf_eq {l : List EnergyEntry} (few : l.length ≤ 30) :
    shortTermOf l = if 10 ≤ (l.filter EnergyEntry.valid).length then some (meanLoudness (l.filter EnergyEntry.valid))
      else none := by
  unfold shortTermOf
  rw [Nat.sub_eq_zero_of_le few]
  rfl

theorem Meter.close_over_iff (t : Meter) (r : Record) (fit second : Bool) :
    (t.close r fit second).over r = true ↔
      ∃ m : Ix8, m.val < r.members.length ∧ r.settings.overLevel ≤ levelOf (t.members.get m).peak := by
  unfold Meter.over
  rw [List.any_eq_true]
  simp only [Record.mem_positions_iff_lt, decide_eq_true_eq, Meter.close_members, Oct.get_map, MeterMember.closed_eq]

/-- What the closing of a meter does, as R111 to R125 give it. -/
def Meter.Closes (t u : Meter) (r : Record) (valid : Prop) (second : Prop) [Decidable second] : Prop :=
  let o := r.settings
  let last := fun (l : List EnergyEntry) (k : Nat) => l.drop (l.length - k)
  let mean := fun (l : List EnergyEntry) => loudnessOf ((l.map EnergyEntry.energy).sum / (l.length : Rat))
  let weight := fun (z : Member) => match z.role with
    | .front => (1 : Rat)
    | .surround => 141 / 100
    | .low => 0
  let energy := (eight.map fun m => match r.members[m.val]? with
    | some z => weight z * ((t.members.get m).energy / 4800)
    | none => 0).sum
  (o.loudnessMode = .off →
    u.energies = last (t.energies ++ [⟨0, false⟩]) 30 ∧ u.momentary = none ∧ u.shortTerm = none ∧
    u.integrated = none ∧ u.bins = t.bins ∧ u.belowGate = t.belowGate) ∧
  (o.loudnessMode ≠ .off →
    (∃ v, u.energies = last (t.energies ++ [⟨energy, v⟩]) 30 ∧ (v = true ↔ valid)) ∧
    (let four := last u.energies 4
     (four.length = 4 ∧ (∀ q ∈ four, q.valid = true) → u.momentary = some (mean four)) ∧
     (¬ (four.length = 4 ∧ ∀ q ∈ four, q.valid = true) → u.momentary = none)) ∧
    (let counted := u.energies.filter EnergyEntry.valid
     u.shortTerm = if 10 ≤ counted.length then some (mean counted) else none) ∧
    (u.momentary = none → u.bins = t.bins ∧ u.belowGate = t.belowGate) ∧
    (∀ v, u.momentary = some v →
      (-700 ≤ v → u.bins = addBin t.bins (v + 700).toNat ∧ u.belowGate = t.belowGate) ∧
      (v < -700 → u.bins = t.bins ∧ u.belowGate = min (t.belowGate + 1) 4294967295)) ∧
    u.integrated = if second then integratedOf u.bins else t.integrated)

theorem Meter.close_closes (t : Meter) (r : Record) {fit second : Bool} {fits at_ : Prop} [Decidable at_]
    (isFit : fit = true ↔ fits) (isSecond : second = true ↔ at_) :
    t.Closes (t.close r fit second) r (fits ∧ t.activeThroughout = true ∧ t.runningThroughout = true) at_ := by
  unfold Meter.Closes
  intro o last mean weight energy
  refine ⟨fun off => ?_, fun on => ?_⟩
  · obtain ⟨energies, rest⟩ := t.close_off r fit second off
    exact ⟨energies.trans (addEnergy_eq _ _), rest⟩
  · obtain ⟨energies, momentary, short, bins, below, integrated⟩ := t.close_running r fit second on
    rw [← energies] at momentary short bins below
    obtain ⟨four, notFour⟩ := momentaryOf_spec (t.close r fit second).energies
    rw [← momentary] at four notFour
    refine ⟨⟨fit && t.activeThroughout && t.runningThroughout, ?_, ?_⟩, ⟨four, notFour⟩, ?_, fun absent => ?_, fun v present => ⟨fun high => ?_, fun low => ?_⟩, ?_⟩
    · rw [energies, addEnergy_eq, Meter.programmeEnergy_listed]
      have same : (eight.map fun m => (r.members[m.val]?).elim 0 fun z =>
          z.role.weight * ((t.members.get m).energy / 4800)) = eight.map fun m => match r.members[m.val]? with
          | some z => weight z * ((t.members.get m).energy / 4800)
          | none => 0 := by
        refine List.map_congr_left fun m _ => ?_
        cases r.members[m.val]? <;> rfl
      rw [same]
    · rw [Bool.and_eq_true, Bool.and_eq_true, isFit, and_assoc]
    · rw [short]
      exact shortTermOf_eq (by rw [energies]; exact addEnergy_length_le _ _)
    · rw [bins, below, ← momentary, absent]
      exact ⟨rfl, rfl⟩
    · rw [bins, below, ← momentary, present]
      exact ⟨if_pos high, if_pos high⟩
    · rw [bins, below, ← momentary, present]
      exact ⟨if_neg (not_le.2 low), if_neg (not_le.2 low)⟩
    · rw [integrated]
      by_cases h : at_
      · rw [if_pos h, if_pos (isSecond.2 h)]
      · rw [if_neg h, if_neg fun s => h (isSecond.1 s)]

/-- The step of G as R129 gives it. -/
theorem stepToward_spec (g wanted delta : Int) :
    ((wanted - g).natAbs ≤ delta → stepToward g wanted delta = wanted) ∧
    (delta < (wanted - g).natAbs → g < wanted → stepToward g wanted delta = g + delta) ∧
    (delta < (wanted - g).natAbs → wanted < g → stepToward g wanted delta = g - delta) := by
  unfold stepToward
  refine ⟨fun near => if_pos near, fun apart up => ?_, fun apart down => ?_⟩
  · rw [if_neg (not_le.2 apart), if_pos up]
  · rw [if_neg (not_le.2 apart), if_neg (not_lt.2 down.le)]

/-- The gain computer of an ACTIVE programme at its sub-block end, by mode (R129, R130). -/
theorem Gain.close_spec (x : Gain) (o : Settings) (u : Meter) (tag : HouseIndex) (mode : u.mode = o.loudnessMode) :
    (o.loudnessMode = .off → (x.close o u tag).g = 0) ∧ (o.loudnessMode = .measure → (x.close o u tag).g = 0) ∧
    (o.loudnessMode = .correct →
      (u.shortTerm = none → (x.close o u tag).g = x.g) ∧
      ∀ v, u.shortTerm = some v →
        let wanted := 10 * max (-o.maxCut) (min o.maxBoost (o.loudnessTarget - v))
        (v < o.loudnessTarget - 200 → (x.close o u tag).g = x.g) ∧
        (o.loudnessTarget - 200 ≤ v → -o.maxCut ≤ o.maxBoost →
          ((wanted - x.g).natAbs ≤ o.slew → (x.close o u tag).g = wanted) ∧
          (o.slew < (wanted - x.g).natAbs → x.g < wanted → (x.close o u tag).g = x.g + o.slew) ∧
          (o.slew < (wanted - x.g).natAbs → wanted < x.g → (x.close o u tag).g = x.g - o.slew))) ∧
    ((x.close o u tag).g = x.previous → x.close o u tag = { x with g := (x.close o u tag).g }) ∧
    ((x.close o u tag).g ≠ x.previous → x.close o u tag = {
      g := (x.close o u tag).g, previous := (x.close o u tag).g
      schedule := x.schedule ++ [{ tag := tag, gain := (x.close o u tag).g }] }) := by
  obtain ⟨figure, same, changed⟩ := (x.step o u.mode u.shortTerm).schedule1_spec tag
  have g : (x.close o u tag).g = (x.step o u.mode u.shortTerm).g := figure
  have frame := x.step_frame o u.mode u.shortTerm
  have previous : (x.step o u.mode u.shortTerm).previous = x.previous := by rw [frame]
  have schedule : (x.step o u.mode u.shortTerm).schedule = x.schedule := by rw [frame]
  rw [g]
  refine ⟨fun off => ?_, fun measure => ?_, fun correct => ⟨fun absent => ?_, fun v present => ⟨fun far => ?_,
    fun near bounds => ?_⟩⟩, fun equal => ?_, fun differs => ?_⟩
  · rw [mode, off]
    rfl
  · rw [mode, measure]
    rfl
  · rw [mode, correct, absent]
    rfl
  · rw [mode, correct, present]
    exact congrArg Gain.g (if_pos far)
  · rw [mode, correct, present, x.step_correct o v near bounds]
    exact stepToward_spec _ _ _
  · exact (same (equal.trans previous.symm)).trans frame
  · refine (changed fun h => differs (h.trans previous)).trans ?_
    rw [schedule]

/-- Settles O38: the meters, the OVER events and the gain computers of a sub-block end, and the counts of a histogram. -/
theorem subBlockEndClosesMetersAndGains : Obligations.SubBlockEndClosesMetersAndGains := by
  refine ⟨fun s calm due => ?_, fun bins k j sorted => ⟨addBin_sorted sorted k, binCount_addBin sorted k j⟩⟩
  obtain ⟨run, closed⟩ := exec_subBlockEnd calm due
  refine ⟨_, run, ?_⟩
  intro n x o t u last mean converted valid weight energy reached r seconds
  have activeIff : s.dev.taken.active n = true ↔ x.record.state = .active := Device.active_iff
  have prog := closed.prog n
  have meter : u = s.dev.taken.levelled.metered (onSecond s.dev.time.h) n := congrArg Programme.meter prog
  have gain : (s.dev.taken.closeSubBlock.prog n).gain = s.dev.taken.gained n u := by
    rw [meter]
    exact congrArg Programme.gain prog
  have overs := closed.overs n
  refine ⟨congrArg Programme.gen prog, fun idle => ?_, fun state => ?_⟩
  · have rests : ¬ s.dev.taken.levelled.active n = true := fun h => idle (activeIff.1 h)
    refine ⟨meter.trans (if_neg rests), gain.trans (if_neg rests), overs.trans (if_neg ?_)⟩
    unfold Device.overs
    rw [Bool.and_eq_true]
    exact fun h => rests h.1
  · have runs : s.dev.taken.levelled.active n = true := activeIff.2 state
    have closes : u = t.close x.record (s.dev.taken.levelled.fit n) (onSecond s.dev.time.h) := meter.trans (if_pos runs)
    have regained : (s.dev.taken.closeSubBlock.prog n).gain = x.gain.close o u (closedStart s.dev.time.h) :=
      gain.trans (if_pos runs)
    have exceeds : s.dev.taken.levelled.overs (onSecond s.dev.time.h) n = true ↔ reached := by
      unfold Device.overs
      rw [runs, Bool.true_and, ← meter, closes]
      exact Meter.close_over_iff t x.record _ _
    obtain ⟨mode, flag, throughout, running⟩ := t.close_common x.record (s.dev.taken.levelled.fit n) (onSecond s.dev.time.h)
    have figures := t.close_closes x.record (s.dev.taken.levelled_fit_iff n) (onSecond_iff s.dev.time.h)
    rw [← closes] at mode flag throughout running figures
    obtain ⟨inOff, inRunning⟩ := figures
    obtain ⟨offGain, measureGain, correctGain, sameGain, newGain⟩ :=
      x.gain.close_spec o u (closedStart s.dev.time.h) mode
    rw [← regained] at offGain measureGain correctGain sameGain newGain
    refine ⟨mode, flag, throughout, running, fun h => ?_, fun h => ?_, fun m => ?_, fun off => ?_, fun on => ?_, measureGain,
      correctGain, sameGain, newGain⟩
    · have now : s.dev.taken.levelled.time.seconds = seconds := by
        change (if onSecond s.dev.time.h = true then _ else _) = _
        simp only [onSecond_iff]
        rfl
      rw [overs, Device.overed]
      refine (if_pos (exceeds.2 h)).trans ?_
      rw [now]
      rfl
    · exact overs.trans (if_neg fun h' => h (exceeds.1 h'))
    · rw [closes, Meter.close_members, Oct.get_map, MeterMember.closed_eq]
      rfl
    · obtain ⟨a, b, c, d, e, f⟩ := inOff off
      exact ⟨a, b, c, d, e, f, offGain off⟩
    · obtain ⟨⟨v, energies, isValid⟩, figures⟩ := inRunning on
      refine ⟨⟨v, energies, isValid.trans ?_⟩, figures⟩
      rw [and_assoc, and_assoc, and_assoc]
      exact Iff.rfl

end Sys2Proof.Machine
end

section
/-!
SUPPORT. What a frame at one port leaves alone, and what the arrivals at the looped lanes leave alone.
-/

namespace Sys2Proof.Machine

variable {S : Ix8 → Prop} {d e f : Device}

/-- Outside the ports of a set, nothing has changed but the delay engine and alarms that are no SLIP. -/
structure Device.PortsIn (S : Ix8 → Prop) (d e : Device) : Prop where
  frame : e = { d with ports := e.ports, progs := e.progs, pool := e.pool, alarms := e.alarms }
  prog : ∀ n, e.prog n = { d.prog n with delay := (e.prog n).delay }
  port : ∀ p, ¬ S p → e.port p = d.port p
  own : ∀ p, e.port p = { d.port p with lane := (e.port p).lane, conv := (e.port p).conv }
  slip : ∀ p, ¬ S p → e.alarms.get (.slip p) = d.alarms.get (.slip p)

namespace Device.PortsIn

theorem refl (d : Device) : d.PortsIn S d := ⟨rfl, fun _ => rfl, fun _ _ => rfl, fun _ => rfl, fun _ _ => rfl⟩

theorem trans (h : d.PortsIn S e) (k : e.PortsIn S f) : d.PortsIn S f where
  frame := by rw [k.frame, h.frame]
  prog n := by rw [k.prog, h.prog]
  port p out := (k.port p out).trans (h.port p out)
  own p := by rw [k.own, h.own]
  slip p out := (k.slip p out).trans (h.slip p out)

theorem mono {T : Ix8 → Prop} (h : d.PortsIn S e) (sub : ∀ p, S p → T p) : d.PortsIn T e where
  frame := h.frame
  prog := h.prog
  port p out := h.port p fun x => out (sub p x)
  own := h.own
  slip p out := h.slip p fun x => out (sub p x)

theorem iteSelf {c : Prop} [Decidable c] (h : c → d.PortsIn S e) : d.PortsIn S (if c then e else d) := by
  split_ifs with x
  · exact h x
  · exact refl d

/-- The delay engine with its DELAY_SHORT reports. -/
theorem engine (h : d.EngineOnly e) (short : d.ShortOnly e) : d.PortsIn S e where
  frame := by
    cases e
    obtain ⟨rfl, rfl, rfl, rfl, rfl, rfl, rfl, rfl, -⟩ := h
    rfl
  prog := h.prog
  port p _ := congrArg (fun o : Oct Port => o.get p) h.ports
  own p := by
    unfold Device.port
    rw [h.ports]
  slip p _ := short.get _ fun _ => nofun

theorem modPort {p : Ix8} (there : S p) (g : Port → Port)
    (own : ∀ x, g x = { x with lane := (g x).lane, conv := (g x).conv }) : d.PortsIn S (d.modPort p g) where
  frame := rfl
  prog _ := rfl
  own q := by
    rw [Device.port_modPort]
    split_ifs with same
    · rw [← same]
      exact own _
    · rfl
  port q out := (d.port_modPort p q g).trans (if_neg fun h => out (by rw [← h]; exact there))
  slip _ _ := rfl

theorem modConv {p : Ix8} (there : S p) (g : Converter → Converter) : d.PortsIn S (d.modConv p g) := modPort there _ fun _ => rfl

theorem modLane {p : Ix8} (there : S p) (g : Lane → Lane) : d.PortsIn S (d.modLane p g) := modPort there _ fun _ => rfl

theorem alarms (g : AlarmUnit → AlarmUnit)
    (h : ∀ p, ¬ S p → (g d.alarms).get (.slip p) = d.alarms.get (.slip p)) : d.PortsIn S (d.modAlarms g) where
  frame := rfl
  prog _ := rfl
  port _ _ := rfl
  own _ := rfl
  slip := h

theorem occur {p : Ix8} (there : S p) : d.PortsIn S (d.occur (.slip p)) :=
  alarms _ fun q out => (d.alarms.occur_get _ _ _).trans (if_neg fun h => out (by rw [Alarm.slip.inj h]; exact there))

theorem activate (p : Ix8) : d.PortsIn S (d.activate (.rateRange p)) :=
  alarms _ fun _ _ => (d.alarms.activate_get _ _ _).trans (if_neg fun h => nomatch h.1)

theorem deactivate (p : Ix8) : d.PortsIn S (d.deactivate (.rateRange p)) :=
  alarms _ fun _ _ => (d.alarms.deactivate_get _ _ _).trans (if_neg fun h => nomatch h.1)

theorem told (d : Device) : d.PortsIn S d.told := engine d.told_engine (d.told_short)

theorem sendLatency {p : Ix8} (there : S p) (fill : Nat) : d.PortsIn S (d.sendLatency p fill) :=
  (modConv there _).trans (engine (Device.latencyUpdate_engine _ p) (Device.latencyUpdate_short _ p))

theorem slipped {p : Ix8} (there : S p) : d.PortsIn S (d.slip p) := (modConv there _).trans (occur there)

theorem intervalEnd {p : Ix8} (there : S p) : d.PortsIn S (d.intervalEnd p) := by
  unfold Device.intervalEnd
  dsimp only
  have dropped : d.PortsIn S (d.modConv p fun c => { c with ended := none }) := modConv there _
  split
  · exact refl d
  · split
    · split_ifs
      · exact ((dropped.trans (deactivate p)).trans (modConv there _)).trans (sendLatency there _)
      · exact dropped.trans (activate p)
    · split_ifs
      · exact ((dropped.trans (deactivate p)).trans (modConv there _)).trans (sendLatency there _)
      · exact (dropped.trans (activate p)).trans (modConv there _)
    · split_ifs
      · exact ((dropped.trans (deactivate p)).trans (modConv there _)).trans (sendLatency there _)
      · exact (dropped.trans (activate p)).trans (modConv there _)
    · exact dropped
    · exact dropped
    · exact dropped

theorem settleArrival {p : Ix8} (there : S p) : d.PortsIn S (d.settleArrival p) := by
  unfold Device.settleArrival
  extract_lets a
  have first : d.PortsIn S a := (intervalEnd there).trans (modConv there _)
  have waited : a.PortsIn S (a.underrunWaitEnd p) :=
    iteSelf fun _ => (modConv there _).trans (sendLatency there _)
  have refilled (g : Device) : g.PortsIn S (g.holdoverRefillEnd p) :=
    iteSelf fun _ => (modConv there _).trans (sendLatency there _)
  exact ((first.trans waited).trans (modConv there _)).trans (refilled _)

theorem laneDark {p : Ix8} (there : S p) : d.PortsIn S (d.laneDark p) := by
  unfold Device.laneDark
  extract_lets lost g
  have darkened : d.PortsIn S g := (settleArrival there).trans (modLane there _)
  refine iteSelf fun _ => ?_
  split_ifs
  · exact darkened.trans (modConv there _)
  · exact darkened

theorem handOff {p : Ix8} (there : S p) (x : LaneInput) : d.PortsIn S (d.handOff p x) := by
  unfold Device.handOff Device.offer
  dsimp only
  split_ifs
  · exact ((((modLane there _).trans (modConv there _)).trans (modConv there _)).trans (slipped there)).trans
      (sendLatency there _)
  · exact (modLane there _).trans (modConv there _)

theorem receiveFrame {p : Ix8} (there : S p) (x : LaneInput) : d.PortsIn S (d.receiveFrame p x) := by
  unfold Device.receiveFrame
  extract_lets r g
  have placed : d.PortsIn S g := modLane there _
  split
  · exact placed
  · exact placed.trans (handOff there x)
  · exact (placed.trans (modConv there _)).trans (handOff there x)
  · exact placed.trans (modConv there _)

theorem arrive {p : Ix8} (there : S p) (x : LaneInput) : d.PortsIn S (d.arrive p x) :=
  ((settleArrival there).trans (laneDark there)).trans (receiveFrame there x)

end Device.PortsIn

/-! ## The looped lanes (R12) -/

/-- A port that takes the frames of an output lane. -/
def Device.looped (d : Device) (p : Ix8) : Prop := (d.port p).lane.enabled = true ∧ (d.port p).lane.source ≠ .pins

/-- One port's turn among the arrivals at the looped lanes. -/
def Device.loopedArrival (d : Device) (o : LaneFrames) (p : Ix8) : Device :=
  match (d.port p).lane.source with
  | .pins => d
  | .loop q => if (d.port p).lane.enabled then d.told.arrive p (loopedInput (o.get q)) else d

theorem Device.loopedArrival_own (d : Device) (o : LaneFrames) (p : Ix8) : d.PortsIn (· = p) (d.loopedArrival o p) := by
  unfold Device.loopedArrival
  split
  · exact .refl d
  · exact .iteSelf fun _ => (Device.PortsIn.told d).trans (.arrive (S := (· = p)) rfl _)

theorem Device.loopedArrival_unlooped (o : LaneFrames) {p : Ix8} (h : ¬ d.looped p) : d.loopedArrival o p = d := by
  unfold Device.loopedArrival
  split
  · rfl
  next q source =>
    refine if_neg fun enabled => h ⟨enabled, ?_⟩
    rw [source]
    nofun

theorem Device.loopedArrival_looped (o : LaneFrames) {p q : Ix8} (enabled : (d.port p).lane.enabled = true)
    (source : (d.port p).lane.source = .loop q) : d.loopedArrival o p = d.told.arrive p (loopedInput (o.get q)) := by
  unfold Device.loopedArrival
  rw [source]
  exact if_pos enabled

theorem Device.PortsIn.looped_iff (h : d.PortsIn S e) {p : Ix8} (out : ¬ S p) : e.looped p ↔ d.looped p := by
  unfold Device.looped
  rw [h.port p out]

theorem Device.loopedArrivals_some (d : Device) (o : LaneFrames) :
    d.loopedArrivals (some o) = forEight d fun e p => e.loopedArrival o p := rfl

theorem Device.PortsIn.loopedArrival (h : d.PortsIn d.looped e) (o : LaneFrames) (p : Ix8) :
    d.PortsIn d.looped (e.loopedArrival o p) := by
  by_cases there : d.looped p
  · exact h.trans ((e.loopedArrival_own o p).mono fun q same => by rw [same]; exact there)
  · rw [Device.loopedArrival_unlooped o ((h.looped_iff there).not.2 there)]
    exact h

theorem Device.loopedArrivals_in (d : Device) (frames : Option LaneFrames) : d.PortsIn d.looped (d.loopedArrivals frames) := by
  cases frames with
  | none => exact .refl d
  | some o => exact forEight_holds (P := d.PortsIn d.looped) (fun e p h => h.loopedArrival o p) (.refl d)

/-- A looped port takes its frame in a part that shows it as it was. -/
theorem Device.loopedArrivals_at (d : Device) (o : LaneFrames) {p q : Ix8} (enabled : (d.port p).lane.enabled = true)
    (source : (d.port p).lane.source = .loop q) : ∃ b : Device, d.PortsIn d.looped b ∧ b.port p = d.port p ∧
      (d.loopedArrivals (some o)).port p = (b.told.arrive p (loopedInput (o.get q))).port p := by
  obtain ⟨b, kept, same, there⟩ := forEight_at (P := d.PortsIn d.looped) (fun p (e : Device) => e.port p)
    (f := fun e p => e.loopedArrival o p) (fun e p h => h.loopedArrival o p)
    (fun e m n _ other => (e.loopedArrival_own o m).port n other) (.refl d) p
  refine ⟨b, kept, same, ?_⟩
  rw [Device.loopedArrivals_some, there, Device.loopedArrival_looped o (by rw [same]; exact enabled) (by rw [same]; exact source)]

end Sys2Proof.Machine
end

section
/-!
SUPPORT. The phases of the work of a house sample (R7, R13, R28 to R33, R64 to R66, R91, R142, R165 to R172), each
seen in one programme, one port or one checker.
-/

namespace Sys2Proof.Machine

variable {d e f : Device}

/-! ## Generators and contexts -/

theorem generators_eq (d : Device) (t : Timebase) : (forEight d fun e n => e.modGen n fun g => g.sample t) =
    d.reprog fun n => { d.prog n with gen := (d.prog n).gen.sample t } :=
  forEight_modProg (next := fun d n => { d.prog n with gen := (d.prog n).gen.sample t })
    (fun e n => e.modProg_congr n rfl)
    (fun d P n same => by
      unfold Device.prog
      rw [same]) d

/-- The context that a programme's house sample leaves (R64 to R66). -/
def Device.counted (d : Device) (n : Ix8) : Context :=
  if d.active n then (d.prog n).ctx.count (d.prog n).record.settings (d.allQuiet n) else (d.prog n).ctx

theorem contexts_eq (d : Device) :
    forEight d Device.countSample = d.reprog fun n => { d.prog n with ctx := d.counted n } := by
  refine forEight_modProg (next := fun d n => { d.prog n with ctx := d.counted n }) (fun e n => ?_) (fun d P n same => ?_) d
  · unfold Device.countSample Device.counted
    split_ifs
    · exact e.modProg_congr n rfl
    · exact (e.modProg_self n).symm
  · unfold Device.counted Device.active Device.inState Device.allQuiet Device.prog
    rw [same]
    rfl

/-! ## Converters (R13, R28 to R33) -/

/-- A port after its house sample, before the converted samples enter the path. -/
def Port.sampled (x : Port) : Port :=
  let y := Port.detect { x with conv := x.conv.sample }
  if x.conv.underruns then { y with conv := y.conv.slipped } else y

/-- The SLIP record of a port after its house sample. -/
def Device.slippedRecord (d : Device) (p : Ix8) : AlarmRecord :=
  let r := d.alarms.get (.slip p)
  if (d.port p).conv.underruns then
    { r with
      latch := true, count := addSat r.count 1, time := d.time.seconds
      noticed := r.noticed || (d.alarms.masks.get .slip).notify }
  else r

/-- Ports and alarms alone have changed. -/
structure Device.Sampling (d e : Device) : Prop where
  frame : e = { d with ports := e.ports, alarms := e.alarms }
  masks : e.alarms.masks = d.alarms.masks

theorem Device.Sampling.refl (d : Device) : d.Sampling d := ⟨rfl, rfl⟩

theorem Device.Sampling.trans (h : d.Sampling e) (k : e.Sampling f) : d.Sampling f where
  frame := by rw [k.frame, h.frame]
  masks := k.masks.trans h.masks

theorem Device.convertSample_eq (d : Device) (p : Ix8) :
    d.convertSample p = (d.putPort p (d.port p).sampled).modAlarms fun u =>
      if (d.port p).conv.underruns then u.occur d.time.seconds (.slip p) else u := by
  unfold Device.convertSample Port.sampled
  cases under : (d.port p).conv.underruns with
  | true =>
    dsimp only
    rw [Device.modPort_eq]
    change ((d.putPort p _).modConv p Converter.slipped).occur (.slip p) = _
    rw [Device.modConv_putPort]
    rfl
  | false => rfl

theorem Device.convertSample_sampling (d : Device) (p : Ix8) : d.Sampling (d.convertSample p) := by
  rw [d.convertSample_eq]
  refine ⟨rfl, ?_⟩
  change (if _ then _ else _ : AlarmUnit).masks = _
  split_ifs
  · exact AlarmUnit.occur_masks _ _ _
  · rfl

theorem Device.convertSample_port (d : Device) (p : Ix8) : (d.convertSample p).port p = (d.port p).sampled := by
  rw [d.convertSample_eq]
  exact d.putPort_port p _

theorem Device.convertSample_port_ne (d : Device) {p q : Ix8} (h : q ≠ p) : (d.convertSample p).port q = d.port q := by
  rw [d.convertSample_eq]
  exact Oct.get_set_ne _ _ h.symm

theorem Device.convertSample_slip (d : Device) (p : Ix8) :
    (d.convertSample p).alarms.get (.slip p) = d.slippedRecord p := by
  rw [d.convertSample_eq, Device.slippedRecord]
  change (if _ then _ else _ : AlarmUnit).get _ = _
  split_ifs
  · exact (d.alarms.occur_get _ _ _).trans (if_pos rfl)
  · rfl

theorem Device.convertSample_slip_ne (d : Device) {p q : Ix8} (h : q ≠ p) :
    (d.convertSample p).alarms.get (.slip q) = d.alarms.get (.slip q) := by
  rw [d.convertSample_eq]
  change (if _ then _ else _ : AlarmUnit).get _ = _
  split_ifs
  · exact (d.alarms.occur_get _ _ _).trans (if_neg fun same => h (Alarm.slip.inj same))
  · rfl

theorem converters_spec (d : Device) : d.Sampling (forEight d Device.convertSample) ∧ ∀ p,
    (forEight d Device.convertSample).port p = (d.port p).sampled ∧
    (forEight d Device.convertSample).alarms.get (.slip p) = d.slippedRecord p := by
  have keep (e : Device) (p : Ix8) (h : d.Sampling e) : d.Sampling (e.convertSample p) := h.trans (e.convertSample_sampling p)
  refine ⟨forEight_holds keep (.refl d), fun p => ?_⟩
  obtain ⟨e, only, same, there⟩ := forEight_at (P := d.Sampling)
    (fun p (e : Device) => (e.port p, e.alarms.get (.slip p))) keep
    (fun e m n _ other => by rw [e.convertSample_port_ne other, e.convertSample_slip_ne other]) (.refl d) p
  obtain ⟨port, slip⟩ := Prod.mk.inj same
  obtain ⟨atPort, atSlip⟩ := Prod.mk.inj there
  refine ⟨atPort.trans ((e.convertSample_port p).trans (by rw [port])), atSlip.trans ((e.convertSample_slip p).trans ?_)⟩
  unfold Device.slippedRecord
  rw [port, slip, only.masks, only.frame]

/-! ## Programmes (R91, R111, R132 to R138) -/

/-- The paths of the programmes alone have changed. -/
structure Device.PathsOnly (d e : Device) : Prop where
  frame : e = { d with progs := e.progs, pool := e.pool, mem := e.mem }
  prog : ∀ n, e.prog n = { d.prog n with
    delay := (e.prog n).delay, meter := (e.prog n).meter, gain := (e.prog n).gain, stage := (e.prog n).stage }

namespace Device.PathsOnly

theorem refl (d : Device) : d.PathsOnly d := ⟨rfl, fun _ => rfl⟩

theorem trans (h : d.PathsOnly e) (k : e.PathsOnly f) : d.PathsOnly f where
  frame := by rw [k.frame, h.frame]
  prog n := by rw [k.prog, h.prog]

theorem modProg (n : Ix8) (g : Programme → Programme) (h : ∀ x, g x = { x with
    delay := (g x).delay, meter := (g x).meter, gain := (g x).gain, stage := (g x).stage }) : d.PathsOnly (d.modProg n g) where
  frame := rfl
  prog k := by
    rw [Device.prog_modProg]
    split_ifs with same
    · rw [← same]
      exact h _
    · rfl

theorem handBack (d : Device) (blocks : List Nat) : d.PathsOnly (d.handBack blocks) where
  frame := by
    obtain ⟨engine, alarms, -⟩ := d.handBack_granted (n := 0) blocks
    generalize d.handBack blocks = e at engine alarms ⊢
    cases e
    obtain ⟨rfl, rfl, rfl, rfl, rfl, rfl, rfl, rfl, -⟩ := engine
    cases alarms
    rfl
  prog n := by
    obtain ⟨engine, -⟩ := d.handBack_granted (n := 0) blocks
    rw [engine.prog n]

theorem lineSample (d : Device) (n m : Ix8) (x : Sample) : d.PathsOnly (d.lineSample n m x).1 := by
  unfold Device.lineSample
  extract_lets r
  have stored : d.PathsOnly { d with mem := r.mem } := ⟨rfl, fun _ => rfl⟩
  exact (stored.trans (modProg n _ fun _ => rfl)).trans (handBack _ _)

theorem workMember (d : Device) (n : Ix8) (fade : Int) (m : Ix8 × Member) : d.PathsOnly (d.workMember n fade m) := by
  unfold Device.workMember
  extract_lets x a r
  have tapped : d.PathsOnly a := by
    change d.PathsOnly (if _ then _ else _)
    split_ifs
    · exact modProg n _ fun _ => rfl
    · exact refl d
  exact (tapped.trans (lineSample a n m.1 x)).trans (modProg n _ fun _ => rfl)

theorem foldl {α : Type} {g : Device → α → Device} (l : List α) (h : ∀ a, ∀ d : Device, d.PathsOnly (g d a))
    (d : Device) : d.PathsOnly (l.foldl g d) := by
  induction l generalizing d with
  | nil => exact refl d
  | cons a l ih => exact (h a d).trans (ih _)

theorem workProgramme (d : Device) (n : Ix8) : d.PathsOnly (d.workProgramme n) := by
  unfold Device.workProgramme
  extract_lets a b
  split_ifs
  · exact ((modProg n _ fun _ => rfl).trans (foldl _ (fun m e => workMember e n _ m) _)).trans (modProg n _ fun _ => rfl)
  · exact refl d

end Device.PathsOnly

/-! ## Checkers (R169 to R172) -/

/-- A checker after its house sample. -/
def Device.checked (d : Device) (i : Ix2) : Checker :=
  let c := d.checkers.get i
  c.watched.elim c fun w =>
    let b := receivedBit (d.emittedSample w.1 w.2)
    match c.state with
    | .idle => c
    | .hunt => c.huntBit b
    | .sync => (d.feederOf c).elim (c.syncBit b) fun n =>
        { c.syncBit b with delay := measure (d.prog n).gen.epochs (c.syncBit b).register d.time.h c.delay }

theorem Device.modChecker_self (d : Device) (i : Ix2) : (d.modChecker i fun _ => d.checkers.get i) = d := by
  have same : d.checkers.set i (d.checkers.get i) = d.checkers := by
    generalize d.checkers = o
    cases o
    fin_cases i <;> rfl
  rw [Device.modChecker, same]

theorem Device.checkSample_eq (d : Device) (i : Ix2) : d.checkSample i = d.modChecker i fun _ => d.checked i := by
  unfold Device.checkSample Device.checked
  dsimp only
  cases watched : (d.checkers.get i).watched with
  | none => exact (d.modChecker_self i).symm
  | some w =>
    dsimp only [Option.elim_some]
    cases state : (d.checkers.get i).state with
    | idle => exact (d.modChecker_self i).symm
    | hunt => rfl
    | sync =>
      have feeder (b : Bool) : d.feederOf ((d.checkers.get i).syncBit b) = d.feederOf (d.checkers.get i) := rfl
      unfold Device.modChecker
      dsimp only
      rw [feeder]
      cases d.feederOf (d.checkers.get i) <;> rfl

theorem checkers_eq (d : Device) :
    two.foldl Device.checkSample d = { d with checkers := ⟨d.checked 0, d.checked 1⟩ } := by
  change (d.checkSample 0).checkSample 1 = _
  rw [Device.checkSample_eq, Device.checkSample_eq]
  rfl

theorem Duo.get_mk {α : Type} (f : Ix2 → α) (i : Ix2) : (Duo.mk (f 0) (f 1)).get i = f i := by fin_cases i <;> rfl

/-! ## The work of a house sample (R7) -/

/-- What the work of a house sample leaves outside the paths of the programmes, `d` being the part that it finds. -/
structure Device.Worked (d e : Device) : Prop where
  time : e.time = d.time.advance
  record : ∀ n, (e.prog n).record = (d.prog n).record
  gen : ∀ n, (e.prog n).gen = (d.prog n).gen.sample d.time
  ctx : ∀ n, (e.prog n).ctx = d.counted n
  map : e.map = d.map
  link : e.link = d.link
  emitted : e.emitted = d.formed.head?
  formed : e.formed = d.formed.tail ++ [e.slotValues]
  checkers : ∀ i, e.checkers.get i = ({ e with time := d.time, checkers := d.checkers } : Device).checked i
  port : ∀ p, ¬ d.looped p ∨ d.emitted = none → e.port p = (d.port p).sampled.shift
  slip : ∀ p, ¬ d.looped p ∨ d.emitted = none → e.alarms.get (.slip p) = d.slippedRecord p
  looped : ∀ p q o, (d.port p).lane.enabled = true → (d.port p).lane.source = .loop q → d.emitted = some o →
    ∃ b : Device, b.port p = (d.port p).sampled.shift ∧ b.time = d.time.advance ∧
      e.port p = (b.told.arrive p (loopedInput (o.get q))).port p

theorem Port.sampled_lane (x : Port) : x.sampled.lane = x.lane := by
  unfold Port.sampled
  extract_lets y
  split_ifs <;> rfl

theorem Port.sampled_path (x : Port) : x.sampled.path = x.path := by
  unfold Port.sampled
  extract_lets y
  split_ifs <;> rfl

theorem Device.counted_congr {n : Ix8} (record : (e.prog n).record = (d.prog n).record) (ctx : (e.prog n).ctx = (d.prog n).ctx)
    (path : ∀ p, (e.port p).path = (d.port p).path) : e.counted n = d.counted n := by
  have arriving (q : Source) : e.arriving q = d.arriving q := by
    unfold Device.arriving
    rw [path]
  have quiet : e.allQuiet n = d.allQuiet n := by
    unfold Device.allQuiet Programme.currentSource
    dsimp only
    rw [record, ctx]
    simp only [arriving]
  unfold Device.counted
  rw [Device.active_congr record, record, ctx, quiet]

theorem Device.checked_congr {i : Ix2} (checkers : e.checkers = d.checkers) (emitted : e.emitted = d.emitted) (map : e.map = d.map)
    (h : e.time.h = d.time.h) (gen : ∀ n, (e.prog n).gen = (d.prog n).gen) : e.checked i = d.checked i := by
  unfold Device.checked Device.emittedSample Device.feederOf
  rw [checkers, emitted, map, h]
  simp only [gen]

theorem Device.slotValues_congr (map : e.map = d.map) (record : ∀ n, (e.prog n).record = (d.prog n).record)
    (stage : ∀ n, (e.prog n).stage = (d.prog n).stage) (gen : ∀ n, (e.prog n).gen = (d.prog n).gen) :
    e.slotValues = d.slotValues := by
  have slot (x : MapEntry) : e.slotOf x = d.slotOf x := by
    unfold Device.slotOf Device.sounding Device.inState
    simp only [record, stage, gen]
  unfold Device.slotValues
  simp only [slot, map]

/-- The work of a house sample up to the arrivals at the looped lanes. -/
structure Device.Laboured (d g : Device) : Prop where
  time : g.time = d.time.advance
  record : ∀ n, (g.prog n).record = (d.prog n).record
  gen : ∀ n, (g.prog n).gen = (d.prog n).gen.sample d.time
  ctx : ∀ n, (g.prog n).ctx = d.counted n
  map : g.map = d.map
  link : g.link = d.link
  emitted : g.emitted = d.formed.head?
  formed : g.formed = d.formed.tail ++ [g.slotValues]
  checkers : ∀ i, g.checkers.get i = ({ g with time := d.time, checkers := d.checkers } : Device).checked i
  port : ∀ p, g.port p = (d.port p).sampled.shift
  slip : ∀ p, g.alarms.get (.slip p) = d.slippedRecord p

/-- The part before the programmes work. -/
def Device.readied (d : Device) : Device :=
  forEight (forEight (forEight d fun e n => e.modGen n fun g => g.sample d.time) Device.convertSample) Device.countSample

/-- The part once the programmes have worked. -/
def Device.concluded (w : Device) : Device :=
  let f := two.foldl Device.checkSample w.shiftPaths.emit
  { f with time := f.time.advance }

theorem Device.work_eq (d : Device) :
    d.work = (forEight d.readied Device.workProgramme).concluded.loopedArrivals d.emitted := rfl

/-- What the generators, the converters and the contexts leave. -/
theorem Device.readied_spec (d : Device) :
    d.readied = { d with ports := d.readied.ports, alarms := d.readied.alarms, progs := d.readied.progs } ∧
    (∀ n, d.readied.prog n = { d.prog n with gen := (d.prog n).gen.sample d.time, ctx := d.counted n }) ∧
    (∀ p, d.readied.port p = (d.port p).sampled) ∧ ∀ p, d.readied.alarms.get (.slip p) = d.slippedRecord p := by
  have aEq := generators_eq d d.time
  obtain ⟨a, aDef⟩ : ∃ a, a = forEight d fun e n => e.modGen n fun g => g.sample d.time := ⟨_, rfl⟩
  rw [← aDef] at aEq
  obtain ⟨only, converted⟩ := converters_spec a
  obtain ⟨b, bDef⟩ : ∃ b, b = forEight a Device.convertSample := ⟨_, rfl⟩
  rw [← bDef] at only converted
  have whole : d.readied = b.reprog fun n => { b.prog n with ctx := b.counted n } := by
    rw [← contexts_eq b, bDef, aDef]
    rfl
  have aProg (n : Ix8) : a.prog n = { d.prog n with gen := (d.prog n).gen.sample d.time } := by
    rw [aEq, Device.reprog_prog]
  have aPort (p : Ix8) : a.port p = d.port p := by rw [aEq]; rfl
  have bProg (n : Ix8) : b.prog n = a.prog n := by rw [only.frame]; rfl
  have counted (n : Ix8) : b.counted n = d.counted n :=
    Device.counted_congr (by rw [bProg, aProg]) (by rw [bProg, aProg])
      fun p => by rw [(converted p).1, Port.sampled_path, aPort]
  rw [whole]
  refine ⟨?_, fun n => ?_, fun p => ?_, fun p => ?_⟩
  · rw [only.frame, aEq]
    rfl
  · rw [Device.reprog_prog, counted, bProg, aProg]
  · exact ((converted p).1).trans (by rw [aPort])
  · refine ((converted p).2).trans ?_
    unfold Device.slippedRecord
    rw [aPort, aEq]
    rfl

theorem Device.labour (d : Device) : d.Laboured (forEight d.readied Device.workProgramme).concluded := by
  obtain ⟨frame, prog, port, slip⟩ := d.readied_spec
  obtain ⟨c, cDef⟩ : ∃ c, c = d.readied := ⟨_, rfl⟩
  rw [← cDef] at frame prog port slip
  have paths : c.PathsOnly (forEight c Device.workProgramme) := .foldl eight (fun n e => Device.PathsOnly.workProgramme e n) c
  rw [← cDef]
  generalize forEight c Device.workProgramme = w at paths
  have fEq : w.concluded = { w.shiftPaths.emit with
      checkers := ⟨w.shiftPaths.emit.checked 0, w.shiftPaths.emit.checked 1⟩, time := w.time.advance } := by
    rw [Device.concluded, checkers_eq]
    rfl
  have wFrame : w = { d with
      ports := c.ports, alarms := c.alarms, progs := w.progs, pool := w.pool, mem := w.mem } := by
    rw [paths.frame, frame]
  have wProg (n : Ix8) : w.prog n = { d.prog n with
      gen := (d.prog n).gen.sample d.time, ctx := d.counted n
      delay := (w.prog n).delay, meter := (w.prog n).meter, gain := (w.prog n).gain, stage := (w.prog n).stage } := by
    rw [paths.prog, prog]
  have gProg (n : Ix8) : w.concluded.prog n = w.prog n := by rw [fEq]; rfl
  have values : w.concluded.slotValues = w.shiftPaths.slotValues :=
    Device.slotValues_congr (by rw [fEq]; rfl) (fun n => by rw [gProg]; rfl) (fun n => by rw [gProg]; rfl)
      fun n => by rw [gProg]; rfl
  refine ⟨?_, fun n => ?_, fun n => ?_, fun n => ?_, ?_, ?_, ?_, ?_, fun i => ?_, fun p => ?_, fun p => ?_⟩
  · rw [fEq, wFrame]
  · rw [gProg, wProg]
  · rw [gProg, wProg]
  · rw [gProg, wProg]
  · rw [fEq, wFrame]
    rfl
  · rw [fEq, wFrame]
    rfl
  · rw [fEq, wFrame]
    rfl
  · rw [values, fEq, wFrame]
    rfl
  · have own : w.concluded.checkers.get i = w.shiftPaths.emit.checked i := by
      rw [fEq]
      exact Duo.get_mk w.shiftPaths.emit.checked i
    rw [own]
    refine Device.checked_congr ?_ ?_ ?_ ?_ fun n => ?_
    · rw [wFrame]
      rfl
    · rw [fEq]
    · rw [fEq]
    · rw [wFrame]
      rfl
    · exact (congrArg Programme.gen (gProg n)).symm
  · rw [fEq]
    refine (Oct.get_map _ _ _).trans (congrArg Port.shift ?_)
    rw [wFrame]
    exact port p
  · rw [fEq, wFrame]
    exact slip p

theorem Device.work_worked (d : Device) : d.Worked d.work := by
  have done := d.labour
  obtain ⟨g, gDef⟩ : ∃ g, g = (forEight d.readied Device.workProgramme).concluded := ⟨_, rfl⟩
  rw [Device.work_eq, ← gDef]
  rw [← gDef] at done
  have arrivals := g.loopedArrivals_in d.emitted
  have prog (n : Ix8) := arrivals.prog n
  have unlooped (p : Ix8) (h : ¬ d.looped p ∨ d.emitted = none) : (g.loopedArrivals d.emitted).port p = g.port p ∧
      (g.loopedArrivals d.emitted).alarms.get (.slip p) = g.alarms.get (.slip p) := by
    rcases h with h | h
    · have still : ¬ g.looped p := by
        unfold Device.looped at h ⊢
        rw [done.port]
        exact fun x => h (by rw [← Port.sampled_lane]; exact x)
      exact ⟨arrivals.port p still, arrivals.slip p still⟩
    · rw [h]
      exact ⟨rfl, rfl⟩
  refine ⟨?_, fun n => ?_, fun n => ?_, fun n => ?_, ?_, ?_, ?_, ?_, fun i => ?_, fun p h => ?_, fun p h => ?_,
    fun p q o enabled source emitted => ?_⟩
  · rw [arrivals.frame, done.time]
  · rw [prog, done.record]
  · rw [prog, done.gen]
  · rw [prog, done.ctx]
  · rw [arrivals.frame, done.map]
  · rw [arrivals.frame, done.link]
  · rw [arrivals.frame, done.emitted]
  · rw [Device.slotValues_congr (d := g) (by rw [arrivals.frame]) (fun n => by rw [prog]) (fun n => by rw [prog])
      fun n => by rw [prog], ← done.formed]
    rw [arrivals.frame]
  · have checkers : (g.loopedArrivals d.emitted).checkers = g.checkers := by rw [arrivals.frame]
    rw [checkers, done.checkers]
    refine Device.checked_congr rfl ?_ ?_ rfl fun n => ?_
    · rw [arrivals.frame]
    · rw [arrivals.frame]
    · exact (congrArg Programme.gen (prog n)).symm
  · rw [(unlooped p h).1, done.port]
  · rw [(unlooped p h).2, done.slip]
  · rw [emitted]
    have lane : (g.port p).lane = (d.port p).lane := by
      rw [done.port]
      exact Port.sampled_lane _
    obtain ⟨b, within, same, there⟩ := g.loopedArrivals_at o (p := p) (q := q) (by rw [lane]; exact enabled)
      (by rw [lane]; exact source)
    refine ⟨b, same.trans (done.port p), ?_, there⟩
    rw [within.frame, done.time]

end Sys2Proof.Machine
end

section
/-!
The house sample: generators, checkers and contexts (O35).
-/

namespace Sys2Proof.Machine

theorem Timebase.makes_of_takes {t : Timebase} {pace : Pace} (h : t.takes pace) : t.makes pace = true := by
  obtain ⟨x, ⟨rfl, long, free⟩ | ⟨rfl, long⟩ | ⟨rfl, half, external⟩⟩ := h
  · unfold Timebase.makes
    cases state : t.state with
    | internal => exact decide_eq_true long
    | holding => exact decide_eq_true long
    | external =>
      have paced : t.oscillatorPaced = true := free.resolve_left fun h => h state
      simp [paced, long]
  · unfold Timebase.makes
    cases state : t.state with
    | internal => exact decide_eq_true (by omega)
    | holding => exact decide_eq_true (by omega)
    | external => simp [long]
  · unfold Timebase.makes
    rw [external]
    exact decide_eq_true half

theorem Device.restartPerformed_idle {d : Device} (h : d.link.restart ≠ .due) : d.restartPerformed = d := if_neg h

/-- A pace that makes a house sample does its work in the part that everything due before it leaves. -/
theorem exec_houseSample {s : State} {pace : Pace} (idle : s.dev.link.restart ≠ .due) (takes : s.dev.time.takes pace) :
    exec (.houseSample pace) s = .next { s with dev := (s.dev.opened pace).work } := by
  have step : s.dev.houseSample pace = (s.dev.opened pace).work := by
    rw [Device.houseSample, Device.restartPerformed_idle idle, Device.pace, Timebase.makes_of_takes takes]
    exact if_pos rfl
  rw [← step]
  exact (rfl : s.update (fun d => d.houseSample pace) = _)

theorem Device.arriving_eq (d : Device) (q : Source) : d.arriving q = ((d.port q.port).path.headD ⟨0, 0, 0, 0⟩).get q.slot := by
  unfold Device.arriving
  cases (d.port q.port).path with
  | nil => exact (Quad.get_fill (0 : Sample) q.slot).symm
  | cons x l => rfl

theorem Device.allQuiet_iff (d : Device) (n : Ix8) : d.allQuiet n = true ↔
    ∀ z ∈ (d.prog n).record.members, z.backup ≠ none →
      (((d.port (z.on (d.prog n).ctx.selection).port).path.headD ⟨0, 0, 0, 0⟩).get
        (z.on (d.prog n).ctx.selection).slot).toInt.natAbs < (d.prog n).ctx.gapThreshold := by
  unfold Device.allQuiet
  rw [List.all_eq_true]
  refine forall₂_congr fun z _ => ?_
  rw [Bool.or_eq_true, Bool.not_eq_true', Member.watched, Option.isSome_eq_false_iff, Option.isNone_iff_eq_none,
    Device.arriving_eq, Programme.currentSource, ← Member.on_eq, quietSample, decide_eq_true_eq]
  exact or_iff_not_imp_left

/-- The generators of a house sample (R165, R167). -/
theorem Generator.sample_spec (g : Generator) (t : Timebase) :
    let r := (g.register <<< 1) ||| (if (g.register.getLsbD 22 ^^ g.register.getLsbD 17) = true then 1 else 0)
    (g.on = false → g.sample t = g) ∧
    (g.on = true → g.sample t = { g with
      register := r
      epochs := if t.boundary = .taken ∧ t.h.toNat % 48000 = 0 then (g.epochs ++ [(t.h, r)]).drop (g.epochs.length + 1 - 16)
        else g.epochs }) := by
  intro r
  unfold Generator.sample
  refine ⟨fun off => by rw [off]; rfl, fun on => ?_⟩
  have second : t.onSecondBoundary = true ↔ t.boundary = .taken ∧ t.h.toNat % 48000 = 0 := by
    rw [Timebase.onSecondBoundary, Bool.and_eq_true, beq_iff_eq, onSecond_iff]
  rw [if_pos on]
  by_cases at_ : t.boundary = .taken ∧ t.h.toNat % 48000 = 0
  · rw [if_pos at_, second.2 at_]
    rfl
  · rw [if_neg at_, Bool.eq_false_of_not_eq_true fun h => at_ (second.1 h)]
    rfl

/-- The counts of a context in a house sample (R64 to R66). -/
theorem Context.count_spec (c : Context) (o : Settings) (quiet : Bool) :
    let u := c.count o quiet
    u = { c with
      quiet := u.quiet, startDue := u.startDue
      holdTimer := if c.state = .pending then min (c.holdTimer + 1) 480000 else c.holdTimer
      fadeStep := if c.state = .fading then min (c.fadeStep + 1) 480 else c.fadeStep
      fadeFlag := if c.state = .fading then true else c.fadeFlag } ∧
    (quiet = true → u.quiet = min (c.quiet + 1) 960) ∧ (quiet = false → u.quiet = 0) := by
  unfold Context.count
  cases state : c.state <;> cases quiet <;> simp

/-! ## A checker (R169 to R172) -/

theorem Device.checked_idle {d : Device} {i : Ix2} (h : (d.checkers.get i).state = .idle ∨ (d.checkers.get i).watched = none) :
    d.checked i = d.checkers.get i := by
  unfold Device.checked
  dsimp only
  rcases h with h | h
  · rw [h]
    cases (d.checkers.get i).watched <;> rfl
  · rw [h]
    rfl

theorem Device.checked_hunt {d : Device} {i : Ix2} {q : Ix8} {k : Ix4} (hunt : (d.checkers.get i).state = .hunt)
    (watched : (d.checkers.get i).watched = some (q, k)) :
    d.checked i = (d.checkers.get i).huntBit (receivedBit (d.emittedSample q k)) := by
  unfold Device.checked
  dsimp only
  rw [watched, hunt]
  rfl

theorem Device.checked_sync {d : Device} {i : Ix2} {q : Ix8} {k : Ix4} (sync : (d.checkers.get i).state = .sync)
    (watched : (d.checkers.get i).watched = some (q, k)) :
    d.checked i = { (d.checkers.get i).syncBit (receivedBit (d.emittedSample q k)) with
      delay := ((d.map.get q).get k).feeder.elim (d.checkers.get i).delay fun n =>
        measure (d.prog n).gen.epochs (shiftIn (d.checkers.get i).register (nextBit (d.checkers.get i).register))
          d.time.h (d.checkers.get i).delay } := by
  have feeder : d.feederOf (d.checkers.get i) = ((d.map.get q).get k).feeder := by
    unfold Device.feederOf
    rw [watched]
    rfl
  unfold Device.checked
  dsimp only
  rw [watched, sync, Option.elim_some]
  dsimp only
  rw [feeder]
  cases ((d.map.get q).get k).feeder <;> rfl

theorem Device.emittedSample_eq (d : Device) (q : Ix8) (k : Ix4) : d.emittedSample q k =
    (((d.emitted.getD (Oct.fill (Quad.fill ⟨0, false⟩))).get q).get k).sample := by
  unfold Device.emittedSample
  cases d.emitted with
  | none => exact (by rw [Option.getD_none, Oct.get_fill, Quad.get_fill])
  | some f => rfl

/-- A checker in a house sample, as R169 to R172 give it. -/
theorem Device.Worked.checker {e u : Device} (done : e.Worked u) (i : Ix2) :
    let c := e.checkers.get i
    let next := fun (r : SeqReg) => r.getLsbD 22 ^^ r.getLsbD 17
    let push := fun (r : SeqReg) (b : Bool) => (r <<< 1) ||| (if b = true then 1 else 0)
    (c.state = .idle ∨ c.watched = none → u.checkers.get i = c) ∧
    ∀ q k, c.watched = some (q, k) →
      let b := decide (0 < (((e.formed.head?.getD (Oct.fill (Quad.fill ⟨0, false⟩))).get q).get k).sample.toInt)
      let p := next c.register
      (c.state = .hunt → c.loadCount < 23 →
        u.checkers.get i = { c with register := push c.register b, loadCount := c.loadCount + 1 }) ∧
      (c.state = .hunt → 23 ≤ c.loadCount →
        u.checkers.get i = { c with
          register := push c.register b
          correctRun := if b = p ∧ c.register ≠ 0 then min (c.correctRun + 1) 48 else 0 }) ∧
      (c.state = .sync →
        u.checkers.get i = { c with
          register := push c.register p
          window := (c.window ++ [b != p]).drop (c.window.length + 1 - 48)
          errors := if b = p then c.errors else addSat c.errors 1
          delay := match ((e.map.get q).get k).feeder with
            | none => c.delay
            | some n =>
              match (u.prog n).gen.epochs.find? fun z => z.2 == push c.register p with
              | some z => some (e.time.h - z.1)
              | none => c.delay }) := by
  intro c next push
  have own := done.checkers i
  obtain ⟨d, dDef⟩ : ∃ d, d = ({ u with time := e.time, checkers := e.checkers } : Device) := ⟨_, rfl⟩
  rw [← dDef] at own
  have checker : d.checkers.get i = c := by rw [dDef]
  have now : d.time.h = e.time.h := by rw [dDef]
  have map : d.map = e.map := by rw [dDef]; exact done.map
  have emitted : d.emitted = e.formed.head? := by rw [dDef]; exact done.emitted
  have prog (n : Ix8) : d.prog n = u.prog n := by rw [dDef]; rfl
  refine ⟨fun rests => ?_, ?_⟩
  · rw [own, Device.checked_idle (by rw [checker]; exact rests), checker]
  · intro q k watched b p
    have bit : receivedBit (d.emittedSample q k) = b := by
      rw [Device.emittedSample_eq, emitted]
      rfl
    refine ⟨fun hunt few => ?_, fun hunt full => ?_, fun sync => ?_⟩
    · rw [own, Device.checked_hunt (by rw [checker]; exact hunt) (by rw [checker]; exact watched), checker, bit]
      exact if_pos few
    · rw [own, Device.checked_hunt (by rw [checker]; exact hunt) (by rw [checker]; exact watched), checker, bit]
      exact if_neg (not_lt.2 full)
    · rw [own, Device.checked_sync (by rw [checker]; exact sync) (by rw [checker]; exact watched), checker, bit, map, now]
      simp only [prog]
      cases ((e.map.get q).get k).feeder <;> rfl

/-- Settles O35: the generators, the checkers and the contexts of a house sample. -/
theorem houseSampleStepsGeneratorsCheckersAndContexts : Obligations.HouseSampleStepsGeneratorsCheckersAndContexts := by
  intro s pace idle takes e h next push
  have done := e.work_worked
  refine ⟨_, exec_houseSample idle takes, fun n => ?_, fun i => ?_, ?_⟩
  · rw [done.gen]
    exact (e.prog n).gen.sample_spec e.time
  · exact done.checker i
  · intro n x quiet c
    have count : c = e.counted n := done.ctx n
    have activeIff : e.active n = true ↔ x.record.state = .active := Device.active_iff
    refine ⟨fun rests => count.trans (if_neg fun h => rests (activeIff.1 h)), fun state => ?_⟩
    have counted : c = x.ctx.count x.record.settings (e.allQuiet n) := count.trans (if_pos (activeIff.2 state))
    obtain ⟨frame, rises, falls⟩ := x.ctx.count_spec x.record.settings (e.allQuiet n)
    have due := x.ctx.count_startDue x.record.settings (e.allQuiet n)
    have kept := x.ctx.count_startDue_other x.record.settings (e.allQuiet n)
    rw [← counted] at frame rises falls due kept
    exact ⟨frame, fun h => rises ((e.allQuiet_iff n).2 h),
      fun h => falls (Bool.eq_false_of_not_eq_true fun t => h ((e.allQuiet_iff n).1 t)), kept, due⟩

end Sys2Proof.Machine
end

section
/-!
The house sample: H, the second count, the frames formed and emitted, and the paces that make none (O32).
-/

namespace Sys2Proof.Machine

variable {d e f : Device}

/-! ## What keeps the timebase, the map and the frames -/

/-- The timebase, the map, the frames formed and emitted and the traffic of the link are as they were. -/
structure Device.Steady (d e : Device) : Prop where
  time : e.time = d.time
  map : e.map = d.map
  formed : e.formed = d.formed
  emitted : e.emitted = d.emitted
  traffic : d.SameTraffic e

namespace Device.Steady

theorem refl (d : Device) : d.Steady d := ⟨rfl, rfl, rfl, rfl, .refl d⟩

theorem trans (h : d.Steady e) (k : e.Steady f) : d.Steady f :=
  ⟨k.time.trans h.time, k.map.trans h.map, k.formed.trans h.formed, k.emitted.trans h.emitted, h.traffic.trans k.traffic⟩

theorem engine (h : d.EngineOnly e) : d.Steady e := ⟨h.time, h.map, h.formed, h.emitted, .engine h⟩

theorem told (h : d.Steady e) : d.Steady e.told := h.trans (engine e.told_engine)

theorem ite {c : Prop} [Decidable c] (h : d.Steady e) (k : d.Steady f) : d.Steady (if c then e else f) := by
  split
  · exact h
  · exact k

theorem iteSelf {c : Prop} [Decidable c] (h : d.Steady e) : d.Steady (if c then e else d) := ite h (refl d)

theorem foldl {α : Type} {g : Device → α → Device} (l : List α) (h : ∀ a, ∀ d : Device, d.Steady (g d a)) (d : Device) :
    d.Steady (l.foldl g d) := by
  induction l generalizing d with
  | nil => exact refl d
  | cons a l ih => exact (h a d).trans (ih _)

theorem forEight {g : Device → Ix8 → Device} (h : ∀ n, ∀ d : Device, d.Steady (g d n)) (d : Device) :
    d.Steady (forEight d g) := foldl eight h d

theorem forMembers {f : Device → Ix8 → Ix8 → Device} (h : ∀ (d : Device) n m, d.Steady (f d n m)) (d : Device) :
    d.Steady (forMembers d f) := forEight (fun _ a => forEight (fun _ b => h b _ _) a) d

theorem portsIn {S : Ix8 → Prop} (h : d.PortsIn S e) : d.Steady e := by
  refine ⟨?_, ?_, ?_, ?_, .same ?_⟩ <;> rw [h.frame]

theorem modProg (n : Ix8) (g : Programme → Programme) : d.Steady (d.modProg n g) := ⟨rfl, rfl, rfl, rfl, .same rfl⟩

theorem modPort (p : Ix8) (g : Port → Port) : d.Steady (d.modPort p g) := ⟨rfl, rfl, rfl, rfl, .same rfl⟩

theorem modAlarms (g : AlarmUnit → AlarmUnit) : d.Steady (d.modAlarms g) := ⟨rfl, rfl, rfl, rfl, .same rfl⟩

theorem modChecker (i : Ix2) (g : Checker → Checker) : d.Steady (d.modChecker i g) := ⟨rfl, rfl, rfl, rfl, .same rfl⟩

theorem reviseReports (d : Device) : d.Steady d.reviseReports := ⟨rfl, rfl, rfl, rfl, d.reviseReports_traffic⟩

/-! ### What the rules bring about at once -/

theorem settleCheckers (d : Device) : d.Steady d.settleCheckers := by
  refine foldl two (fun i e => ?_) d
  have sync : e.Steady (e.checkerSync i) := iteSelf ((modChecker i _).trans (modAlarms _))
  have loss (e : Device) : e.Steady (e.checkerLoss i) := iteSelf ((modChecker i _).trans (modAlarms _))
  exact sync.trans (loss _)

theorem activationTests (d : Device) (k : Qualified) (i : Ix8) : d.Steady (d.activationTests k i) := by
  have test (e : Device) (n : Ix8) : e.Steady (e.autoTest n) := iteSelf (modProg n _)
  cases k with
  | unlock => exact forEight (fun n e => iteSelf (test e n)) d
  | silence => exact test d i
  | loudHigh => exact refl d
  | loudLow => exact refl d

theorem finishTimers (d : Device) : d.Steady d.finishTimers := by
  refine foldl allQualified (fun k e => forEight (fun i g => ?_) e) d
  have set : g.Steady (g.setTimerExpiry k i) :=
    iteSelf (((modAlarms _).trans (activationTests _ k i)).trans (reviseReports _))
  have clear (e : Device) : e.Steady (e.clearTimerExpiry k i) := iteSelf (modAlarms _)
  exact set.trans (clear _)

theorem finish (d : Device) : d.Steady d.finish := by
  refine told (((settleCheckers d).trans (finishTimers _)).trans (forEight (fun n e => ?_) _))
  exact iteSelf (ite ((modProg n _).trans (reviseReports _)) (modProg n _))

/-! ### The events due before a house sample -/

theorem settlePort (d : Device) (p : Ix8) : d.Steady (d.settlePort p) := by
  have arrival : d.Steady (d.settleArrival p) := portsIn (S := (· = p)) (.settleArrival rfl)
  have dark (e : Device) : e.Steady (e.laneDark p) := portsIn (S := (· = p)) (.laneDark rfl)
  exact ((arrival.trans (modPort p _)).trans (modPort p _)).trans (dark _)

theorem crossfadeCompletion (d : Device) (n : Ix8) : d.Steady (d.crossfadeCompletion n) := by
  unfold Device.crossfadeCompletion
  extract_lets x
  split
  · exact refl d
  · refine iteSelf ?_
    extract_lets g
    exact (((modProg n _).trans (modAlarms _)).trans (engine (Device.trigger_engine _ n _ _))).trans (modProg n _)

theorem settleLines (d : Device) : d.Steady d.settleLines := by
  unfold Device.settleLines
  extract_lets a b c g h
  have one : d.Steady a := forMembers (fun e n m => told (engine (e.slewAction_engine n m))) d
  have two : a.Steady b := forEight (fun n e => told (engine (e.fadeOutEnd_engine n))) a
  have three : b.Steady c := forMembers (fun e n m => engine (e.freezeEnd_engine n m)) b
  have four : c.Steady g :=
    (forEight (fun n e => engine (e.gapEnd_engine n)) c).trans (forEight (fun n e => told (engine (e.fadeInEnd_engine n))) _)
  have five : g.Steady h := forEight (fun n e => told (iteSelf ((engine (e.clearDelay_engine n)).trans (modProg n _)))) g
  have applied (e : Device) (n m : Ix8) : e.Steady (e.appliedGainRampEnd n m) := modProg n _
  have trim (n : Ix8) (e : Device) : e.Steady (e.trimRampEnd n) := modProg n _
  have six : h.Steady (Machine.forEight (Machine.forMembers h Device.appliedGainRampEnd) Device.trimRampEnd) :=
    (forMembers applied h).trans (forEight trim _)
  exact ((((one.trans two).trans three).trans four).trans five).trans six

end Device.Steady

/-! ## Requests taken on the way -/

/-- H, the second count, the boundary and the frames are as they were; and with no frame that the executor could take,
so it stays, and the map is as it was. -/
structure Device.Beats (d e : Device) : Prop where
  h : e.time.h = d.time.h
  seconds : e.time.seconds = d.time.seconds
  boundary : e.time.boundary = d.time.boundary
  formed : e.formed = d.formed
  emitted : e.emitted = d.emitted
  served : d.linkServed → e.linkServed ∧ e.map = d.map

theorem Device.SameTraffic.served (h : d.SameTraffic e) (k : d.linkServed) : e.linkServed := by
  unfold Device.linkServed at k ⊢
  rw [h.queue, h.line, h.restart, h.ready]
  exact k

theorem Device.Steady.beats (h : d.Steady e) : d.Beats e :=
  ⟨by rw [h.time], by rw [h.time], by rw [h.time], h.formed, h.emitted, fun k => ⟨h.traffic.served k, h.map⟩⟩

theorem Device.Beats.trans (h : d.Beats e) (k : e.Beats f) : d.Beats f :=
  ⟨k.h.trans h.h, k.seconds.trans h.seconds, k.boundary.trans h.boundary, k.formed.trans h.formed,
    k.emitted.trans h.emitted, fun s => by
      obtain ⟨first, map⟩ := h.served s
      obtain ⟨second, map'⟩ := k.served first
      exact ⟨second, map'.trans map⟩⟩

theorem Device.arbitrate_beats (d : Device) : d.Beats d.arbitrate := by
  unfold Device.arbitrate
  by_cases busy : d.link.line.isSome = true ∨ d.link.restart = .due
  · rw [if_pos busy]
    exact (Device.Steady.refl d).beats
  · rw [if_neg busy]
    have empty (h : d.linkServed) : d.link.queue = [] :=
      h.resolve_right fun h => busy (h.imp_left fun h => h.1)
    split
    · exact ⟨rfl, rfl, rfl, rfl, rfl, fun h => ⟨.inl (empty h), rfl⟩⟩
    · split
      · exact ⟨rfl, rfl, rfl, rfl, rfl, fun h => ⟨.inl (empty h), rfl⟩⟩
      · split
        · exact ⟨rfl, rfl, rfl, rfl, rfl, fun h => ⟨.inl (empty h), rfl⟩⟩
        · exact (Device.Steady.refl d).beats

theorem Device.execute_beats (d : Device) : d.Beats d.execute := by
  by_cases served : d.linkServed
  · rw [d.execute_served served]
    exact (Device.Steady.refl d).beats
  · unfold Device.execute
    split
    · exact (Device.Steady.refl d).beats
    · next body rest queue =>
      split_ifs
      · have frame := (d.modLink fun l => { l with queue := rest }).performBody_frame body
        exact ⟨frame.h, frame.seconds, frame.boundary, frame.formed, frame.emitted, fun h => absurd h served⟩
      · exact (Device.Steady.refl d).beats

theorem Device.catchUp_beats (d : Device) : d.Beats d.catchUp :=
  ((Device.Steady.finish d).beats.trans (Device.arbitrate_beats _)).trans (Device.execute_beats _)

theorem Device.settle_beats (d : Device) : d.Beats d.settle := by
  unfold Device.settle
  extract_lets a b
  have one : d.Beats a := d.catchUp_beats.trans (Device.Steady.forEight (fun p e => .settlePort e p) _).beats
  have two : a.Beats b := ((Device.Steady.forEight (fun n e => .told (.crossfadeCompletion e n)) a).trans (.settleLines _)).beats
  have three := (Device.Steady.forEight (g := Device.crossfadeStart) (fun n e => .iteSelf (.modProg n _)) b).beats
  exact ((one.trans two).trans three).trans (Device.catchUp_beats _)

theorem Device.takeBoundary_eq (d : Device) : d.takeBoundary = d.taken.closeSubBlock := by
  unfold Device.takeBoundary Device.taken
  rfl

/-- H stays over a boundary that is taken, with its second, and over what settles after it (R8). -/
theorem Device.Beats.taken {t : Device} (first : d.Beats e) (due : d.time.boundary = .due) (closed : e.taken.Closed t)
    (traffic : e.SameTraffic t) :
    t.settle.time.h = d.time.h ∧
      t.settle.time.seconds = (if d.time.boundary = .due ∧ d.time.h.toNat % 48000 = 0 then d.time.seconds + 1
        else d.time.seconds) ∧
      t.settle.formed = d.formed ∧ t.settle.emitted = d.emitted ∧ (d.linkServed → t.settle.map = d.map) := by
  have time : t.time = e.time.take := by rw [closed.frame]; rfl
  have formed : t.formed = e.formed := by rw [closed.frame]; rfl
  have emitted : t.emitted = e.emitted := by rw [closed.frame]; rfl
  have map : t.map = e.map := by rw [closed.frame]; rfl
  have second := t.settle_beats
  refine ⟨?_, ?_, ?_, ?_, fun served => ?_⟩
  · rw [second.h, time, Timebase.take_h, first.h]
  · rw [second.seconds, time, Timebase.take_seconds, first.h, first.seconds]
    simp only [onSecond_iff, due, true_and]
  · rw [second.formed, formed, first.formed]
  · rw [second.emitted, emitted, first.emitted]
  · obtain ⟨still, same⟩ := first.served served
    rw [(second.served (traffic.served still)).2, map, same]

/-- What is done before a house sample: H stays, and a boundary that is due is taken, with its second (R8). -/
theorem Device.prepare_spec (d : Device) :
    d.prepare.time.h = d.time.h ∧
      d.prepare.time.seconds = (if d.time.boundary = .due ∧ d.time.h.toNat % 48000 = 0 then d.time.seconds + 1
        else d.time.seconds) ∧
      d.prepare.formed = d.formed ∧ d.prepare.emitted = d.emitted ∧
      (d.linkServed → d.prepare.map = d.map) := by
  have first := d.settle_beats
  have steps : d.prepare = if d.settle.boundaryDue = true then d.settle.takeBoundary.settle else d.settle := rfl
  rw [steps]
  by_cases due : d.time.boundary = .due
  · rw [if_pos (d.settle.boundaryDue_iff.2 (first.boundary.trans due))]
    exact first.taken due (Device.takeBoundary_eq _ ▸ d.settle.taken.closeSubBlock_closed) d.settle.takeBoundary_traffic
  · have step : ¬ d.settle.boundaryDue = true := fun h => due (first.boundary.symm.trans (d.settle.boundaryDue_iff.1 h))
    rw [if_neg step, if_neg fun h => due h.1]
    exact ⟨first.h, first.seconds, first.formed, first.emitted, fun h => (first.served h).2⟩

/-! ## Paces (R5, R6) -/

theorem Timebase.makes_refEdge_false {t : Timebase} {x : Nat} (h : t.state ≠ .external ∨ x < 500) :
    t.makes (.refEdge x) = false := by
  unfold Timebase.makes
  cases state : t.state with
  | internal => rfl
  | holding => rfl
  | external => exact decide_eq_false (not_le.2 (h.resolve_left fun h => h state))

theorem Timebase.makes_oscillator_false {t : Timebase} {x : Nat}
    (h : (t.state = .external ∧ x < 1500 ∧ (t.oscillatorPaced = false ∨ x < 1000)) ∨ (t.state ≠ .external ∧ x < 1000)) :
    t.makes (.oscillator x) = false := by
  unfold Timebase.makes
  cases state : t.state with
  | internal => exact decide_eq_false (not_le.2 (h.resolve_left fun h => nomatch state.symm.trans h.1).2)
  | holding => exact decide_eq_false (not_le.2 (h.resolve_left fun h => nomatch state.symm.trans h.1).2)
  | external =>
    obtain ⟨-, early, unpaced⟩ := h.resolve_right fun h => h.1 state
    rw [Bool.or_eq_false_iff, Bool.and_eq_false_iff]
    exact ⟨decide_eq_false (not_le.2 early), unpaced.imp_right fun h => decide_eq_false (not_le.2 h)⟩

theorem Timebase.paced_same (t : Timebase) (pace : Pace) (made : Bool) :
    (t.paced pace made).h = t.h ∧ (t.paced pace made).seconds = t.seconds ∧ (t.paced pace made).boundary = t.boundary := by
  cases pace <;> exact ⟨rfl, rfl, rfl⟩

theorem exec_houseSample_ignored {s : State} {pace : Pace} (idle : s.dev.link.restart ≠ .due)
    (ignored : s.dev.time.makes pace = false) :
    exec (.houseSample pace) s = .next { s with dev := { s.dev with time := s.dev.time.paced pace false } } := by
  have step : s.dev.houseSample pace = { s.dev with time := s.dev.time.paced pace false } := by
    rw [Device.houseSample, Device.restartPerformed_idle idle, Device.pace, ignored]
    exact if_neg Bool.false_ne_true
  rw [← step]
  exact (rfl : s.update (fun d => d.houseSample pace) = _)

theorem Device.restarted_restart (d : Device) : d.restarted.link.restart = .none := by
  unfold Device.restarted
  rw [Device.raiseRefLoss_link]
  rfl

/-- The restart that is due comes first (R190, log 16). -/
theorem Device.houseSample_restart (d : Device) (due : d.link.restart = .due) (pace : Pace) :
    d.houseSample pace = d.restarted.houseSample pace := by
  have first : d.restartPerformed = d.restarted := if_pos due
  have second : d.restarted.restartPerformed = d.restarted :=
    Device.restartPerformed_idle (by rw [d.restarted_restart]; nofun)
  rw [Device.houseSample, Device.houseSample, first, second]

/-- What the work of a house sample finds, everything due before it being done. -/
theorem Device.opened_spec (d : Device) (pace : Pace) :
    (d.opened pace).time.h = d.time.h ∧
      (d.opened pace).time.seconds = (if d.time.boundary = .due ∧ d.time.h.toNat % 48000 = 0 then d.time.seconds + 1
        else d.time.seconds) ∧
      (d.opened pace).formed = d.formed ∧ (d.opened pace).emitted = d.emitted ∧
      (d.linkServed → (d.opened pace).map = d.map) := by
  obtain ⟨paceH, paceSeconds, paceBoundary⟩ := d.time.paced_same pace true
  obtain ⟨h, seconds, rest⟩ := ({ d with time := d.time.paced pace true } : Device).prepare_spec
  unfold Device.opened
  dsimp only at h seconds
  rw [paceH] at h
  rw [paceH, paceSeconds, paceBoundary] at seconds
  exact ⟨h, seconds, rest⟩

/-! ## The slot values (R139, R142) -/

theorem Generator.output_eq (g : Generator) :
    g.output = saturate (if g.register.getLsbD 0 = true then (g.amplitude : Int) else -(g.amplitude : Int)) := by
  unfold Generator.output
  split_ifs <;> rfl

theorem Device.sounding_iff (d : Device) (n : Ix8) : d.sounding n = true ↔
    (d.prog n).record.state = .active ∨ (d.prog n).record.state = .stopping := by
  unfold Device.sounding Device.inState
  rw [Bool.or_eq_true, beq_iff_eq, beq_iff_eq]

theorem Device.slotValues_get (d : Device) (q : Ix8) (k : Ix4) :
    (d.slotValues.get q).get k = match (d.map.get q).get k with
      | .silence => { sample := 0, valid := false }
      | .member n m =>
        { sample :=
            if (d.prog n).record.state = .active ∨ (d.prog n).record.state = .stopping then
              ((d.prog n).stage.members.get m).out
            else 0
          valid := true }
      | .test n =>
        { sample :=
            if (d.prog n).gen.on = true then
              saturate (if (d.prog n).gen.register.getLsbD 0 = true then ((d.prog n).gen.amplitude : Int)
                else -((d.prog n).gen.amplitude : Int))
            else 0
          valid := true } := by
  unfold Device.slotValues
  rw [Oct.get_ofFn, Quad.get_ofFn]
  cases (d.map.get q).get k with
  | silence => rfl
  | member n m =>
    unfold Device.slotOf
    simp only [Device.sounding_iff]
  | test n =>
    unfold Device.slotOf
    simp only [Generator.output_eq]

/-- Settles O32: the restart due, the paces ignored, and the house sample made. -/
theorem houseSampleAdvancesHOrIsIgnored : Obligations.HouseSampleAdvancesHOrIsIgnored := by
  intro s t counted
  refine ⟨fun due pace => ⟨{ s with dev := s.dev.restarted }, ?_, ?_⟩, fun idle x ignored => ?_, fun idle x ignored => ?_,
    fun idle pace takes => ⟨_, exec_houseSample idle takes, ?_⟩⟩
  · have step : s.dev.restartPerformed = s.dev.restarted := if_pos due
    rw [← step]
    exact (rfl : s.update Device.restartPerformed = _)
  · change s.update (fun d => d.houseSample pace) = State.update _ fun d => d.houseSample pace
    unfold State.update
    dsimp only
    rw [s.dev.houseSample_restart due]
  · exact exec_houseSample_ignored idle (Timebase.makes_refEdge_false ignored)
  · exact exec_houseSample_ignored idle (Timebase.makes_oscillator_false ignored)
  · obtain ⟨h, seconds, formed, -, map⟩ := s.dev.opened_spec pace
    have done := (s.dev.opened pace).work_worked
    generalize (s.dev.opened pace) = e at h seconds formed map done
    generalize e.work = d at done
    refine ⟨?_, ?_, ?_, ?_, ?_, ?_, fun served => ?_, d.slotValues, ?_, fun q k => ?_⟩
    · rw [done.time, Timebase.advance_h, h]
    · rw [done.time, Timebase.advance_boundary, h]
      simp only [onSubBlock_iff]
      rfl
    · rw [done.time, Timebase.advance_seconds, seconds]
    · rw [done.emitted, formed]
    · rw [done.formed, formed, List.length_append]
      rfl
    · rw [done.formed, formed, List.take_left]
    · rw [done.map]
      exact map served
    · rw [done.formed, List.getLast?_append]
      rfl
    · exact d.slotValues_get q k

end Sys2Proof.Machine
end

section
/-!
The house sample: the converters, their slips and the looped arrivals (O33).
-/

namespace Sys2Proof.Machine

/-! ## A port in a house sample -/

theorem Converter.sample_output_slipped (c : Converter) : c.slipped.output = c.output := rfl

/-- The converter that a house sample leaves. -/
def Converter.worked (c : Converter) : Converter := if c.underruns then c.sample.slipped else c.sample

theorem Converter.worked_output (c : Converter) : c.worked.output = c.sample.output := by
  unfold Converter.worked
  split_ifs <;> rfl

theorem Port.sampled_eq (x : Port) : x.sampled = { x with
    conv := x.conv.worked, peaks := Quad.ofFn fun k => max (x.peaks.get k) (magnitude (x.conv.worked.output.get k)) } := by
  unfold Port.sampled
  rw [Converter.worked_output]
  unfold Converter.worked
  extract_lets y
  split_ifs <;> rfl

/-! ## An arrival at a looped lane (R9 to R12, R21 to R23) -/

variable {d : Device} {p : Ix8}

/-- What a looped lane and its converter take of the frame that its output lane emitted, at H. -/
def Port.LoopTakes (x y : Port) (slots : Quad Slot) (h : HouseIndex) : Prop :=
  let l := x.lane
  let offered := x.conv.offering (Quad.ofFn fun k : Ix4 => if (slots.get k).valid then (slots.get k).sample else 0)
    (256 * h.toNat)
  let invalid := addSat l.invalid (slots.toList.filter fun w => !w.valid).length
  (l.expects = false →
    y.lane = { l with state := .framing, good := 1, bad := 0, expects := true, lastMarker := h } ∧ y.conv = x.conv) ∧
  (l.expects = true → l.state = .framed → (x.conv.state = .settle ∨ x.conv.state = .locked → x.conv.fifo.length < 64) →
    y.lane = { l with bad := 0, lastMarker := h, invalid := invalid } ∧ y.conv = offered) ∧
  (l.expects = true → l.state ≠ .framed → l.good < 7 →
    y.lane = { l with good := l.good + 1, lastMarker := h } ∧ y.conv = x.conv) ∧
  (l.expects = true → l.state ≠ .framed → 7 ≤ l.good → x.conv.state = .seek ∨ x.conv.state = .holdover →
    y.lane = { l with state := .framed, good := 8, bad := 0, lastMarker := h, invalid := invalid } ∧
    y.conv =
      if x.conv.state = .holdover then offered
      else { offered with
        state := .measure, lockCount := 0, fade := .none, underrunWait := false
        interval := some { start := 256 * h.toNat, count := 0 }, ended := none })

theorem loopedInput_samples (slots : Quad Slot) : (loopedInput slots).samples =
    Quad.ofFn fun k : Ix4 => if (slots.get k).valid then (slots.get k).sample else 0 := rfl

theorem loopedInput_pattern (slots : Quad Slot) : (loopedInput slots).pattern = true := rfl

theorem Device.handOff_looped (d : Device) (p : Ix8) (y : Port) (slots : Quad Slot) (fits : y.conv.overruns = false) :
    ((d.putPort p y).handOff p (loopedInput slots)).port p = { y with
      lane := { y.lane with invalid := addSat y.lane.invalid (slots.toList.filter fun w => !w.valid).length }
      conv := y.conv.offering (Quad.ofFn fun k : Ix4 => if (slots.get k).valid then (slots.get k).sample else 0)
        (256 * d.time.h.toNat) } := by
  rw [Device.handOff_fits _ _ _ _ fits, Device.putPort_port]
  rfl

theorem Converter.seek_offered (z : Converter) (seek : z.state = .seek) (f : InputFrame) (now : Nat) :
    z.laneFramed.offering f now = { z.offering f now with
      state := .measure, lockCount := 0, fade := .none, underrunWait := false
      interval := some { start := now, count := 0 }, ended := none } := by
  have framing : z.laneFramed = { z with
      state := .measure, lockCount := 0, fade := .none, underrunWait := false, interval := none, ended := none } := by
    unfold Converter.laneFramed
    rw [seek]
  rw [framing]
  unfold Converter.offering Converter.counting
  rw [seek]

theorem Device.receiveFrame_looped (d : Device) (p : Ix8) (slots : Quad Slot) :
    (d.port p).LoopTakes ((d.receiveFrame p (loopedInput slots)).port p) slots d.time.h := by
  unfold Port.LoopTakes
  intro l offered invalid
  refine ⟨fun search => ?_, fun expects framed room => ?_, fun expects unframed few => ?_,
    fun expects unframed eighth which => ?_⟩
  · rw [Device.receiveFrame_nothing (Lane.classify_searching search (loopedInput slots) d.time.h), Device.putPort_port,
      if_pos (loopedInput_pattern slots)]
    exact ⟨rfl, rfl⟩
  · have fits : (d.port p).conv.overruns = false := eq_false_of_ne_true fun full =>
      absurd (room ((d.port p).conv.overruns_iff.1 full).1) (not_lt.2 ((d.port p).conv.overruns_iff.1 full).2)
    have judged : l.classify (loopedInput slots) d.time.h = ({ l with bad := 0, lastMarker := d.time.h }, .offered) :=
      (Lane.classify_framed expects framed (loopedInput slots) d.time.h).trans (if_pos rfl)
    rw [Device.receiveFrame_offered judged]
    have taken := Device.handOff_looped d p { d.port p with lane := { l with bad := 0, lastMarker := d.time.h } } slots fits
    rw [taken]
    exact ⟨rfl, rfl⟩
  · rw [Device.receiveFrame_nothing ((Lane.classify_good expects rfl unframed d.time.h).trans (if_neg (by omega))),
      Device.putPort_port]
    exact ⟨rfl, rfl⟩
  · have fits : (d.port p).conv.laneFramed.overruns = false := by
      unfold Converter.laneFramed
      rcases which with seek | hold
      · rw [seek]
        rfl
      · rw [hold]
        dsimp only
        unfold Converter.overruns Converter.converting
        rw [hold]
        rfl
    have judged : l.classify (loopedInput slots) d.time.h =
        ({ l with state := .framed, good := 8, bad := 0, lastMarker := d.time.h }, .entered) :=
      (Lane.classify_good expects rfl unframed d.time.h).trans (if_pos (by omega))
    rw [Device.receiveFrame_entered judged]
    have taken := Device.handOff_looped d p { d.port p with
      lane := { l with state := .framed, good := 8, bad := 0, lastMarker := d.time.h }, conv := (d.port p).conv.laneFramed }
      slots fits
    rw [taken]
    refine ⟨rfl, ?_⟩
    rcases which with seek | hold
    · rw [if_neg (by rw [seek]; nofun)]
      exact Converter.seek_offered _ seek _ _
    · rw [if_pos hold]
      have same : (d.port p).conv.laneFramed = (d.port p).conv := by
        unfold Converter.laneFramed
        rw [hold]
      rw [same]

/-! ## The converter by its state (R28 to R33, R36) -/

theorem Converter.short_iff (c : Converter) :
    c.short = true ↔ c.fifo.length < (c.fraction + c.sApp).toNat / 16777216 + 8 := by
  unfold Converter.short Converter.advance
  exact decide_eq_true_iff

theorem Converter.converting_iff (c : Converter) : c.converting = true ↔ c.state = .settle ∨ c.state = .locked := by
  unfold Converter.converting
  rw [Bool.or_eq_true, beq_iff_eq, beq_iff_eq]

theorem Converter.underruns_iff (c : Converter) : c.underruns = true ↔
    (c.state = .settle ∨ c.state = .locked) ∧ c.underrunWait = false ∧ c.short = true := by
  unfold Converter.underruns
  rw [Bool.and_eq_true, Bool.and_eq_true, Bool.not_eq_true', c.converting_iff, and_assoc]

theorem Converter.worked_smooth {c : Converter} (h : ¬ ((c.state = .settle ∨ c.state = .locked) ∧ c.underrunWait = false ∧
    c.short = true)) : c.worked = c.sample := if_neg fun u => h (c.underruns_iff.1 u)

theorem Converter.sample_tracking {c : Converter} (tracks : c.state = .settle ∨ c.state = .locked) :
    c.sample = if c.underrunWait then c.mute
      else if c.short then { c.mute with underrunWait := true, fade := .none } else c.move.sound := by
  unfold Converter.sample
  rcases tracks with h | h <;> rw [h]

theorem Converter.sample_idle {c : Converter} (idle : c.state = .off ∨ c.state = .seek ∨ c.state = .measure) :
    c.sample = { c with output := ⟨0, 0, 0, 0⟩, throughout := false } := by
  have muted : c.sample = { c.mute with throughout := false } := by
    unfold Converter.sample
    rcases idle with h | h | h <;> rw [h]
  exact muted

theorem Converter.sample_holdover {c : Converter} (hold : c.state = .holdover) :
    (∀ k, c.fade = .fadeOut (k + 1) → c.starved = false → c.short = false →
      c.sample = ({ c with holdTimer := min (c.holdTimer + 1) 48000, throughout := false } : Converter).move.sound) ∧
    (∀ k, c.fade = .fadeOut (k + 1) → c.starved = true ∨ c.short = true →
      c.sample = { ({ c with holdTimer := min (c.holdTimer + 1) 48000, throughout := false } : Converter).mute with
        starved := true, fade := .fadeOut k }) ∧
    (c.fade = .none →
      c.sample = ({ c with holdTimer := min (c.holdTimer + 1) 48000, throughout := false } : Converter).mute) := by
  refine ⟨fun k fade fed long => ?_, fun k fade starves => ?_, fun fade => ?_⟩
  · unfold Converter.sample
    rw [hold]
    dsimp only
    rw [fade]
    dsimp only
    rw [if_neg (by rw [fed, long]; nofun)]
  · unfold Converter.sample
    rw [hold]
    dsimp only
    rw [fade]
    dsimp only
    rw [if_pos (by rw [Bool.or_eq_true]; exact starves)]
  · unfold Converter.sample
    rw [hold]
    dsimp only
    rw [fade]

theorem Converter.sound_by_fade (c : Converter) :
    (c.fade = .none → c.move.sound = { c.move.form 64 with fade := .none }) ∧
    (∀ k closing, c.fade = .fadeIn k closing →
      c.move.sound = { c.move.form (k + 1) with fade := .fadeIn (k + 1) closing }) ∧
    ∀ k, c.fade = .fadeOut (k + 1) → c.move.sound = { c.move.form k with fade := .fadeOut k } := by
  have kept : c.move.fade = c.fade := rfl
  refine ⟨fun h => ?_, fun k closing h => ?_, fun k h => ?_⟩
  · unfold Converter.sound
    rw [kept, h]
    dsimp only
    rw [← h]
    rfl
  · unfold Converter.sound
    rw [kept, h]
  · unfold Converter.sound
    rw [kept, h]
    rfl

/-! ## The house sample -/

/-- What a house sample leaves of a port whose converter it leaves as `z` (R12, R13, R29). -/
theorem Device.Worked.leaves {e d : Device} (done : e.Worked d) (p : Ix8) :
    let x := e.port p
    let y := d.port p
    let z := x.conv.worked
    y.levels = x.levels ∧ y.path = x.path.tail ++ [z.output] ∧
    (∀ k : Ix4, y.peaks.get k = max (x.peaks.get k) (z.output.get k).toInt.natAbs) ∧
    (x.lane.enabled = false ∨ x.lane.source = .pins ∨ e.emitted = none → y.lane = x.lane ∧ y.conv = z) ∧
    ∀ q o, x.lane.enabled = true → x.lane.source = .loop q → e.emitted = some o →
      x.lane.state = .dark ∨ (e.time.h + 1 - x.lane.lastMarker).toNat < 48 → z.undisturbed →
      ({ x with conv := z } : Port).LoopTakes y (o.get q) (e.time.h + 1) := by
  intro x y z
  have sampled : x.sampled.shift = { x with
      conv := z, path := x.path.tail ++ [z.output]
      peaks := Quad.ofFn fun k => max (x.peaks.get k) (magnitude (z.output.get k)) } := by
    rw [Port.sampled_eq]
    rfl
  have pins (h : x.lane.enabled = false ∨ x.lane.source = .pins ∨ e.emitted = none) : y = x.sampled.shift := by
    refine done.port p ?_
    rcases h with off | h | still
    · exact .inl fun loops => absurd (off.symm.trans loops.1) nofun
    · exact .inl fun loops => loops.2 h
    · exact .inr still
  have own : y = { x.sampled.shift with lane := y.lane, conv := y.conv } := by
    by_cases h : x.lane.enabled = false ∨ x.lane.source = .pins ∨ e.emitted = none
    · rw [pins h]
    · obtain ⟨enabled, looped, some⟩ : x.lane.enabled = true ∧ x.lane.source ≠ .pins ∧ e.emitted ≠ none := by
        rw [not_or, not_or, Bool.not_eq_false] at h
        exact h
      obtain ⟨q, source⟩ : ∃ q, x.lane.source = .loop q := by
        cases h : x.lane.source with
        | pins => exact absurd h looped
        | loop q => exact ⟨q, rfl⟩
      obtain ⟨o, emitted⟩ := Option.ne_none_iff_exists'.1 some
      obtain ⟨b, start, -, there⟩ := done.looped p q o enabled source emitted
      have kept := ((Device.PortsIn.told b).trans (.arrive (S := (· = p)) rfl (loopedInput (o.get q)))).own p
      rw [start, ← there] at kept
      exact kept
  have framed : y.levels = x.levels ∧ y.path = x.path.tail ++ [z.output] ∧
      y.peaks = Quad.ofFn fun k => max (x.peaks.get k) (magnitude (z.output.get k)) := by
    rw [own, sampled]
    exact ⟨rfl, rfl, rfl⟩
  obtain ⟨levels, path, peaks⟩ := framed
  refine ⟨levels, path, fun k => ?_, fun h => ?_, fun q o enabled source emitted fresh still => ?_⟩
  · rw [peaks, Quad.get_ofFn]
    rfl
  · rw [pins h, sampled]
    exact ⟨rfl, rfl⟩
  · obtain ⟨b, start, time, there⟩ := done.looped p q o enabled source emitted
    have port : b.told.port p = x.sampled.shift :=
      (congrArg (fun o : Oct Port => o.get p) b.told_engine.ports).trans start
    have now : b.told.time.h = e.time.h + 1 := by
      rw [b.told_engine.time, time]
      rfl
    have young : b.told.darkDue p = false := eq_false_of_ne_true fun due => by
      obtain ⟨-, lit, old⟩ := (b.told.darkDue_iff p).1 due
      rw [port, sampled] at lit old
      rw [now] at old
      rcases fresh with dark | fresh
      · exact lit dark
      · exact absurd old (not_le.2 fresh)
    have undisturbed : (b.told.port p).conv.undisturbed := by
      rw [port, sampled]
      exact still
    have takes := b.told.receiveFrame_looped p (o.get q)
    rw [← Device.arrive_fresh undisturbed young, ← there, port, sampled, now] at takes
    exact takes

theorem Device.Worked.slip_of_pins {e d : Device} (done : e.Worked d) {p : Ix8}
    (pins : (e.port p).lane.enabled = false ∨ (e.port p).lane.source = .pins) :
    d.alarms.get (.slip p) = e.slippedRecord p := by
  refine done.slip p (.inl fun loops => ?_)
  rcases pins with off | h
  · exact absurd (off.symm.trans loops.1) nofun
  · exact loops.2 h

/-- Settles O33: the house sample is the work of an opened part, port by port. -/
theorem houseSampleConverts : Obligations.HouseSampleConverts := by
  unfold Obligations.HouseSampleConverts
  intro s pace idle takes e
  refine ⟨_, exec_houseSample idle takes, fun p => ?_⟩
  have done : e.Worked e.work := e.work_worked
  obtain ⟨d, dDef⟩ : ∃ d, d = e.work := ⟨_, rfl⟩
  rw [← dDef] at done ⊢
  extract_lets x c silent whole short history fraction sound moved timer record slipped y pins h lane arrives leaves tracks
  have left : leaves c.worked := by
    obtain ⟨levels, path, peaks, still, loops⟩ := done.leaves p
    exact ⟨levels, path, peaks, fun k => still (or_assoc.1 k), loops⟩
  have isShort : c.short = true ↔ short := c.short_iff
  have smooth (k : ¬ (tracks ∧ c.underrunWait = false ∧ short)) : c.worked = c.sample :=
    Converter.worked_smooth fun ⟨a, b, f⟩ => k ⟨a, b, isShort.1 f⟩
  have becomes {z : Converter} (k : c.worked = z) : leaves z := by
    rw [← k]
    exact left
  refine ⟨fun state => ?_, fun tracking waits => ?_, fun tracking runs lacks => ⟨?_, fun k => ?_⟩, fun k calm => ?_,
    fun tracking runs enough => ?_, fun hold => ?_⟩
  · have untracked : ¬ tracks := by
      rintro (h | h) <;> rw [h] at state <;> simp at state
    refine becomes ((smooth fun k => untracked k.1).trans ?_)
    exact Converter.sample_idle state
  · refine becomes ((smooth fun k => absurd (waits.symm.trans k.2.1) nofun).trans ?_)
    rw [Converter.sample_tracking tracking, if_pos waits]
    rfl
  · refine becomes ((if_pos (c.underruns_iff.2 ⟨tracking, runs, isShort.2 lacks⟩)).trans ?_)
    rw [Converter.sample_tracking tracking, if_neg (by rw [runs]; nofun), if_pos (isShort.2 lacks)]
    rfl
  · rw [done.slip_of_pins k]
    exact if_pos (c.underruns_iff.2 ⟨tracking, runs, isShort.2 lacks⟩)
  · rw [done.slip_of_pins k]
    exact if_neg fun u => calm (((c.underruns_iff.1 u).imp_right (And.imp_right isShort.1)))
  · have moves : c.worked = c.move.sound := by
      rw [smooth fun k => enough k.2.2, Converter.sample_tracking tracking, if_neg (by rw [runs]; nofun),
        if_neg (isShort.not.2 enough)]
    obtain ⟨full, rising, -⟩ := c.sound_by_fade
    exact ⟨fun fade => becomes (moves.trans (full fade)), fun j closing fade => becomes (moves.trans (rising j closing fade))⟩
  · have untracked : ¬ tracks := by
      rintro (h | h) <;> exact absurd (hold.symm.trans h) nofun
    have sampled := smooth fun k => untracked k.1
    obtain ⟨fed, starved, silenced⟩ := Converter.sample_holdover hold
    refine ⟨fun j fade rich enough => ?_, fun j fade poor => ?_, fun fade => becomes (sampled.trans (silenced fade))⟩
    · refine becomes ((sampled.trans (fed j fade rich (eq_false_of_ne_true (isShort.not.2 enough)))).trans ?_)
      obtain ⟨timed, timedDef⟩ : ∃ z : Converter, z = { c with holdTimer := timer, throughout := false } := ⟨_, rfl⟩
      refine Eq.trans ?_ ((timed.sound_by_fade.2.2 j (by rw [timedDef]; exact fade)).trans ?_)
      · rw [timedDef]
      · rw [timedDef]
        rfl
    · exact becomes (sampled.trans (starved j fade (poor.imp_right isShort.2)))

end Sys2Proof.Machine
end

section
/-!
SUPPORT. The turns of the members in a house sample: one line at work beside lines that pass their input through.
-/

namespace Sys2Proof.Machine

variable {d e f : Device} {n m k j : Ix8} {z : Member} {l : Line}

/-! ## A line's own step (R91, R92) -/

theorem Line.append_kept (l : Line) (mem : DelayMemory) (x : Sample) :
    (l.append mem x).1 = { l with
      d := (l.append mem x).1.d, inUse := (l.append mem x).1.inUse, spare := (l.append mem x).1.spare } := by
  unfold Line.append Line.tailPlace
  dsimp only
  cases l.inUse[(l.headPos + l.d) / 1024]? with
  | some b => rfl
  | none =>
    cases l.spare with
    | nil => rfl
    | cons b rest => rfl

theorem Line.deliverOne_kept (l : Line) :
    l.deliverOne.1 = { l with
      d := l.deliverOne.1.d, inUse := l.deliverOne.1.inUse, spare := l.deliverOne.1.spare
      headPos := l.deliverOne.1.headPos } := by
  unfold Line.deliverOne
  dsimp only
  rw [Line.judgeEmptied_eq]
  rfl

/-- A house sample of a line touches its samples and its blocks alone. -/
theorem Line.step_kept (l : Line) (mem : DelayMemory) (h : HouseIndex) (x : Sample) (w : LineWork) :
    let r := (l.step mem h x w).line
    r = { l with d := r.d, headIndex := r.headIndex, inUse := r.inUse, spare := r.spare, headPos := r.headPos } := by
  intro r
  change (l.step mem h x w).line = { l with
    d := (l.step mem h x w).line.d, headIndex := (l.step mem h x w).line.headIndex
    inUse := (l.step mem h x w).line.inUse, spare := (l.step mem h x w).line.spare
    headPos := (l.step mem h x w).line.headPos }
  unfold Line.step
  extract_lets indexed a
  have appended : a.1 = { indexed with d := a.1.d, inUse := a.1.inUse, spare := a.1.spare } := indexed.append_kept mem x
  split_ifs
  · rfl
  · cases w with
    | frozen =>
      dsimp only
      rw [appended]
    | repeatHead =>
      dsimp only
      rw [appended]
    | normal =>
      dsimp only
      rw [a.1.deliverOne_kept, appended]

/-! ## Turns beside a line (R91) -/

/-- What the turns of lines that pass their input through leave of member m of programme n and of each other. -/
structure Device.Beside (n m : Ix8) (d e : Device) : Prop where
  paths : d.PathsOnly e
  mem : e.mem = d.mem
  passes : ∀ k j, d.passes k j → e.passes k j
  line : e.line n m = d.line n m
  delay : (e.prog n).delay = { (d.prog n).delay with lines := (e.prog n).delay.lines }
  gain : (e.prog n).gain = (d.prog n).gain
  meter : (e.prog n).meter = { (d.prog n).meter with members := (e.prog n).meter.members }
  tap : (e.prog n).meter.members.get m = (d.prog n).meter.members.get m
  stage : (e.prog n).stage = { (d.prog n).stage with
    members := (e.prog n).stage.members, clips := (e.prog n).stage.clips }
  out : (e.prog n).stage.members.get m = (d.prog n).stage.members.get m
  clips : (d.prog n).record.members.length = 1 → (e.prog n).stage.clips = (d.prog n).stage.clips

/-- A place among the lines that is not that of member m of programme n, nor beside it in a list of one. -/
def Device.aside (d : Device) (n m k j : Ix8) : Prop :=
  (k, j) ≠ (n, m) ∧ (k = n → (d.prog n).record.members.length ≠ 1)

/-- What the turn of place j leaves of a programme. -/
structure Programme.Turned (j : Ix8) (x y : Programme) : Prop where
  frame : y = { x with
    delay := { x.delay with lines := y.delay.lines }, meter := { x.meter with members := y.meter.members }
    stage := { x.stage with members := y.stage.members, clips := y.stage.clips } }
  lines : ∀ i, i ≠ j → y.delay.lines.get i = x.delay.lines.get i
  length : (y.delay.lines.get j).d = (x.delay.lines.get j).d
  change : (y.delay.lines.get j).change = (x.delay.lines.get j).change
  taps : ∀ i, i ≠ j → y.meter.members.get i = x.meter.members.get i
  outs : ∀ i, i ≠ j → y.stage.members.get i = x.stage.members.get i

namespace Device.Beside

theorem refl (d : Device) : d.Beside n m d :=
  ⟨.refl d, rfl, fun _ _ => id, rfl, rfl, rfl, rfl, rfl, rfl, rfl, fun _ => rfl⟩

theorem trans (h : d.Beside n m e) (k : e.Beside n m f) : d.Beside n m f where
  paths := h.paths.trans k.paths
  mem := k.mem.trans h.mem
  passes a b p := k.passes a b (h.passes a b p)
  line := k.line.trans h.line
  delay := by rw [k.delay, h.delay]
  gain := k.gain.trans h.gain
  meter := by rw [k.meter, h.meter]
  tap := k.tap.trans h.tap
  stage := by rw [k.stage, h.stage]
  out := k.out.trans h.out
  clips one := (k.clips (by rw [h.paths.prog]; exact one)).trans (h.clips one)

theorem passes_modProg {g : Programme → Programme} (fade : (g (d.prog k)).delay.fade = (d.prog k).delay.fade)
    (lines : ∀ j, ((g (d.prog k)).delay.lines.get j).d = (d.line k j).d ∧
      ((g (d.prog k)).delay.lines.get j).change = (d.line k j).change) (a b : Ix8) (p : d.passes a b) :
    (d.modProg k g).passes a b := by
  obtain ⟨empty, steady, still⟩ := p
  unfold Device.passes Device.line
  by_cases h : k = a
  · rw [← h] at empty steady still ⊢
    rw [Device.prog_modProg_self, (lines b).1, (lines b).2, fade]
    exact ⟨empty, steady, still⟩
  · rw [Device.prog_modProg, if_neg h]
    exact ⟨empty, steady, still⟩

/-- A change of another programme. -/
theorem elsewhere (other : k ≠ n) (g : Programme → Programme)
    (paths : ∀ x, g x = { x with
      delay := (g x).delay, meter := (g x).meter, gain := (g x).gain, stage := (g x).stage })
    (fade : (g (d.prog k)).delay.fade = (d.prog k).delay.fade)
    (lines : ∀ j, ((g (d.prog k)).delay.lines.get j).d = (d.line k j).d ∧
      ((g (d.prog k)).delay.lines.get j).change = (d.line k j).change) : d.Beside n m (d.modProg k g) := by
  have same : (d.modProg k g).prog n = d.prog n := (d.prog_modProg k n g).trans (if_neg other)
  refine ⟨.modProg k g paths, rfl, passes_modProg fade lines, ?_, ?_, ?_, ?_, ?_, ?_, ?_, fun _ => ?_⟩
  · unfold Device.line
    rw [same]
  all_goals rw [same]

/-- A change at another place of the same programme, or in another programme. -/
theorem turned (away : d.aside n m k j) (g : Programme → Programme)
    (paths : ∀ x, g x = { x with
      delay := (g x).delay, meter := (g x).meter, gain := (g x).gain, stage := (g x).stage })
    (turn : Programme.Turned j (d.prog k) (g (d.prog k))) : d.Beside n m (d.modProg k g) := by
  obtain ⟨frame, lines, length, change, taps, outs⟩ := turn
  have measures (i : Ix8) : ((g (d.prog k)).delay.lines.get i).d = (d.line k i).d ∧
      ((g (d.prog k)).delay.lines.get i).change = (d.line k i).change := by
    by_cases h : i = j
    · rw [h]
      exact ⟨length, change⟩
    · rw [lines i h]
      exact ⟨rfl, rfl⟩
  have fade : (g (d.prog k)).delay.fade = (d.prog k).delay.fade := by rw [frame]
  by_cases other : k = n
  · have apart : m ≠ j := fun h => away.1 (by rw [other, h])
    rw [other] at frame lines taps outs
    have prog : (d.modProg k g).prog n = g (d.prog n) := by rw [other, Device.prog_modProg_self]
    refine ⟨.modProg k g paths, rfl, passes_modProg fade measures, ?_, ?_, ?_, ?_, ?_, ?_, ?_, fun one => absurd one (away.2 other)⟩
    · unfold Device.line
      rw [prog, lines m apart]
    · rw [prog, frame]
    · rw [prog, frame]
    · rw [prog, frame]
    · rw [prog, taps m apart]
    · rw [prog, frame]
    · rw [prog, outs m apart]
  · exact elsewhere other g paths fade measures

theorem tapped (away : d.aside n m k j) (x : Sample) : d.Beside n m (d.modMeter k fun t => t.tap j x) :=
  turned away _ (fun _ => rfl) ⟨rfl, fun _ _ => rfl, rfl, rfl,
    fun _ other => (Oct.get_modify _ _ _ _).trans (if_neg other.symm), fun _ _ => rfl⟩

theorem indexed (away : d.aside n m k j) (h : HouseIndex) :
    d.Beside n m (d.modLine k j fun _ => (d.line k j).indexed h) :=
  turned away _ (fun _ => rfl) ⟨rfl, fun _ other => (Oct.get_modify _ _ _ _).trans (if_neg other.symm),
    by rw [Oct.get_modify_self]; rfl, by rw [Oct.get_modify_self]; rfl, fun _ _ => rfl, fun _ _ => rfl⟩

theorem staged (away : d.aside n m k j) (schedule : List GainEntry) (head : HouseIndex) (x : Sample) (fade : Int) :
    d.Beside n m (d.modStage k fun g => g.memberSample j schedule head (some x) fade) :=
  turned away _ (fun _ => rfl) ⟨rfl, fun _ _ => rfl, rfl, rfl, fun _ _ => rfl,
    fun _ other => (Oct.get_set _ _ _ _).trans (if_neg other.symm)⟩

/-- The turn of a line that passes its input through. -/
theorem workMember (away : d.aside n m k j) (pass : d.passes k j) (fade : Int) (z : Member) :
    d.Beside n m (d.workMember k fade (j, z)) := by
  unfold Device.workMember
  extract_lets x a r
  have first : d.Beside n m a := by
    change d.Beside n m (if _ then _ else _)
    split_ifs
    · exact tapped away x
    · exact refl d
  have away' : a.aside n m k j := ⟨away.1, fun h => by rw [first.paths.prog]; exact away.2 h⟩
  obtain ⟨empty, steady, still⟩ := first.passes k j pass
  have normal : (a.prog k).delay.workOf j = .normal := by
    unfold Delay.workOf
    rw [still]
    refine if_neg fun h => ?_
    have up : (a.line k j).change = .slewUp := h.1
    rw [steady] at up
    exact nomatch up
  have step : (a.line k j).step a.mem a.time.h x .normal =
      { line := (a.line k j).indexed a.time.h, mem := a.mem, delivered := some x, back := [] } := by
    unfold Line.step
    exact if_pos ⟨empty, rfl⟩
  have sampled : r = (a.modLine k j fun _ => (a.line k j).indexed a.time.h, some x) := by
    change a.lineSample k j x = _
    unfold Device.lineSample
    dsimp only
    rw [normal, step]
    rfl
  rw [sampled]
  have second := indexed away' a.time.h
  refine (first.trans second).trans (staged ⟨away.1, fun h => ?_⟩ _ _ _ _)
  rw [second.paths.prog]
  exact away'.2 h

theorem members (fade : Int) (l : List (Ix8 × Member)) (d : Device) (away : ∀ x ∈ l, d.aside n m k x.1 ∧ d.passes k x.1) :
    d.Beside n m (l.foldl (fun e x => e.workMember k fade x) d) := by
  induction l generalizing d with
  | nil => exact refl d
  | cons x l ih =>
    obtain ⟨aside, pass⟩ := away x (List.mem_cons_self ..)
    have first : d.Beside n m (d.workMember k fade x) := workMember aside pass fade x.2
    refine first.trans (ih _ fun y later => ?_)
    obtain ⟨aside, pass⟩ := away y (List.mem_cons_of_mem _ later)
    exact ⟨⟨aside.1, fun h => by rw [first.paths.prog]; exact aside.2 h⟩, first.passes _ _ pass⟩

/-- Another programme whose lines pass their inputs through. -/
theorem workProgramme (other : k ≠ n) (d : Device)
    (pass : d.sounding k → ∀ j : Ix8, j.val < (d.prog k).record.members.length → d.passes k j) :
    d.Beside n m (d.workProgramme k) := by
  unfold Device.workProgramme
  extract_lets a b
  split_ifs with sounds
  · have begun : d.Beside n m a := elsewhere other _ (fun _ => rfl) rfl fun j => by
      refine (congrArg (fun l : Line => l.d = (d.line k j).d ∧ l.change = (d.line k j).change)
        (Oct.get_map (d.prog k).delay.lines _ j)).mpr ?_
      split_ifs <;> exact ⟨rfl, rfl⟩
    have worked : a.Beside n m b := members _ _ a fun x listed =>
      ⟨⟨fun h => other (Prod.mk.inj h).1, fun h => absurd h other⟩,
        begun.passes _ _ (pass sounds x.1 (List.getElem?_eq_some_iff.1 (Record.mem_listed.1 listed)).1)⟩
    exact (begun.trans worked).trans (elsewhere other _ (fun _ => rfl) rfl fun _ => ⟨rfl, rfl⟩)
  · exact refl d

end Device.Beside

end Sys2Proof.Machine
end

section
/-!
SUPPORT. The turn of a member whose line is at work, and what the programmes of a house sample leave of it.
-/

namespace Sys2Proof.Machine

variable {d e f : Device} {n m k j : Ix8} {z : Member} {l : Line}

/-! ## The turn of one member (R91, R111, R133 to R138) -/

/-- What a member's line does of its input in this house sample. -/
def Device.stepOf (d : Device) (n m : Ix8) (x : Sample) : LineStep :=
  (d.line n m).step d.mem d.time.h x ((d.prog n).delay.workOf m)

/-- What a member's turn leaves: its line and word, its tap and its output, and every other line as it passed. -/
structure Device.TurnOf (n m : Ix8) (x : Sample) (fade : Int) (d e : Device) : Prop where
  paths : d.PathsOnly e
  mem : e.mem = (d.stepOf n m x).mem
  line : e.line n m = { (d.stepOf n m x).line with spare := (e.line n m).spare }
  passes : ∀ k j, (k, j) ≠ (n, m) → d.passes k j → e.passes k j
  delay : (e.prog n).delay = { (d.prog n).delay with lines := (e.prog n).delay.lines }
  gain : (e.prog n).gain = (d.prog n).gain
  meter : (e.prog n).meter = if d.active n then (d.prog n).meter.tap m x else (d.prog n).meter
  stage : (e.prog n).stage = (d.prog n).stage.memberSample m (d.prog n).gain.schedule (d.stepOf n m x).line.headIndex
    (d.stepOf n m x).delivered fade

theorem Device.SparesOnly.passes (h : d.SparesOnly e) (fade : (e.prog k).delay.fade = (d.prog k).delay.fade)
    (p : d.passes k j) : e.passes k j := by
  obtain ⟨empty, steady, still⟩ := p
  unfold Device.passes
  rw [h k j, fade]
  exact ⟨empty, steady, still⟩

theorem Device.modLine_passes (other : (k, j) ≠ (n, m)) (g : Line → Line) (p : d.passes k j) :
    (d.modLine n m g).passes k j := by
  unfold Device.passes Device.line Device.modLine Device.modDelay at *
  rw [Device.prog_modProg]
  split_ifs with h
  · have apart : m ≠ j := fun same => other (by rw [h, same])
    rw [← h] at p
    dsimp only
    rw [Oct.get_modify, if_neg apart]
    exact p
  · exact p

/-- A line takes its input: its word is written, and what its head empties goes back. -/
theorem Device.lineSample_turn (d : Device) (n m : Ix8) (x : Sample) :
    let e := (d.lineSample n m x).1
    (d.lineSample n m x).2 = (d.stepOf n m x).delivered ∧ e.mem = (d.stepOf n m x).mem ∧
    e.line n m = { (d.stepOf n m x).line with spare := (e.line n m).spare } ∧
    (∀ k j, (k, j) ≠ (n, m) → d.passes k j → e.passes k j) ∧
    e.prog n = { d.prog n with delay := { (d.prog n).delay with lines := (e.prog n).delay.lines } } := by
  intro e
  refine ⟨rfl, ?_⟩
  obtain ⟨b, bDef⟩ : ∃ b : Device, b = ({ d with mem := (d.stepOf n m x).mem } : Device).modLine n m fun _ => (d.stepOf n m x).line :=
    ⟨_, rfl⟩
  have eDef : e = b.handBack (d.stepOf n m x).back := by
    rw [bDef]
    rfl
  obtain ⟨spare, mem, prog, delay⟩ : b.SparesOnly e ∧ e.mem = b.mem ∧ (∀ k, e.prog k = { b.prog k with delay := (e.prog k).delay }) ∧
      ∀ k, (e.prog k).delay = { (b.prog k).delay with lines := (e.prog k).delay.lines } := by
    rw [eDef]
    exact ⟨b.handBack_spares _, (b.handBack_engine _).mem, (b.handBack_engine _).prog, b.handBack_delay _⟩
  have bProg : b.prog n = { d.prog n with
      delay := { (d.prog n).delay with lines := (d.prog n).delay.lines.modify m fun _ => (d.stepOf n m x).line } } := by
    rw [bDef]
    exact Device.prog_modDelay_self _ _ _
  have bLine : b.line n m = (d.stepOf n m x).line := by
    unfold Device.line
    rw [bProg, Oct.get_modify_self]
  refine ⟨?_, ?_, fun k j other p => ?_, ?_⟩
  · rw [mem, bDef]
    rfl
  · rw [spare n m, bLine]
  · refine spare.passes (by rw [delay]) ?_
    rw [bDef]
    exact Device.modLine_passes (d := { d with mem := (d.stepOf n m x).mem }) other _ p
  · rw [prog, delay, bProg]

theorem Device.workMember_turn (d : Device) (n m : Ix8) (z : Member) (fade : Int) :
    Device.TurnOf n m (d.inputSample n z) fade d (d.workMember n fade (m, z)) := by
  have paths := Device.PathsOnly.workMember d n fade (m, z)
  obtain ⟨t, tDef⟩ : ∃ t, t = d.workMember n fade (m, z) := ⟨_, rfl⟩
  rw [← tDef] at paths ⊢
  obtain ⟨x, xDef⟩ : ∃ x, x = d.inputSample n z := ⟨_, rfl⟩
  rw [← xDef]
  obtain ⟨a, aDef⟩ : ∃ a, a = if d.active n then d.modMeter n fun t => t.tap m x else d := ⟨_, rfl⟩
  have aProg : a.prog n = { d.prog n with meter := if d.active n then (d.prog n).meter.tap m x else (d.prog n).meter } := by
    rw [aDef]
    split_ifs
    · rw [Device.prog_modMeter_self]
    · rfl
  obtain ⟨aDelay, aMem, aTime⟩ : (∀ k, (a.prog k).delay = (d.prog k).delay) ∧ a.mem = d.mem ∧ a.time = d.time := by
    rw [aDef]
    split_ifs
    · refine ⟨fun k => ?_, rfl, rfl⟩
      rw [Device.modMeter, Device.prog_modProg]
      split_ifs with same
      · rw [same]
      · rfl
    · exact ⟨fun _ => rfl, rfl, rfl⟩
  have step : a.stepOf n m x = d.stepOf n m x := by
    unfold Device.stepOf Device.line
    rw [aDelay, aMem, aTime]
  obtain ⟨delivered, mem, line, passes, prog⟩ := a.lineSample_turn n m x
  obtain ⟨g, gDef⟩ : ∃ g, g = (a.lineSample n m x).1 := ⟨_, rfl⟩
  rw [← gDef] at mem line passes prog
  rw [step] at delivered mem line
  have sampled : a.lineSample n m x = (g, (d.stepOf n m x).delivered) := Prod.ext gDef.symm delivered
  have whole : t = g.modStage n fun y =>
      y.memberSample m (g.prog n).gain.schedule (g.line n m).headIndex (d.stepOf n m x).delivered fade := by
    rw [tDef, Device.workMember]
    dsimp only
    rw [← xDef, ← aDef, sampled]
  have head : (g.line n m).headIndex = (d.stepOf n m x).line.headIndex := by rw [line]
  have tProg : t.prog n = { g.prog n with
      stage := (d.prog n).stage.memberSample m (d.prog n).gain.schedule (d.stepOf n m x).line.headIndex
        (d.stepOf n m x).delivered fade } := by
    rw [whole, Device.prog_modStage_self, head, prog, aProg]
  have tDelay (k : Ix8) : (t.prog k).delay = (g.prog k).delay := by
    rw [whole, Device.modStage, Device.prog_modProg]
    split_ifs with same
    · rw [same]
    · rfl
  have tLine (k j : Ix8) : t.line k j = g.line k j := by
    unfold Device.line
    rw [tDelay]
  refine ⟨paths, ?_, ?_, fun k j other p => ?_, ?_, ?_, ?_, ?_⟩
  · rw [whole]
    exact mem
  · rw [tLine, line]
  · have kept : g.passes k j := passes k j other (by
      unfold Device.passes Device.line at p ⊢
      rw [aDelay]
      exact p)
    unfold Device.passes at kept ⊢
    rw [tLine, tDelay]
    exact kept
  · rw [tDelay, prog, aDelay]
  · rw [tProg, prog, aProg]
  · rw [tProg, prog, aProg]
  · rw [tProg]

end Sys2Proof.Machine
end

section
/-!
SUPPORT. What the programmes of a house sample leave of the one member whose line is at work.
-/

namespace Sys2Proof.Machine

variable {d e f t u : Device} {n m k j : Ix8} {x : Sample} {z : Member} {fade : Int}

/-! ## The output stage of one member (R133 to R138) -/

/-- The output-stage member that a house sample leaves. -/
def Stage.sampleOf (g : Stage) (m : Ix8) (schedule : List GainEntry) (head : HouseIndex) (delivered : Option Sample)
    (fade : Int) : StageMember :=
  let k := (g.members.get m).gainSample schedule head delivered.isNone
  { k with
    out := delivered.elim 0 fun x =>
      faded (saturate (gained x (gainFactor (totalGain k.applied g.trim)))) fade (stopFactor g.stopStep) }

/-- The clip count that a house sample of one member leaves. -/
def Stage.clipsOf (g : Stage) (m : Ix8) (schedule : List GainEntry) (head : HouseIndex) (delivered : Option Sample) :
    BitVec 16 :=
  delivered.elim g.clips fun x =>
    if overflows (gained x (gainFactor (totalGain ((g.members.get m).gainSample schedule head false).applied g.trim))) then
      addSat g.clips 1
    else g.clips

theorem Stage.memberSample_eq (g : Stage) (m : Ix8) (schedule : List GainEntry) (head : HouseIndex)
    (delivered : Option Sample) (fade : Int) :
    g.memberSample m schedule head delivered fade = { g with
      members := g.members.set m (g.sampleOf m schedule head delivered fade)
      clips := g.clipsOf m schedule head delivered } := by
  cases delivered <;> rfl

theorem Stage.sampleOf_congr {g y : Stage} {m : Ix8} (out : y.members.get m = g.members.get m) (trim : y.trim = g.trim)
    (stop : y.stopStep = g.stopStep) (schedule : List GainEntry) (head : HouseIndex) (delivered : Option Sample) (fade : Int) :
    y.sampleOf m schedule head delivered fade = g.sampleOf m schedule head delivered fade := by
  unfold Stage.sampleOf
  rw [out, trim, stop]

theorem Stage.clipsOf_congr {g y : Stage} {m : Ix8} (out : y.members.get m = g.members.get m) (trim : y.trim = g.trim)
    (clips : y.clips = g.clips) (schedule : List GainEntry) (head : HouseIndex) (delivered : Option Sample) :
    y.clipsOf m schedule head delivered = g.clipsOf m schedule head delivered := by
  unfold Stage.clipsOf
  rw [out, trim, clips]

/-! ## Turns before and after -/

/-- The turn of a member among those that pass, from the start of its programme's house sample to the last turn. -/
structure Device.Passed (n m : Ix8) (x : Sample) (fade : Int) (d e : Device) : Prop where
  paths : d.PathsOnly e
  mem : e.mem = (d.stepOf n m x).mem
  line : e.line n m = { (d.stepOf n m x).line with spare := (e.line n m).spare }
  passes : ∀ k j, (k, j) ≠ (n, m) → d.passes k j → e.passes k j
  delay : (e.prog n).delay = { (d.prog n).delay with lines := (e.prog n).delay.lines }
  gain : (e.prog n).gain = (d.prog n).gain
  tap : (e.prog n).meter.members.get m =
    if d.active n then ((d.prog n).meter.members.get m).tap (d.prog n).meter.mode x else (d.prog n).meter.members.get m
  stage : (e.prog n).stage = { (d.prog n).stage with
    members := (e.prog n).stage.members, clips := (e.prog n).stage.clips }
  out : (e.prog n).stage.members.get m = (d.prog n).stage.sampleOf m (d.prog n).gain.schedule
    (d.stepOf n m x).line.headIndex (d.stepOf n m x).delivered fade
  clips : (d.prog n).record.members.length = 1 → (e.prog n).stage.clips =
    (d.prog n).stage.clipsOf m (d.prog n).gain.schedule (d.stepOf n m x).line.headIndex (d.stepOf n m x).delivered

theorem Device.PathsOnly.active (h : d.PathsOnly e) (n : Ix8) : e.active n = d.active n :=
  Device.active_congr (by rw [h.prog])

theorem Device.PathsOnly.inputSample (h : d.PathsOnly e) (n : Ix8) (z : Member) : e.inputSample n z = d.inputSample n z := by
  have ports : e.ports = d.ports := by rw [h.frame]
  have arriving : e.arriving = d.arriving := by
    funext q
    unfold Device.arriving Device.port
    rw [ports]
  unfold Device.inputSample Device.selected Programme.currentSource
  dsimp only
  rw [h.prog, arriving]

theorem Device.Beside.stepOf (h : d.Beside n m e) (x : Sample) : e.stepOf n m x = d.stepOf n m x := by
  have work : (e.prog n).delay.workOf m = (d.prog n).delay.workOf m := by
    have line : (e.prog n).delay.lines.get m = (d.prog n).delay.lines.get m := h.line
    unfold Delay.workOf
    dsimp only
    rw [line, h.delay]
  unfold Device.stepOf
  rw [work, h.line, h.mem, h.paths.frame]

theorem Device.TurnOf.passed (before : d.Beside n m e) (turn : Device.TurnOf n m x fade e t) (after : t.Beside n m u) :
    Device.Passed n m x fade d u := by
  have step := before.stepOf x
  have stage := turn.stage
  rw [Stage.memberSample_eq, step, before.gain] at stage
  have earlier := before.stage
  have out : (e.prog n).stage.sampleOf m (d.prog n).gain.schedule (d.stepOf n m x).line.headIndex
      (d.stepOf n m x).delivered fade = (d.prog n).stage.sampleOf m (d.prog n).gain.schedule
      (d.stepOf n m x).line.headIndex (d.stepOf n m x).delivered fade :=
    Stage.sampleOf_congr before.out (by rw [earlier]) (by rw [earlier]) _ _ _ _
  refine ⟨(before.paths.trans turn.paths).trans after.paths, ?_, ?_, fun k j other p => ?_, ?_, ?_, ?_, ?_, ?_, fun one => ?_⟩
  · rw [after.mem, turn.mem, step]
  · rw [after.line, turn.line, step]
  · exact after.passes k j (turn.passes k j other (before.passes k j p))
  · rw [after.delay, turn.delay, before.delay]
  · rw [after.gain, turn.gain, before.gain]
  · rw [after.tap, turn.meter, before.paths.active]
    split_ifs
    · have mode : (e.prog n).meter.mode = (d.prog n).meter.mode := by rw [before.meter]
      unfold Meter.tap
      dsimp only
      rw [Oct.get_modify_self, before.tap, mode]
    · exact before.tap
  · rw [after.stage, stage, before.stage]
  · rw [after.out, stage]
    exact (Oct.get_set_self _ _ _).trans out
  · have sole : (e.prog n).record.members.length = 1 := by
      rw [before.paths.prog]
      exact one
    have alone : (t.prog n).record.members.length = 1 := by
      rw [turn.paths.prog]
      exact sole
    rw [after.clips alone, stage]
    exact Stage.clipsOf_congr before.out (by rw [earlier]) (before.clips one) _ _ _

/-! ## The places before and after one -/

theorem exists_split {α β : Type} {key : α → β} {l : List α} (nodup : (l.map key).Nodup) {a : α} (there : a ∈ l) :
    ∃ pre post, l = pre ++ a :: post ∧ (∀ b ∈ pre, key b ≠ key a) ∧ ∀ b ∈ post, key b ≠ key a := by
  obtain ⟨pre, post, rfl⟩ := List.append_of_mem there
  rw [List.map_append, List.map_cons, List.nodup_middle, List.nodup_cons, List.mem_append, not_or] at nodup
  exact ⟨pre, post, rfl, fun b h same => nodup.1.1 (by rw [← same]; exact List.mem_map_of_mem h),
    fun b h same => nodup.1.2 (by rw [← same]; exact List.mem_map_of_mem h)⟩

/-- Every line that sounds passes its input through, but the one of member m of programme n. -/
def Device.clear (d : Device) (n m : Ix8) : Prop :=
  ∀ k j : Ix8, (k, j) ≠ (n, m) → d.sounding k = true → j.val < (d.prog k).record.members.length → d.passes k j

theorem Device.clear_of (h : d.clear n m) (paths : d.PathsOnly e)
    (passes : ∀ k j, (k, j) ≠ (n, m) → d.passes k j → e.passes k j) : e.clear n m := by
  intro k j other sounds listed
  refine passes k j other (h k j other ?_ ?_)
  · rw [Device.sounding_iff] at sounds ⊢
    rw [paths.prog] at sounds
    exact sounds
  · rw [paths.prog] at listed
    exact listed

/-- The members of a programme in turn. -/
theorem Device.members_passed (fade : Int) (clear : d.clear n m) (sounds : d.sounding n = true)
    (listed : (d.prog n).record.members[m.val]? = some z) :
    Device.Passed n m (d.inputSample n z) fade d
      ((d.prog n).record.listed.foldl (fun e m => e.workMember n fade m) d) := by
  obtain ⟨pre, post, split, before, after⟩ := exists_split (key := Prod.fst) (d.prog n).record.positions_nodup
    (Record.mem_listed.2 listed)
  have inside : m.val < (d.prog n).record.members.length := (List.getElem?_eq_some_iff.1 listed).1
  have place (y : Ix8 × Member) (there : y ∈ (d.prog n).record.listed) : y.1.val < (d.prog n).record.members.length :=
    (List.getElem?_eq_some_iff.1 (Record.mem_listed.1 there)).1
  have aside (y : Ix8 × Member) (there : y ∈ (d.prog n).record.listed) (other : y.1 ≠ m) (e : Device) (paths : d.PathsOnly e) :
      e.aside n m n y.1 := by
    refine ⟨fun same => other (Prod.mk.inj same).2, fun _ => ?_⟩
    rw [paths.prog]
    have := place y there
    have apart : y.1.val ≠ m.val := fun h => other (Fin.ext h)
    change (d.prog n).record.members.length ≠ 1
    omega
  rw [split, List.foldl_append, List.foldl_cons]
  obtain ⟨b, bDef⟩ : ∃ b, b = pre.foldl (fun e m => e.workMember n fade m) d := ⟨_, rfl⟩
  have first : d.Beside n m b := by
    rw [bDef]
    refine Device.Beside.members fade pre d fun y there => ?_
    have of : y ∈ (d.prog n).record.listed := by rw [split]; exact List.mem_append_left _ there
    have a := aside y of (before y there) d (.refl d)
    exact ⟨a, clear n y.1 a.1 sounds (place y of)⟩
  rw [← bDef]
  have turn := b.workMember_turn n m z fade
  rw [first.paths.inputSample] at turn
  refine turn.passed first (Device.Beside.members fade post _ fun y there => ?_)
  have of : y ∈ (d.prog n).record.listed := by rw [split]; exact List.mem_append_right _ (List.mem_cons_of_mem _ there)
  have a := aside y of (after y there) _ (first.paths.trans turn.paths)
  exact ⟨a, turn.passes _ _ a.1 (first.passes _ _ (clear n y.1 a.1 sounds (place y of)))⟩

end Sys2Proof.Machine
end

section
/-!
SUPPORT. A house sample of the programmes, seen from the one member whose line is at work.
-/

namespace Sys2Proof.Machine

variable {d e f u : Device} {n m k j : Ix8} {x : Sample} {z : Member} {fade : Int}

/-! ## The start of a programme's house sample (R53, R98 to R101, R135) -/

/-- The part with the fade steps, the slew counters and the ramps of one programme stepped. -/
def Device.begun (d : Device) (n : Ix8) : Device :=
  d.modProg n fun x => { x with delay := x.delay.advance, stage := x.stage.begin (x.record.state == .stopping) }

/-- The ramp of the trim and the stop fade, one house sample on (R53, R135). -/
theorem Stage.begin_eq (g : Stage) (stopping : Bool) : g.begin stopping = { g with
    trimRamp := g.trimRamp.map Ramp.advance, trim := (g.trimRamp.map Ramp.advance).elim g.trim Ramp.value
    stopStep := if stopping then min (g.stopStep + 1) 480 else g.stopStep } := by
  unfold Stage.begin Stage.trimSample
  cases h : g.trimRamp with
  | none =>
    cases g
    cases h
    cases stopping <;> rfl
  | some r => cases stopping <;> simp

theorem Device.begun_prog (d : Device) (n : Ix8) : (d.begun n).prog n = { d.prog n with
    delay := (d.prog n).delay.advance, stage := (d.prog n).stage.begin ((d.prog n).record.state == .stopping) } :=
  d.prog_modProg_self n _

/-- A line with its slew counter stepped while it slews (R98). -/
def Line.slewed (l : Line) : Line :=
  if l.change = .slewUp ∨ l.change = .slewDown then { l with slewCounter := l.slewCounter + 1 } else l

theorem Line.slewed_kept (l : Line) : l.slewed = { l with slewCounter := l.slewed.slewCounter } := by
  unfold Line.slewed
  split_ifs <;> rfl

theorem Device.begun_line (d : Device) (n m : Ix8) : (d.begun n).line n m = (d.line n m).slewed := by
  unfold Device.line
  rw [d.begun_prog]
  exact Oct.get_map _ _ m

theorem Device.begun_paths (d : Device) (n : Ix8) : d.PathsOnly (d.begun n) := .modProg n _ fun _ => rfl

theorem Device.begun_passes (d : Device) (n k j : Ix8) : (d.begun n).passes k j ↔ d.passes k j := by
  by_cases same : n = k
  · have line : (d.begun n).line n j = (d.line n j).slewed := d.begun_line n j
    unfold Device.passes
    rw [← same, line, Line.slewed_kept, d.begun_prog]
    rfl
  · have other : (d.begun n).prog k = d.prog k := (d.prog_modProg n k _).trans (if_neg same)
    unfold Device.passes Device.line
    rw [other]

theorem Device.PathsOnly.begun (h : d.PathsOnly e) (n : Ix8) : (d.begun n).PathsOnly (e.begun n) where
  frame := by
    rw [Device.begun, Device.begun, h.frame]
    rfl
  prog k := by
    have prog := h.prog k
    rw [Device.begun, Device.begun, Device.prog_modProg, Device.prog_modProg]
    split_ifs with same
    · rw [same, prog]
    · exact prog

theorem Device.Beside.begun (h : d.Beside n m e) : (d.begun n).Beside n m (e.begun n) := by
  have prog := h.paths.prog n
  refine ⟨h.paths.begun n, h.mem, fun k j p => ?_, ?_, ?_, ?_, ?_, ?_, ?_, ?_, fun one => ?_⟩
  · exact (e.begun_passes n k j).2 (h.passes k j ((d.begun_passes n k j).1 p))
  · rw [e.begun_line, d.begun_line, h.line]
  · rw [e.begun_prog, d.begun_prog]
    dsimp only
    rw [h.delay]
    rfl
  · rw [e.begun_prog, d.begun_prog]
    exact h.gain
  · rw [e.begun_prog, d.begun_prog]
    exact h.meter
  · rw [e.begun_prog, d.begun_prog]
    exact h.tap
  · rw [e.begun_prog, d.begun_prog]
    dsimp only
    rw [h.stage, prog, Stage.begin_eq, Stage.begin_eq]
  · rw [e.begun_prog, d.begun_prog]
    dsimp only
    rw [Stage.begin_eq, Stage.begin_eq]
    exact h.out
  · rw [d.begun_prog] at one
    rw [e.begun_prog, d.begun_prog]
    dsimp only
    rw [Stage.begin_eq, Stage.begin_eq]
    exact h.clips one

/-! ## The end of a programme's house sample (R132) -/

/-- What the house sample of the programmes leaves of the one member whose line is at work. -/
structure Device.Emerged (n m : Ix8) (x : Sample) (fade : Int) (d e : Device) : Prop where
  paths : d.PathsOnly e
  mem : e.mem = (d.stepOf n m x).mem
  line : e.line n m = { (d.stepOf n m x).line with spare := (e.line n m).spare }
  passes : ∀ k j, (k, j) ≠ (n, m) → d.passes k j → e.passes k j
  delay : (e.prog n).delay = { (d.prog n).delay with lines := (e.prog n).delay.lines }
  tap : (e.prog n).meter.members.get m =
    if d.active n then ((d.prog n).meter.members.get m).tap (d.prog n).meter.mode x else (d.prog n).meter.members.get m
  stage : (e.prog n).stage = { (d.prog n).stage with
    members := (e.prog n).stage.members, clips := (e.prog n).stage.clips }
  out : (e.prog n).stage.members.get m = { (d.prog n).stage.sampleOf m (d.prog n).gain.schedule
    (d.stepOf n m x).line.headIndex (d.stepOf n m x).delivered fade with
      pointer := ((e.prog n).stage.members.get m).pointer }
  sole : (d.prog n).record.members.length = 1 →
    let s := (d.prog n).gain.schedule
    let o := (d.prog n).stage.sampleOf m s (d.stepOf n m x).line.headIndex (d.stepOf n m x).delivered fade
    (e.prog n).stage.clips =
      (d.prog n).stage.clipsOf m s (d.stepOf n m x).line.headIndex (d.stepOf n m x).delivered ∧
    (e.prog n).gain = { (d.prog n).gain with schedule := s.drop (min s.length o.pointer) } ∧
    ((e.prog n).stage.members.get m).pointer = o.pointer - min s.length o.pointer

theorem Device.Emerged.beside (h : Device.Emerged n m x fade d e) (k : e.Beside n m f) : Device.Emerged n m x fade d f where
  paths := h.paths.trans k.paths
  mem := k.mem.trans h.mem
  line := by rw [k.line]; exact h.line
  passes a b other p := k.passes a b (h.passes a b other p)
  delay := by rw [k.delay, h.delay]
  tap := k.tap.trans h.tap
  stage := by rw [k.stage, h.stage]
  out := by rw [k.out]; exact h.out
  sole one := by
    rw [k.out, k.gain, k.clips (by rw [h.paths.prog]; exact one)]
    exact h.sole one

theorem Device.Emerged.after (h : Device.Emerged n m x fade e f) (k : d.Beside n m e) : Device.Emerged n m x fade d f := by
  have step := k.stepOf x
  have stage := k.stage
  have trim : (e.prog n).stage.trim = (d.prog n).stage.trim := by rw [stage]
  have stop : (e.prog n).stage.stopStep = (d.prog n).stage.stopStep := by rw [stage]
  have out (s : List GainEntry) (h : HouseIndex) (v : Option Sample) :
      (e.prog n).stage.sampleOf m s h v fade = (d.prog n).stage.sampleOf m s h v fade := Stage.sampleOf_congr k.out trim stop _ _ _ _
  refine ⟨k.paths.trans h.paths, ?_, ?_, fun a b other p => h.passes a b other (k.passes a b p), ?_, ?_, ?_, ?_, fun one => ?_⟩
  · rw [h.mem, step]
  · rw [h.line, step]
  · rw [h.delay, k.delay]
  · have mode : (e.prog n).meter.mode = (d.prog n).meter.mode := by rw [k.meter]
    rw [h.tap, k.paths.active, k.tap, mode]
  · rw [h.stage, stage]
  · rw [← out, ← k.gain, ← step]
    exact h.out
  · have sole := h.sole (by rw [k.paths.prog]; exact one)
    dsimp only at sole
    rw [out, step, k.gain, Stage.clipsOf_congr k.out trim (k.clips one)] at sole
    exact sole

theorem Record.positions_of_one {r : Record} (one : r.members.length = 1) : r.positions = [0] := by
  rw [r.positions_eq_take, one]
  rfl

theorem Device.Passed.pruned (h : Device.Passed n m x fade d u) (listed : (d.prog n).record.members[m.val]? = some z) :
    Device.Emerged n m x fade d (u.modProg n Programme.prune) := by
  obtain ⟨v, vDef⟩ : ∃ v, v = u.modProg n Programme.prune := ⟨_, rfl⟩
  have vProg : v.prog n = (u.prog n).prune := by rw [vDef, Device.prog_modProg_self]
  have delays (k : Ix8) : (v.prog k).delay = (u.prog k).delay := by
    rw [vDef, Device.prog_modProg]
    split_ifs with same
    · rw [same]
      rfl
    · rfl
  have lines (k j : Ix8) : v.line k j = u.line k j := by
    unfold Device.line
    rw [delays]
  obtain ⟨cut, cutDef⟩ : ∃ cut, cut = ((u.prog n).record.positions.map fun m => ((u.prog n).stage.members.get m).pointer).foldl min
    (u.prog n).gain.schedule.length := ⟨_, rfl⟩
  have gain : (v.prog n).gain = { (u.prog n).gain with schedule := (u.prog n).gain.schedule.drop cut } := by
    rw [vProg, cutDef]
    rfl
  have stage : (v.prog n).stage = { (u.prog n).stage with
      members := (u.prog n).stage.members.map fun k => { k with pointer := k.pointer - cut } } := by
    rw [vProg, cutDef]
    rfl
  have member : (v.prog n).stage.members.get m = { (u.prog n).stage.members.get m with
      pointer := ((u.prog n).stage.members.get m).pointer - cut } := by
    rw [stage]
    exact Oct.get_map _ _ m
  rw [← vDef]
  refine ⟨?_, ?_, ?_, fun k j other p => ?_, ?_, ?_, ?_, ?_, fun one => ?_⟩
  · rw [vDef]
    exact h.paths.trans (.modProg n _ fun _ => rfl)
  · rw [vDef]
    exact h.mem
  · rw [lines]
    exact h.line
  · have kept := h.passes k j other p
    unfold Device.passes at kept ⊢
    rw [lines, delays]
    exact kept
  · rw [delays]
    exact h.delay
  · rw [vProg]
    exact h.tap
  · rw [stage, h.stage]
  · rw [member, h.out]
  · intro s o
    have alone : m = 0 := Fin.ext (by
      have := (List.getElem?_eq_some_iff.1 listed).1
      change m.val = 0
      omega)
    have cutIs : cut = min s.length o.pointer := by
      rw [cutDef, Record.positions_of_one (by rw [h.paths.prog]; exact one), h.gain]
      change min s.length ((u.prog n).stage.members.get 0).pointer = _
      rw [← alone, h.out]
    refine ⟨?_, ?_, ?_⟩
    · rw [stage]
      exact h.clips one
    · rw [gain, cutIs, h.gain]
    · rw [member, cutIs, h.out]

theorem Device.workProgramme_emerged (clear : d.clear n m) (sounds : d.sounding n = true)
    (listed : (d.prog n).record.members[m.val]? = some z) :
    Device.Emerged n m (d.inputSample n z) (d.prog n).delay.advance.factor (d.begun n) (d.workProgramme n) := by
  have paths := d.begun_paths n
  have begun : (d.begun n).clear n m := Device.clear_of clear paths fun k j _ p => (d.begun_passes n k j).2 p
  have record : ((d.begun n).prog n).record = (d.prog n).record := by rw [d.begun_prog]
  have factor : ((d.begun n).prog n).delay.factor = (d.prog n).delay.advance.factor := by rw [d.begun_prog]
  have turns := Device.members_passed (d.prog n).delay.advance.factor begun
    (by rw [Device.sounding_iff] at sounds ⊢; rw [record]; exact sounds) (by rw [record]; exact listed)
  rw [paths.inputSample, record] at turns
  have whole : d.workProgramme n = ((d.prog n).record.listed.foldl
      (fun e m => e.workMember n (d.prog n).delay.advance.factor m) (d.begun n)).modProg n Programme.prune := by
    rw [← factor]
    exact if_pos sounds
  rw [whole]
  exact turns.pruned (by rw [record]; exact listed)

/-! ## The eight programmes -/

/-- The programmes in turn, seen from the one member whose line is at work. -/
theorem Device.programmes_emerged (clear : d.clear n m) (sounds : d.sounding n = true)
    (listed : (d.prog n).record.members[m.val]? = some z) :
    Device.Emerged n m (d.inputSample n z) (d.prog n).delay.advance.factor (d.begun n) (forEight d Device.workProgramme) := by
  obtain ⟨pre, post, split, before, after⟩ := exists_split (key := id) (l := eight) (by decide) (mem_eight n)
  have others (l : List Ix8) (apart : ∀ k ∈ l, k ≠ n) (d : Device) (clear : d.clear n m) :
      d.Beside n m (l.foldl Device.workProgramme d) := by
    induction l generalizing d with
    | nil => exact .refl d
    | cons k l ih =>
      have other := apart k (List.mem_cons_self ..)
      have first : d.Beside n m (d.workProgramme k) := Device.Beside.workProgramme other d fun sounds j listed =>
        clear k j (fun same => other (Prod.mk.inj same).1) sounds listed
      exact first.trans (ih (fun j later => apart j (List.mem_cons_of_mem _ later)) _
        (Device.clear_of clear first.paths fun k j _ p => first.passes k j p))
  obtain ⟨b, bDef⟩ : ∃ b, b = pre.foldl Device.workProgramme d := ⟨_, rfl⟩
  have first : d.Beside n m b := by
    rw [bDef]
    exact others pre before d clear
  have sounding : b.sounding n = true := by
    rw [Device.sounding_iff] at sounds ⊢
    rw [first.paths.prog]
    exact sounds
  have own := Device.workProgramme_emerged (Device.clear_of clear first.paths fun k j _ p => first.passes k j p) sounding
    (z := z) (by rw [first.paths.prog]; exact listed)
  rw [first.paths.inputSample] at own
  have factor : (b.prog n).delay.advance.factor = (d.prog n).delay.advance.factor := by
    rw [first.delay]
    rfl
  rw [factor] at own
  have later : (b.workProgramme n).clear n m :=
    Device.clear_of clear (first.paths.trans (.workProgramme b n)) fun k j other p => own.passes k j other
      ((b.begun_passes n k j).2 (first.passes k j p))
  have whole : forEight d Device.workProgramme = post.foldl Device.workProgramme (b.workProgramme n) := by
    rw [forEight, split, List.foldl_append, List.foldl_cons, ← bDef]
  rw [whole]
  exact (own.after first.begun).beside (others post after _ later)

end Sys2Proof.Machine
end

section
/-!
PROOF. The way of one member through a house sample (O34).
-/

namespace Sys2Proof.Machine

variable {d e f u : Device} {n m k j : Ix8} {x : Sample} {z : Member} {fade : Int} {l : Line}

/-! ## The line as a queue (R91, R98, R100) -/

/-- One house sample of a sound line, over its samples: the input goes to the tail, and the head goes unless it is
kept. -/
theorem Line.step_queue (sound : l.Sound) {mem : DelayMemory} (wf : mem.wf = true) (h : HouseIndex) (x : Sample) (w : LineWork) :
    let r := l.step mem h x w
    r.delivered = (if w = .frozen then none else some (if l.d = 0 then x else mem.read (l.wordAt 0))) ∧
    r.line.d = (if w = .normal then l.d else l.d + 1) ∧ r.line.headIndex = h - BitVec.ofNat 48 l.d ∧
    (∀ i, i < r.line.d → r.mem.read (r.line.wordAt i) =
      if w = .normal then (if i + 1 < l.d then mem.read (l.wordAt (i + 1)) else x)
      else if i < l.d then mem.read (l.wordAt i) else x) ∧
    (w ≠ .normal ∨ 1 ≤ l.d → r.mem.read l.tailWord = x ∧ ∀ a, a ≠ l.tailWord → r.mem.read a = mem.read a) ∧
    (w = .normal → l.d = 0 → r.mem = mem) := by
  obtain ⟨moves, bypasses, keeps⟩ := delayLineIsAQueue l mem h x sound wf
  intro r
  by_cases normal : w = .normal
  · rw [if_neg (show w ≠ .frozen by rw [normal]; nofun), if_pos normal]
    simp only [if_pos normal]
    have value : r = l.step mem h x .normal := by rw [← normal]
    rcases Nat.eq_zero_or_pos l.d with empty | some
    · have zero : h - BitVec.ofNat 48 l.d = h := by
        rw [empty]
        exact BitVec.sub_zero h
      rw [value, bypasses empty, if_pos empty, zero]
      exact ⟨rfl, rfl, rfl, fun i inside => absurd inside (by rw [show ({ l with headIndex := h } : Line).d = 0 from empty]; omega),
        fun some => absurd some (by rw [empty]; simp [normal]), fun _ _ => rfl⟩
    · obtain ⟨delivered, length, index, newest, older, tail, others⟩ := moves some
      rw [value, if_neg (by omega)]
      refine ⟨delivered, length, index, fun i inside => ?_, fun _ => ⟨tail, others⟩, fun _ empty => by omega⟩
      rw [length] at inside
      split_ifs with before
      · exact older i before
      · rw [show i = l.d - 1 by omega]
        exact newest
  · have which : w = .repeatHead ∨ w = .frozen := by
      cases w with
      | normal => exact absurd rfl normal
      | repeatHead => exact .inl rfl
      | frozen => exact .inr rfl
    obtain ⟨delivered, length, index, -, newest, older, tail, others⟩ := keeps w which
    rw [if_neg normal]
    simp only [if_neg normal]
    refine ⟨delivered, length, index, fun i inside => ?_, fun _ => ⟨tail, others⟩, fun h => absurd h normal⟩
    rw [length] at inside
    split_ifs with before
    · exact older i before
    · rw [show i = l.d by omega]
      exact newest

/-! ## The gain schedule and the ramps (R133 to R135) -/

theorem StageMember.gainSample_eq (k : StageMember) (schedule : List GainEntry) (head : HouseIndex) (frozen : Bool) :
    let passed := if frozen then [] else passedEntries schedule k.pointer head
    let ramp : Option Ramp := match passed.getLast? with
      | some q => some { start := k.applied, target := q.gain, step := 1 }
      | none => k.ramp.map Ramp.advance
    k.gainSample schedule head frozen = { k with
      pointer := k.pointer + passed.length, ramp := ramp, applied := ramp.elim k.applied Ramp.value } := by
  intro passed ramp
  have unfolded : k.gainSample schedule head frozen = match passed.getLast? with
      | some e => { k with
          pointer := k.pointer + passed.length, ramp := some { start := k.applied, target := e.gain, step := 1 }
          applied := Ramp.value { start := k.applied, target := e.gain, step := 1 } }
      | none => match k.ramp with
        | none => k
        | some r => { k with ramp := some r.advance, applied := r.advance.value } := by
    unfold StageMember.gainSample
    rfl
  rw [unfolded]
  change _ = { k with pointer := k.pointer + passed.length, ramp := ramp, applied := ramp.elim k.applied Ramp.value }
  have rampIs : ramp = match passed.getLast? with
      | some q => some { start := k.applied, target := q.gain, step := 1 }
      | none => k.ramp.map Ramp.advance := rfl
  rw [rampIs]
  cases last : passed.getLast? with
  | some q => rfl
  | none =>
    rw [List.getLast?_eq_none_iff.1 last]
    obtain ⟨applied, ramping, pointer, out⟩ := k
    cases ramping <;> rfl

/-! ## The source and the tap (R59, R66, R111, R113, R165) -/

theorem MeterMember.tap_spec (t : MeterMember) (mode : LoudMode) (x : Sample) :
    let filtered := fun (f : FilterStage) (b0 b1 b2 a1 a2 v : Rat) =>
      let w := b0 * v + b1 * f.v1 + b2 * f.v2 - a1 * f.w1 - a2 * f.w2
      ({ v1 := v, v2 := f.v1, w1 := w, w2 := f.w1 } : FilterStage)
    let low := filtered t.stage1 0.995383 (-1.990765) 0.995383 (-1.990744) 0.990787 ((x.toInt : Rat) / 8388608)
    let high := filtered t.stage2 1.441847 (-2.404118) 1.031317 (-1.595321) 0.664393 low.w1
    (mode = .off → t.tap mode x = { t with peak := max t.peak x.toInt.natAbs }) ∧
    (mode ≠ .off → t.tap mode x = { t with
      peak := max t.peak x.toInt.natAbs, stage1 := low, stage2 := high, energy := t.energy + high.w1 * high.w1 }) := by
  intro filtered low high
  have first : lowCut = ⟨0.995383, -1.990765, 0.995383, -1.990744, 0.990787⟩ := by norm_num [lowCut]
  have second : highShelf = ⟨1.441847, -2.404118, 1.031317, -1.595321, 0.664393⟩ := by norm_num [highShelf]
  have running : (({ t with peak := max t.peak (magnitude x) } : MeterMember).filter x) = { t with
      peak := max t.peak x.toInt.natAbs, stage1 := low, stage2 := high, energy := t.energy + high.w1 * high.w1 } := by
    unfold MeterMember.filter
    rw [first, second]
    rfl
  refine ⟨fun off => ?_, fun on => ?_⟩
  · rw [off]
    rfl
  · cases mode with
    | off => exact absurd rfl on
    | measure => exact running
    | correct => exact running

theorem Device.readied_input (d : Device) (n : Ix8) (z : Member) :
    let x := d.prog n
    let register := (x.gen.register <<< 1) |||
      (if (x.gen.register.getLsbD 22 ^^ x.gen.register.getLsbD 17) = true then 1 else 0)
    let amplitude : Int := if register.getLsbD 0 = true then x.gen.amplitude else -(x.gen.amplitude : Int)
    let from_ := fun (q : Source) => ((d.port q.port).path.headD ⟨0, 0, 0, 0⟩).get q.slot
    let present := from_ (z.on x.ctx.selection)
    let step := if x.record.state = .active then min (x.ctx.fadeStep + 1) 480 else x.ctx.fadeStep
    d.readied.inputSample n z =
      if x.gen.on = true then saturate amplitude
      else match x.ctx.state, x.ctx.target, z.backup with
        | .fading, some t, some _ =>
          saturate (roundDiv ((480 - step) * present.toInt + step * (from_ (z.on t.1)).toInt) 480)
        | _, _, _ => present := by
  intro x register amplitude from_ present step
  obtain ⟨-, prog, port, -⟩ := d.readied_spec
  obtain ⟨r, rDef⟩ : ∃ r, r = d.readied := ⟨_, rfl⟩
  rw [← rDef] at prog port ⊢
  have arriving (q : Source) : r.arriving q = from_ q := by
    rw [Device.arriving_eq, port, Port.sampled_path]
  have on : (x.gen.sample d.time).on = x.gen.on := by
    unfold Generator.sample
    split_ifs <;> rfl
  obtain ⟨state, target, selection, fading⟩ : (d.counted n).state = x.ctx.state ∧ (d.counted n).target = x.ctx.target ∧
      (d.counted n).selection = x.ctx.selection ∧ (x.ctx.state = .fading → (d.counted n).fadeStep = step) := by
    have counts := (x.ctx.count_spec x.record.settings (d.allQuiet n)).1
    unfold Device.counted
    split_ifs with active
    · rw [show (d.prog n).ctx.count (d.prog n).record.settings (d.allQuiet n) = _ from counts]
      exact ⟨rfl, rfl, rfl, fun h => (if_pos h).trans (if_pos (Device.active_iff.1 active)).symm⟩
    · exact ⟨rfl, rfl, rfl, fun _ => (if_neg fun h => active (Device.active_iff.2 h)).symm⟩
  unfold Device.inputSample
  rw [prog]
  dsimp only
  rw [on]
  split_ifs with sounds
  · have stepped : x.gen.sample d.time = { x.gen with register := register, epochs := (x.gen.sample d.time).epochs } := by
      rw [(x.gen.sample_spec d.time).2 sounds]
    rw [stepped, Generator.output_eq]
  · unfold Device.selected Programme.currentSource
    dsimp only
    rw [prog]
    dsimp only
    rw [state, target, selection, ← Member.on_eq, arriving]
    cases inState : x.ctx.state with
    | idle => rfl
    | pending => rfl
    | fading =>
      cases toward : x.ctx.target with
      | none => rfl
      | some t =>
        dsimp only
        unfold Member.watched
        cases z.backup with
        | none => rfl
        | some b =>
          rw [fading inState, ← Member.on_eq, arriving]
          rfl

/-! ## The part that a house sample leaves (R7) -/

theorem Device.concluded_prog (w : Device) (n : Ix8) : w.concluded.prog n = w.prog n := by
  rw [Device.concluded, checkers_eq]
  rfl

theorem Device.concluded_mem (w : Device) : w.concluded.mem = w.mem := by
  rw [Device.concluded, checkers_eq]
  rfl

theorem Device.loopedArrivals_unlooped (unlooped : ∀ p, ¬ d.looped p) (frames : Option LaneFrames) :
    d.loopedArrivals frames = d := by
  cases frames with
  | none => rfl
  | some o =>
    rw [Device.loopedArrivals_some]
    refine forEight_holds (P := (· = d)) (f := fun e p => e.loopedArrival o p) (fun e p same => ?_) rfl
    rw [same]
    exact Device.loopedArrival_unlooped o (unlooped p)

/-- What the work of a house sample leaves of a programme and of the delay memory is what the programmes do. -/
theorem Device.work_prog (d : Device) (n : Ix8) :
    d.work.mem = (forEight d.readied Device.workProgramme).mem ∧
    d.work.prog n = { (forEight d.readied Device.workProgramme).prog n with delay := (d.work.prog n).delay } ∧
    ((∀ p : Ix8, (d.port p).lane.enabled = false ∨ (d.port p).lane.source = .pins) →
      d.work.prog n = (forEight d.readied Device.workProgramme).prog n) := by
  have labour := d.labour.port
  have whole := d.work_eq
  obtain ⟨w, wDef⟩ : ∃ w, w = forEight d.readied Device.workProgramme := ⟨_, rfl⟩
  rw [← wDef] at labour whole ⊢
  have arrivals := w.concluded.loopedArrivals_in d.emitted
  rw [← whole] at arrivals
  refine ⟨?_, ?_, fun pins => ?_⟩
  · rw [arrivals.frame]
    exact w.concluded_mem
  · rw [arrivals.prog, w.concluded_prog]
  · have unlooped (p : Ix8) : ¬ w.concluded.looped p := by
      rintro ⟨enabled, source⟩
      have lane : (w.concluded.port p).lane = (d.port p).lane := by
        rw [labour]
        exact (d.port p).sampled_lane
      rw [lane] at enabled source
      rcases pins p with off | pins
      · exact absurd (off.symm.trans enabled) nofun
      · exact source pins
    rw [whole, Device.loopedArrivals_unlooped unlooped, w.concluded_prog]

theorem Device.readied_clear (passing : ∀ k j : Ix8, (k, j) ≠ (n, m) →
    (d.prog k).record.state = .active ∨ (d.prog k).record.state = .stopping →
      j.val < (d.prog k).record.members.length → d.passes k j) : d.readied.clear n m := by
  obtain ⟨-, prog, -, -⟩ := d.readied_spec
  intro k j other sounds listed
  rw [Device.sounding_iff, prog] at sounds
  rw [prog] at listed
  have kept := passing k j other sounds listed
  unfold Device.passes Device.line at kept ⊢
  rw [prog]
  exact kept

/-- What the work of a house sample leaves of a member beside lines that pass their input through. -/
theorem Device.work_emerged (passing : ∀ k j : Ix8, (k, j) ≠ (n, m) →
      (d.prog k).record.state = .active ∨ (d.prog k).record.state = .stopping →
      j.val < (d.prog k).record.members.length → d.passes k j)
    (sounds : (d.prog n).record.state = .active ∨ (d.prog n).record.state = .stopping)
    (listed : (d.prog n).record.members[m.val]? = some z) (input : d.readied.inputSample n z = x) :
    let p := d.prog n
    let r := (d.line n m).slewed.step d.mem d.time.h x (p.delay.advance.workOf m)
    let g := p.stage.begin (p.record.state == .stopping)
    let o := g.sampleOf m p.gain.schedule r.line.headIndex r.delivered p.delay.advance.factor
    let y := d.work.prog n
    d.work.mem = r.mem ∧ y.stage = { g with members := y.stage.members, clips := y.stage.clips } ∧
    y.stage.members.get m = { o with pointer := (y.stage.members.get m).pointer } ∧
    y.meter.members.get m = (if p.record.state = .active then (p.meter.members.get m).tap p.meter.mode x
      else p.meter.members.get m) ∧
    (p.record.members.length = 1 →
      y.stage.clips = g.clipsOf m p.gain.schedule r.line.headIndex r.delivered ∧
      y.gain = { p.gain with schedule := p.gain.schedule.drop (min p.gain.schedule.length o.pointer) } ∧
      (y.stage.members.get m).pointer = o.pointer - min p.gain.schedule.length o.pointer) ∧
    ((∀ p : Ix8, (d.port p).lane.enabled = false ∨ (d.port p).lane.source = .pins) →
      y.delay = { p.delay.advance with lines := y.delay.lines } ∧
      d.work.line n m = { r.line with spare := (d.work.line n m).spare }) := by
  intro p r g o y
  obtain ⟨frame, prog, -, -⟩ := d.readied_spec
  have clear := Device.readied_clear passing
  obtain ⟨mem, own, whole⟩ := d.work_prog n
  obtain ⟨c, cDef⟩ : ∃ c, c = d.readied := ⟨_, rfl⟩
  rw [← cDef] at frame prog clear mem own whole input
  have emerged := Device.programmes_emerged clear (by rw [Device.sounding_iff, prog]; exact sounds) (z := z) (by rw [prog]; exact listed)
  obtain ⟨w, wDef⟩ : ∃ w, w = forEight c Device.workProgramme := ⟨_, rfl⟩
  rw [← wDef] at mem own whole emerged
  have begun : (c.begun n).prog n = { p with
      gen := p.gen.sample d.time, ctx := d.counted n, delay := p.delay.advance, stage := g } := by
    rw [c.begun_prog, prog]
  have step : (c.begun n).stepOf n m x = r := by
    have line : (c.begun n).line n m = (d.line n m).slewed := by
      rw [c.begun_line]
      unfold Device.line
      rw [prog]
    unfold Device.stepOf
    rw [line, begun, Device.begun, frame]
    rfl
  have factor : (c.prog n).delay.advance.factor = p.delay.advance.factor := by rw [prog]
  rw [input, factor] at emerged
  obtain ⟨-, eMem, eLine, -, eDelay, eTap, eStage, eOut, eSole⟩ := emerged
  rw [step] at eMem eLine eOut
  rw [begun] at eDelay eTap eStage eOut
  have active : (c.begun n).active n = true ↔ p.record.state = .active := by
    rw [Device.active_iff, begun]
  refine ⟨mem.trans eMem, ?_, ?_, ?_, fun one => ?_, fun pins => ⟨?_, ?_⟩⟩
  · rw [show y.stage = (w.prog n).stage by rw [show y = _ from own]]
    exact eStage
  · rw [show y.stage = (w.prog n).stage by rw [show y = _ from own]]
    exact eOut
  · rw [show y.meter = (w.prog n).meter by rw [show y = _ from own], eTap]
    exact if_congr active rfl rfl
  · have sole := eSole (by rw [begun]; exact one)
    dsimp only at sole
    rw [step, begun] at sole
    rw [show y.stage = (w.prog n).stage by rw [show y = _ from own], show y.gain = (w.prog n).gain by rw [show y = _ from own]]
    exact sole
  · rw [show y.delay = (w.prog n).delay by rw [show y = _ from whole pins]]
    exact eDelay
  · have line : d.work.line n m = w.line n m := congrArg (fun q : Programme => q.delay.lines.get m) (whole pins)
    rw [line]
    exact eLine

/-! ## The line's work, the fade factor and the trim -/

theorem Delay.advance_workOf (x : Delay) (m : Ix8) :
    (x.advance.workOf m = .frozen ↔ x.fade = .gap ∧ 0 < (x.lines.get m).freeze ∧ x.fadeStep + 1 ≤ (x.lines.get m).freeze) ∧
    (x.advance.workOf m = .repeatHead ↔
      x.fade = .none ∧ (x.lines.get m).change = .slewUp ∧ (x.lines.get m).slewCounter = 255) := by
  have line : x.advance.lines.get m = (x.lines.get m).slewed := Oct.get_map _ _ m
  have step : x.advance.fadeStep = if x.fade = .none then x.fadeStep else x.fadeStep + 1 := rfl
  have fade : x.advance.fade = x.fade := rfl
  obtain ⟨l, lDef⟩ : ∃ l, l = x.lines.get m := ⟨_, rfl⟩
  unfold Delay.workOf
  dsimp only
  rw [line, step, fade, ← lDef]
  cases x.fade with
  | none =>
    unfold Line.slewed
    by_cases up : l.change = .slewUp
    · by_cases turn : l.slewCounter = 255 <;> simp [up, turn]
    · by_cases down : l.change = .slewDown <;> simp [up, down]
  | fadeOut => simp
  | gap =>
    have freeze : l.slewed.freeze = l.freeze := by rw [Line.slewed_kept]
    rw [freeze, if_neg (show FadeCtx.gap ≠ .none by nofun)]
    dsimp only
    by_cases still : x.fadeStep + 1 ≤ l.freeze ∧ 0 < l.freeze
    · rw [if_pos still]
      exact ⟨⟨fun _ => ⟨rfl, still.symm⟩, fun _ => rfl⟩, nofun, fun h => nomatch h.1⟩
    · rw [if_neg still]
      exact ⟨⟨nofun, fun h => absurd h.2.symm still⟩, nofun, fun h => nomatch h.1⟩
  | fadeIn => simp

theorem Delay.advance_factor (x : Delay) : x.advance.factor = match x.fade with
    | .none => 240
    | .fadeOut => 240 - ((x.fadeStep + 1 : Nat) : Int)
    | .gap => 0
    | .fadeIn => ((x.fadeStep + 1 : Nat) : Int) := by
  unfold Delay.factor Delay.advance
  cases x.fade <;> rfl

theorem List.drop_min_length {α : Type} (l : List α) (k : Nat) : l.drop (min l.length k) = l.drop k := by
  rcases Nat.le_total l.length k with h | h
  · rw [Nat.min_eq_left h, List.drop_length, List.drop_eq_nil_of_le h]
  · rw [Nat.min_eq_right h]

/-- A slewing line is the same queue. -/
theorem Line.slewed_queue (sound : l.Sound) {mem : DelayMemory} (wf : mem.wf = true) (h : HouseIndex) (x : Sample) (w : LineWork) :
    let r := l.slewed.step mem h x w
    r.delivered = (if w = .frozen then none else some (if l.d = 0 then x else mem.read (l.wordAt 0))) ∧
    r.line.d = (if w = .normal then l.d else l.d + 1) ∧ r.line.headIndex = h - BitVec.ofNat 48 l.d ∧
    (∀ i, i < r.line.d → r.mem.read (r.line.wordAt i) =
      if w = .normal then (if i + 1 < l.d then mem.read (l.wordAt (i + 1)) else x)
      else if i < l.d then mem.read (l.wordAt i) else x) ∧
    (w ≠ .normal ∨ 1 ≤ l.d → r.mem.read l.tailWord = x ∧ ∀ a, a ≠ l.tailWord → r.mem.read a = mem.read a) ∧
    (w = .normal → l.d = 0 → r.mem = mem) := by
  rw [Line.slewed_kept]
  exact Line.step_queue (l := { l with slewCounter := l.slewed.slewCounter }) sound wf h x w

theorem Delay.advance_normal (x : Delay) (m : Ix8) : x.advance.workOf m = .normal ↔
    ¬ ((x.fade = .gap ∧ 0 < (x.lines.get m).freeze ∧ x.fadeStep + 1 ≤ (x.lines.get m).freeze) ∨
      (x.fade = .none ∧ (x.lines.get m).change = .slewUp ∧ (x.lines.get m).slewCounter = 255)) := by
  rw [← (x.advance_workOf m).1, ← (x.advance_workOf m).2]
  cases x.advance.workOf m <;> simp

/-- Settles O34: the member's turn among lines that pass their inputs through, part by part. -/
theorem houseSamplePassesAMember : Obligations.HouseSamplePassesAMember := by
  unfold Obligations.HouseSamplePassesAMember
  intro s pace n m z idle takes e x l sounds listed sound wf passing
  have done := exec_houseSample idle takes
  have input' := e.readied_input n z
  have emerged := Device.work_emerged passing sounds listed rfl
  change exec (.houseSample pace) s = .next { s with dev := e.work } at done
  clear_value e
  extract_lets h register amplitude from_ present step input fadeStep factor frozen repeats keeps tail t filtered low high
    delivered k passed ramp at_ applied trimRamp trim stop product
  rw [show e.readied.inputSample n z = input from input'] at emerged
  clear input'
  refine ⟨_, done, ?_⟩
  extract_lets r g o y stepped at emerged
  obtain ⟨mem, stage, out, tap, sole, lines⟩ := emerged
  have frozenIff : x.delay.advance.workOf m = .frozen ↔ frozen := (x.delay.advance_workOf m).1
  have normalIff : x.delay.advance.workOf m = .normal ↔ ¬ keeps := x.delay.advance_normal m
  obtain ⟨gives, length, head, samples, wrote, kept⟩ := Line.slewed_queue sound wf e.time.h input (x.delay.advance.workOf m)
  have begun := x.stage.begin_eq (x.record.state == .stopping)
  have trimIs : g.trim = trim := by
    have ramps (q : Option Ramp) : (q.map Ramp.advance).elim x.stage.trim Ramp.value =
        match q.map fun r => { r with step := min (r.step + 1) 480 } with
        | some r => at_ r
        | none => x.stage.trim := by cases q <;> rfl
    exact (congrArg Stage.trim begun).trans (ramps x.stage.trimRamp)
  have rampIs : g.trimRamp = trimRamp := congrArg Stage.trimRamp begun
  have stopIs : g.stopStep = stop := (congrArg Stage.stopStep begun).trans (if_congr beq_iff_eq rfl rfl)
  have silent : r.delivered = if frozen then none else some delivered := gives.trans (if_congr frozenIff rfl rfl)
  have passedIs : (if r.delivered.isNone then [] else passedEntries x.gain.schedule k.pointer r.line.headIndex) = passed := by
    rw [silent, show r.line.headIndex = _ from head]
    by_cases still : frozen
    · rw [if_pos still]
      exact (if_pos still).symm
    · rw [if_neg still]
      exact (if_neg still).symm
  have sampled : (g.members.get m).gainSample x.gain.schedule r.line.headIndex r.delivered.isNone =
      { k with pointer := k.pointer + passed.length, ramp := ramp, applied := applied } := by
    rw [show g.members = x.stage.members by rw [show g = _ from begun]]
    refine (StageMember.gainSample_eq _ _ _ _).trans ?_
    rw [show (x.stage.members.get m).pointer = k.pointer from rfl, passedIs]
    have valued (q : Option Ramp) : q.elim k.applied Ramp.value = match q with
        | some r => at_ r
        | none => k.applied := by cases q <;> rfl
    exact congrArg (fun a => ({ k with pointer := k.pointer + passed.length, ramp := ramp, applied := a } : StageMember))
      (valued ramp)
  have total : gained delivered (gainFactor (totalGain applied trim)) = product := by
    unfold totalGain gained
    rw [clampInt_eq (by decide)]
  have applies : ((g.members.get m).gainSample x.gain.schedule r.line.headIndex r.delivered.isNone).applied = applied := by
    rw [sampled]
  have member : o = { k with
      pointer := k.pointer + passed.length, ramp := ramp, applied := applied
      out := if frozen then 0 else scale (saturate product) (factor * (480 - stop)) 115200 } := by
    have faded : (r.delivered.elim 0 fun x =>
        faded (saturate (gained x (gainFactor (totalGain applied g.trim)))) stepped.factor (stopFactor g.stopStep)) =
        if frozen then 0 else scale (saturate product) (factor * (480 - stop)) 115200 := by
      rw [silent, trimIs, stopIs, show stepped.factor = factor from x.delay.advance_factor]
      by_cases still : frozen
      · rw [if_pos still, if_pos still]
        rfl
      · rw [if_neg still, if_neg still, ← total]
        rfl
    rw [← faded]
    change { (g.members.get m).gainSample x.gain.schedule r.line.headIndex r.delivered.isNone with
      out := r.delivered.elim 0 fun v =>
        Sys2Proof.Machine.faded (saturate (gained v (gainFactor (totalGain
          ((g.members.get m).gainSample x.gain.schedule r.line.headIndex r.delivered.isNone).applied g.trim)))) stepped.factor
            (stopFactor g.stopStep) } = _
    rw [sampled]
  have clips : g.clipsOf m x.gain.schedule r.line.headIndex r.delivered =
      if ¬ frozen ∧ (product < -8388608 ∨ 8388607 < product) then addSat x.stage.clips 1 else x.stage.clips := by
    have count : g.clips = x.stage.clips := by rw [show g = _ from begun]
    by_cases still : frozen
    · rw [silent, if_pos still, if_neg fun h => h.1 still]
      exact count
    · have delivers : r.delivered = some delivered := by rw [silent, if_neg still]
      rw [delivers] at sampled
      rw [delivers]
      unfold Stage.clipsOf
      dsimp only [Option.elim_some]
      rw [show ((g.members.get m).gainSample x.gain.schedule r.line.headIndex false).applied = applied by
        rw [show (g.members.get m).gainSample x.gain.schedule r.line.headIndex false = _ from sampled], trimIs, total, count]
      refine if_congr ?_ rfl rfl
      unfold overflows
      rw [Bool.or_eq_true, decide_eq_true_iff, decide_eq_true_iff]
      exact (and_iff_right still).symm
  rw [member] at out sole
  rw [trimIs, rampIs, stopIs] at stage
  rw [clips] at sole
  have tapped := MeterMember.tap_spec t x.meter.mode input
  have touched := l.slewed.step_kept e.mem h input (x.delay.advance.workOf m)
  have slews := l.slewed_kept
  refine ⟨?_, ?_, ?_, ?_, ?_, ?_, fun one => ⟨?_, ?_, fun within => ?_⟩, fun pins => ⟨?_, ?_⟩, fun some => ?_, fun moves empty => ?_,
    fun idle => ?_, fun active => ⟨fun off => ?_, fun on => ?_⟩⟩
  · exact congrArg StageMember.applied out
  · exact congrArg StageMember.ramp out
  · exact congrArg Stage.trim stage
  · exact congrArg Stage.trimRamp stage
  · exact congrArg Stage.stopStep stage
  · exact congrArg StageMember.out out
  · exact (sole one).1
  · refine (sole one).2.1.trans ?_
    rw [List.drop_min_length]
  · refine (sole one).2.2.trans ?_
    rw [Nat.min_eq_right within]
    exact Nat.sub_self _
  · exact congrArg Delay.fadeStep (lines pins).1
  · have line := (lines pins).2
    have change : r.line.change = l.change ∧ r.line.remaining = l.remaining ∧ r.line.freeze = l.freeze ∧
        r.line.dNew = l.dNew ∧ r.line.dReq = l.dReq := by
      rw [show r.line = _ from touched, slews]
      exact ⟨rfl, rfl, rfl, rfl, rfl⟩
    have counter : r.line.slewCounter = if l.change = .slewUp ∨ l.change = .slewDown then l.slewCounter + 1
        else l.slewCounter := by
      rw [show r.line = _ from touched]
      dsimp only
      unfold Line.slewed
      split_ifs <;> rfl
    obtain ⟨changed, remaining, freeze, dNew, dReq⟩ := change
    have long : r.line.d = if keeps then l.d + 1 else l.d := by
      refine length.trans ?_
      rw [if_congr normalIff rfl rfl, ite_not]
    rw [line]
    refine ⟨long, head, counter, changed, remaining, freeze, dNew, dReq, fun i inside => ?_⟩
    rw [mem]
    refine (samples i inside).trans ?_
    rw [if_congr normalIff rfl rfl, ite_not]
  · rw [mem]
    exact wrote (some.imp_left fun keeping => fun normal => normalIff.1 normal keeping)
  · exact mem.trans (kept (normalIff.2 moves) empty)
  · exact tap.trans (if_neg idle)
  · exact (tap.trans (if_pos active)).trans (tapped.1 off)
  · exact (tap.trans (if_pos active)).trans (tapped.2 on)

end Sys2Proof.Machine
end

section
/-!
PROOF. Levels, loudness figures, amplitudes and gain factors are exact rounded logarithms and powers (O55).
-/

namespace Sys2Proof.Machine

/-! ## The search -/

/-- A search for the greatest number up to a bound answers that bound, kept within the range of the search. -/
theorem greatest_eq {test : Int → Bool} {bound : Int} (bits : Nat) {lo : Int}
    (is : ∀ t, lo ≤ t → (test t = true ↔ t ≤ bound)) :
    greatest test bits lo = max lo (min bound (lo + 2 ^ bits - 1)) := by
  induction bits generalizing lo with
  | zero =>
    unfold greatest
    rw [pow_zero]
    omega
  | succ k ih =>
    have two : (2 : Int) ^ (k + 1) = 2 ^ k + 2 ^ k := by ring
    have pos : (0 : Int) < 2 ^ k := by positivity
    unfold greatest
    split_ifs with h
    · have reached := (is _ (by omega)).1 h
      rw [ih fun t low => is t (by omega)]
      omega
    · have missed := (is (lo + 2 ^ k) (by omega)).not.1 h
      rw [ih is]
      omega

theorem greatest_false {test : Int → Bool} (never : ∀ t, test t = false) (bits : Nat) (lo : Int) :
    greatest test bits lo = lo := by
  induction bits with
  | zero => rfl
  | succ k ih =>
    unfold greatest
    rw [never]
    exact ih

/-! ## Powers of ten and logarithms -/

theorem zpow_le_pow_iff {x : ℝ} (pos : 0 < x) (k : ℤ) (n : ℕ) : (10 : ℝ) ^ k ≤ x ^ n ↔ (k : ℝ) ≤ n * Real.logb 10 x := by
  rw [← Real.logb_pow, Real.le_logb_iff_rpow_le (by norm_num) (by positivity), Real.rpow_intCast]

/-- The comparison of a power of ten with a power of a ratio is one of a rounded logarithm. -/
theorem tenTimesLe_ratio_iff {a b : ℕ} (hb : 0 < b) (ha : 0 < a) (n : ℕ) (t : ℤ) :
    tenTimesLe (2 * t - 1) (b ^ (2 * n)) (a ^ (2 * n)) = true ↔ t ≤ ⌊n * Real.logb 10 ((a : ℝ) / b) + 1 / 2⌋ := by
  have den : (0 : ℝ) < b := by exact_mod_cast hb
  have num : (0 : ℝ) < a := by exact_mod_cast ha
  rw [tenTimesLe_iff, Int.le_floor, Nat.cast_pow, Nat.cast_pow, ← le_div_iff₀ (by positivity), ← div_pow,
    zpow_le_pow_iff (by positivity)]
  push_cast
  constructor <;> intro h <;> linarith

theorem tenTimesLe_zero {k : ℤ} {a n : ℕ} (ha : 0 < a) (hn : n ≠ 0) : tenTimesLe k a (0 ^ n) = false := by
  refine eq_false_of_ne_true fun h => ?_
  rw [tenTimesLe_iff, zero_pow hn, Nat.cast_zero] at h
  have : (0 : ℝ) < 10 ^ k * a := by
    have : (0 : ℝ) < a := by exact_mod_cast ha
    positivity
  linarith

/-! ## Levels and loudness figures (R14, R117, R118) -/

theorem levelOf_eq {peak : Nat} (some : 0 < peak) (inside : peak ≤ 8388608) :
    levelOf peak = max (-999) (min 0 ⌊200 * Real.logb 10 ((peak : ℝ) / 8388608) + 1 / 2⌋) := by
  have reaches (t : ℤ) := tenTimesLe_ratio_iff (a := peak) (b := 8388608) (by norm_num) some 200 t
  have low : ⌊200 * Real.logb 10 ((peak : ℝ) / 8388608) + 1 / 2⌋ ≤ 0 := by
    have ratio : (peak : ℝ) / 8388608 ≤ 1 := by
      rw [div_le_one (by norm_num)]
      exact_mod_cast inside
    have negative := Real.logb_nonpos (b := 10) (by norm_num) (by positivity) ratio
    rw [← Int.lt_add_one_iff, Int.floor_lt]
    push_cast
    linarith
  simp only [Nat.cast_ofNat, Nat.reduceMul] at reaches
  unfold levelOf
  rw [greatest_eq 10 fun t _ => reaches t, clampInt_eq (by norm_num)]
  norm_num at low ⊢
  omega

theorem levelOf_zero : levelOf 0 = -999 := by
  unfold levelOf
  rw [greatest_false (fun t => tenTimesLe_zero (by positivity) (by norm_num)) 10]
  rfl

theorem loudnessOf_eq {e : Rat} (pos : 0 < e) :
    loudnessOf e = max (-999) (min 99 ⌊100 * Real.logb 10 (e : ℝ) + 1 / 2⌋) := by
  have num : 0 < e.num.toNat := by
    have := Rat.num_pos.2 pos
    omega
  have ratio : ((e.num.toNat : ℕ) : ℝ) / (e.den : ℝ) = (e : ℝ) := by
    have whole : ((e.num.toNat : ℕ) : ℝ) = (e.num : ℝ) := by
      have : ((e.num.toNat : ℕ) : ℤ) = e.num := Int.toNat_of_nonneg (Rat.num_pos.2 pos).le
      exact_mod_cast this
    rw [whole, Rat.cast_def]
  have reaches (t : ℤ) := tenTimesLe_ratio_iff e.den_pos num 100 t
  rw [ratio] at reaches
  simp only [Nat.cast_ofNat, Nat.reduceMul] at reaches
  unfold loudnessOf
  rw [greatest_eq 11 fun t _ => reaches t, clampInt_eq (by norm_num)]
  norm_num
  omega

theorem loudnessOf_zero : loudnessOf 0 = -999 := by
  unfold loudnessOf
  rw [show (Rat.num 0).toNat = 0 from rfl, greatest_false (fun t => tenTimesLe_zero (pow_pos (Rat.den_pos 0) 200) (by norm_num)) 11]
  rfl

/-! ## Amplitudes and gain factors (R64, R136, R165) -/

/-- A search for a rounded power of ten. -/
theorem tenTimesLe_root_iff (half n : ℕ) (hn : n ≠ 0) (some : 0 < half) (k a : ℤ) :
    tenTimesLe (-k) ((2 * a - 1).toNat ^ n) ((2 * half) ^ n) = true ↔ a ≤ ⌊half * (10 : ℝ) ^ ((k : ℝ) / n) + 1 / 2⌋ := by
  have top : (0 : ℝ) < half := by exact_mod_cast some
  have root : ((10 : ℝ) ^ ((k : ℝ) / n)) ^ n = (10 : ℝ) ^ k := by
    rw [← Real.rpow_natCast, ← Real.rpow_mul (by norm_num), div_mul_cancel₀ _ (by exact_mod_cast hn), Real.rpow_intCast]
  have pos : (0 : ℝ) < (10 : ℝ) ^ ((k : ℝ) / n) := by positivity
  rw [tenTimesLe_iff, Int.le_floor, Nat.cast_pow, Nat.cast_pow, zpow_neg, inv_mul_le_iff₀ (by positivity), ← root, ← mul_pow,
    pow_le_pow_iff_left₀ (by positivity) (by positivity) hn]
  rcases le_or_gt a 0 with low | high
  · have none : (2 * a - 1).toNat = 0 := by omega
    have negative : (a : ℝ) ≤ 0 := by exact_mod_cast low
    rw [none, Nat.cast_zero]
    refine ⟨fun _ => ?_, fun _ => by positivity⟩
    have : 0 < (half : ℝ) * (10 : ℝ) ^ ((k : ℝ) / n) := by positivity
    linarith
  · have whole : (((2 * a - 1).toNat : ℕ) : ℝ) = 2 * a - 1 := by
      have : (((2 * a - 1).toNat : ℕ) : ℤ) = 2 * a - 1 := Int.toNat_of_nonneg (by omega)
      exact_mod_cast this
    rw [whole]
    push_cast
    constructor <;> intro h <;> linarith

theorem amplitudeOf_eq {level : Int} (low : level ≤ 0) :
    (amplitudeOf level : Int) = ⌊8388608 * (10 : ℝ) ^ ((level : ℝ) / 200) + 1 / 2⌋ := by
  have reaches (a : ℤ) := tenTimesLe_root_iff 8388608 200 (by norm_num) (by norm_num) level a
  simp only [Nat.cast_ofNat, Nat.reduceMul] at reaches
  have negative : (level : ℝ) / 200 ≤ 0 := by
    have : (level : ℝ) ≤ 0 := by exact_mod_cast low
    linarith
  have bound : ⌊8388608 * (10 : ℝ) ^ ((level : ℝ) / 200) + 1 / 2⌋ ≤ 8388608 := by
    have below := Real.rpow_le_one_of_one_le_of_nonpos (x := 10) (by norm_num) negative
    rw [← Int.lt_add_one_iff, Int.floor_lt]
    push_cast
    linarith
  have nonneg : 0 ≤ ⌊8388608 * (10 : ℝ) ^ ((level : ℝ) / 200) + 1 / 2⌋ := Int.floor_nonneg.2 (by positivity)
  unfold amplitudeOf
  rw [greatest_eq 24 fun a _ => reaches a]
  norm_num at bound nonneg ⊢
  omega

theorem gainFactor_eq {total : Int} (low : total ≤ 2000) :
    gainFactor total = ⌊1048576 * (10 : ℝ) ^ ((total : ℝ) / 2000) + 1 / 2⌋ := by
  have reaches (a : ℤ) := tenTimesLe_root_iff 1048576 2000 (by norm_num) (by norm_num) total a
  simp only [Nat.cast_ofNat, Nat.reduceMul] at reaches
  have little : (total : ℝ) / 2000 ≤ 1 := by
    have : (total : ℝ) ≤ 2000 := by exact_mod_cast low
    linarith
  have bound : ⌊1048576 * (10 : ℝ) ^ ((total : ℝ) / 2000) + 1 / 2⌋ ≤ 10485760 := by
    have below : (10 : ℝ) ^ ((total : ℝ) / 2000) ≤ 10 ^ (1 : ℝ) := Real.rpow_le_rpow_of_exponent_le (by norm_num) little
    rw [Real.rpow_one] at below
    rw [← Int.lt_add_one_iff, Int.floor_lt]
    push_cast
    linarith
  have nonneg : 0 ≤ ⌊1048576 * (10 : ℝ) ^ ((total : ℝ) / 2000) + 1 / 2⌋ := Int.floor_nonneg.2 (by positivity)
  unfold gainFactor
  rw [greatest_eq 24 fun a _ => reaches a]
  norm_num at bound nonneg ⊢
  omega

end Sys2Proof.Machine
end

section
/-!
PROOF. The integrated loudness is an exact rounded logarithm (R122, O55, log 31).
-/

namespace Sys2Proof.Machine

/-! ## The mean of a histogram -/

/-- The counts of a histogram. -/
def countOf (l : List (Nat × Nat)) : Nat := (l.map Prod.snd).sum

/-- The 200th root of ten, of which the steps of a half bin are powers. -/
noncomputable def halfBin : ℝ := (10 : ℝ) ^ ((1 : ℝ) / 200)

/-- 10 Σ n_k 10^(k / 100) over the bins of a histogram. -/
noncomputable def binTotal (l : List (Nat × Nat)) : ℝ := (l.map fun b => (b.2 : ℝ) * halfBin ^ (2 * b.1 + 200)).sum

/-- The mean energy of a histogram. -/
noncomputable def binEnergy (l : List (Nat × Nat)) : ℝ :=
  (l.map fun b => (b.2 : ℝ) * (10 : ℝ) ^ (((b.1 : ℝ) - 700) / 100)).sum / (countOf l : ℝ)

/-- The mean of a histogram in tenths, with the half that rounds it. -/
noncomputable def binTenths (l : List (Nat × Nat)) : ℝ := 100 * Real.logb 10 (binEnergy l) + 1 / 2

theorem halfBin_pos : 0 < halfBin := by
  unfold halfBin
  positivity

theorem one_le_halfBin : 1 ≤ halfBin := Real.one_le_rpow (by norm_num) (by norm_num)

theorem halfBin_pow (e : ℕ) : halfBin ^ e = (10 : ℝ) ^ ((e : ℝ) / 200) := by
  rw [halfBin, ← Real.rpow_natCast, ← Real.rpow_mul (by norm_num)]
  ring_nf

theorem halfBin_pow_200 : halfBin ^ 200 = 10 := by
  rw [halfBin_pow]
  norm_num

theorem binTotal_eq (l : List (Nat × Nat)) : binTotal l = 10 ^ 8 *
    (l.map fun b => (b.2 : ℝ) * (10 : ℝ) ^ (((b.1 : ℝ) - 700) / 100)).sum := by
  unfold binTotal
  rw [← List.sum_map_mul_left]
  refine congrArg List.sum (List.map_congr_left fun b _ => ?_)
  have power : halfBin ^ (2 * b.1 + 200) = 10 ^ 8 * (10 : ℝ) ^ (((b.1 : ℝ) - 700) / 100) := by
    rw [halfBin_pow, ← Real.rpow_natCast 10 8, ← Real.rpow_add (by norm_num)]
    congr 1
    push_cast
    ring
  rw [power]
  ring

theorem binTotal_pos {l : List (Nat × Nat)} (some : 0 < countOf l) : 0 < binTotal l := by
  unfold countOf at some
  unfold binTotal
  induction l with
  | nil => exact absurd some (by simp)
  | cons b l ih =>
    rw [List.map_cons, List.sum_cons] at *
    have rest : 0 ≤ (l.map fun b => (b.2 : ℝ) * halfBin ^ (2 * b.1 + 200)).sum := by
      refine List.sum_nonneg fun x there => ?_
      obtain ⟨c, -, rfl⟩ := List.mem_map.1 there
      have := halfBin_pos
      positivity
    rcases Nat.eq_zero_or_pos b.2 with none | pos
    · have later := ih (by omega)
      rw [none, Nat.cast_zero, zero_mul, zero_add]
      exact later
    · have := halfBin_pos
      have : (0 : ℝ) < b.2 := by exact_mod_cast pos
      positivity

/-- The tenths by which the mean of a histogram passes a value, as the logarithm of a ratio. -/
theorem binTenths_sub {l : List (Nat × Nat)} (some : 0 < countOf l) {t : ℤ} (low : -799 ≤ t) :
    binTenths l - t = 100 * Real.logb 10 (binTotal l / (countOf l * halfBin ^ (2 * t + 1599).toNat)) := by
  have number : (0 : ℝ) < countOf l := by exact_mod_cast some
  have total := binTotal_pos some
  have energy : binEnergy l = binTotal l / (countOf l * 10 ^ 8) := by
    rw [binTotal_eq]
    unfold binEnergy
    field_simp
  have exponent : (((2 * t + 1599).toNat : ℕ) : ℝ) = 2 * t + 1599 := by
    have : (((2 * t + 1599).toNat : ℕ) : ℤ) = 2 * t + 1599 := Int.toNat_of_nonneg (by omega)
    exact_mod_cast this
  unfold binTenths
  rw [energy, halfBin_pow, exponent, Real.logb_div total.ne' (by positivity), Real.logb_div total.ne' (by positivity),
    Real.logb_mul number.ne' (by positivity), Real.logb_mul number.ne' (by positivity), Real.logb_rpow (by norm_num) (by norm_num),
    Real.logb_pow, Real.logb_self_eq_one (by norm_num)]
  push_cast
  ring

theorem le_binTenths_iff {l : List (Nat × Nat)} (some : 0 < countOf l) {t : ℤ} (low : -799 ≤ t) :
    (t : ℝ) ≤ binTenths l ↔ countOf l * halfBin ^ (2 * t + 1599).toNat ≤ binTotal l := by
  have number : (0 : ℝ) < countOf l := by exact_mod_cast some
  have total := binTotal_pos some
  have := halfBin_pos
  have logs := Real.logb_nonneg_iff (b := 10) (by norm_num)
    (show 0 < binTotal l / (countOf l * halfBin ^ (2 * t + 1599).toNat) by positivity)
  rw [one_le_div (by positivity)] at logs
  rw [← sub_nonneg, binTenths_sub some low, ← logs]
  constructor <;> intro h <;> linarith

/-! ## The bounds of a precision (log 31) -/

theorem halfBin_lt_two : halfBin < 2 := by
  refine lt_of_pow_lt_pow_left₀ 200 (by norm_num) ?_
  rw [halfBin_pow_200]
  norm_num

/-- The root at a precision is the whole part of the root. -/
theorem rootOfTen_eq (p : ℕ) : (rootOfTen p : ℤ) = ⌊2 ^ p * halfBin⌋ := by
  have half := halfBin_pos
  have reaches (t : ℤ) (nonneg : 0 ≤ t) : decide (t.toNat ^ 200 ≤ 10 * 2 ^ (200 * p)) = true ↔ t ≤ ⌊2 ^ p * halfBin⌋ := by
    have whole : ((t.toNat : ℕ) : ℝ) = t := by
      have : ((t.toNat : ℕ) : ℤ) = t := Int.toNat_of_nonneg nonneg
      exact_mod_cast this
    have scaled : ((10 * 2 ^ (200 * p) : ℕ) : ℝ) = (2 ^ p * halfBin) ^ 200 := by
      rw [mul_pow, halfBin_pow_200, ← pow_mul, mul_comm p 200, mul_comm]
      push_cast
      rfl
    rw [decide_eq_true_iff, Int.le_floor, ← whole, ← Nat.cast_le (α := ℝ), scaled, Nat.cast_pow]
    exact pow_le_pow_iff_left₀ (by positivity) (by positivity) (by norm_num)
  have below : ⌊2 ^ p * halfBin⌋ < 2 ^ (p + 1) := by
    rw [Int.floor_lt, pow_succ]
    push_cast
    exact mul_lt_mul_of_pos_left halfBin_lt_two (by positivity)
  have nonneg : 0 ≤ ⌊2 ^ p * halfBin⌋ := Int.floor_nonneg.2 (by positivity)
  unfold rootOfTen
  rw [greatest_eq (p + 1) reaches]
  omega

/-- The root at a precision is bounded by a whole number and the next. -/
theorem rootOfTen_bounds (p : ℕ) : (rootOfTen p : ℝ) ≤ 2 ^ p * halfBin ∧ 2 ^ p * halfBin ≤ (rootOfTen p + 1 : ℕ) ∧
    (2 : ℝ) ^ p ≤ rootOfTen p := by
  have root : ((rootOfTen p : ℤ) : ℝ) = (⌊2 ^ p * halfBin⌋ : ℝ) := by rw [rootOfTen_eq]
  rw [Int.cast_natCast] at root
  refine ⟨?_, ?_, ?_⟩
  · rw [root]
    exact Int.floor_le _
  · push_cast
    rw [root]
    exact (Int.lt_floor_add_one _).le
  · rw [root]
    have step : ((2 : ℤ) ^ p) ≤ ⌊2 ^ p * halfBin⌋ := by
      rw [Int.le_floor]
      push_cast
      exact le_mul_of_one_le_right (by positivity) one_le_halfBin
    exact_mod_cast step

theorem halfBinPower_cast (p r e : ℕ) :
    (halfBinPower p r e : ℝ) = 10 ^ (e / 200) * (r : ℝ) ^ (e % 200) * 2 ^ (p * (199 - e % 200)) := by
  unfold halfBinPower
  push_cast
  rfl

/-- A power of the root is bounded at a precision. -/
theorem halfBinPower_bounds (p e : ℕ) :
    (halfBinPower p (rootOfTen p) e : ℝ) ≤ 2 ^ (199 * p) * halfBin ^ e ∧
    2 ^ (199 * p) * halfBin ^ e ≤ (halfBinPower p (rootOfTen p + 1) e : ℝ) ∧
    (halfBinPower p (rootOfTen p + 1) e : ℝ) ≤ (1 + 1 / 2 ^ p) ^ 199 * (halfBinPower p (rootOfTen p) e : ℝ) := by
  obtain ⟨below, above, large⟩ := rootOfTen_bounds p
  have half := halfBin_pos
  have inside : e % 200 ≤ 199 := by omega
  have exact_ : 2 ^ (199 * p) * halfBin ^ e =
      10 ^ (e / 200) * (2 ^ p * halfBin) ^ (e % 200) * 2 ^ (p * (199 - e % 200)) := by
    have power : halfBin ^ e = 10 ^ (e / 200) * halfBin ^ (e % 200) := by
      rw [← halfBin_pow_200, ← pow_mul, ← pow_add, Nat.div_add_mod]
    have twos : (2 : ℝ) ^ (199 * p) = (2 ^ p) ^ (e % 200) * 2 ^ (p * (199 - e % 200)) := by
      rw [← pow_mul, ← pow_add, ← mul_add, Nat.add_sub_cancel' inside, mul_comm]
    rw [power, twos, mul_pow]
    ring
  have next : ((rootOfTen p + 1 : ℕ) : ℝ) ≤ (1 + 1 / 2 ^ p) * rootOfTen p := by
    have : (1 : ℝ) ≤ 1 / 2 ^ p * rootOfTen p := by
      rw [one_div, inv_mul_eq_div, one_le_div (by positivity)]
      exact large
    push_cast
    linarith
  have growth : (1 + 1 / 2 ^ p : ℝ) ^ (e % 200) ≤ (1 + 1 / 2 ^ p) ^ 199 :=
    pow_le_pow_right₀ (by linarith [show (0 : ℝ) < 1 / 2 ^ p by positivity]) inside
  rw [exact_, halfBinPower_cast, halfBinPower_cast]
  refine ⟨by gcongr, by gcongr, ?_⟩
  calc (10 : ℝ) ^ (e / 200) * ((rootOfTen p + 1 : ℕ) : ℝ) ^ (e % 200) * 2 ^ (p * (199 - e % 200))
      ≤ 10 ^ (e / 200) * ((1 + 1 / 2 ^ p) * rootOfTen p) ^ (e % 200) * 2 ^ (p * (199 - e % 200)) := by gcongr
    _ = (1 + 1 / 2 ^ p) ^ (e % 200) * (10 ^ (e / 200) * (rootOfTen p : ℝ) ^ (e % 200) * 2 ^ (p * (199 - e % 200))) := by
      rw [mul_pow]
      ring
    _ ≤ (1 + 1 / 2 ^ p) ^ 199 * (10 ^ (e / 200) * (rootOfTen p : ℝ) ^ (e % 200) * 2 ^ (p * (199 - e % 200))) := by gcongr

/-- A sum of powers of the root is bounded at a precision. -/
theorem binSum_bounds (p : ℕ) (l : List (Nat × Nat)) :
    (binSum p (rootOfTen p) l : ℝ) ≤ 2 ^ (199 * p) * binTotal l ∧
    2 ^ (199 * p) * binTotal l ≤ (binSum p (rootOfTen p + 1) l : ℝ) ∧
    (binSum p (rootOfTen p + 1) l : ℝ) ≤ (1 + 1 / 2 ^ p) ^ 199 * (binSum p (rootOfTen p) l : ℝ) := by
  unfold binSum binTotal
  induction l with
  | nil => simp
  | cons b l ih =>
    obtain ⟨below, above, near⟩ := halfBinPower_bounds p (2 * b.1 + 200)
    obtain ⟨lower, upper, close⟩ := ih
    simp only [List.map_cons, List.sum_cons, Nat.cast_add, Nat.cast_mul, mul_add]
    refine ⟨add_le_add ?_ lower, add_le_add ?_ upper, add_le_add ?_ close⟩
    · calc (b.2 : ℝ) * halfBinPower p (rootOfTen p) (2 * b.1 + 200)
          ≤ b.2 * (2 ^ (199 * p) * halfBin ^ (2 * b.1 + 200)) := by gcongr
        _ = _ := by ring
    · calc 2 ^ (199 * p) * ((b.2 : ℝ) * halfBin ^ (2 * b.1 + 200))
          = b.2 * (2 ^ (199 * p) * halfBin ^ (2 * b.1 + 200)) := by ring
        _ ≤ _ := by gcongr
    · calc (b.2 : ℝ) * halfBinPower p (rootOfTen p + 1) (2 * b.1 + 200)
          ≤ b.2 * ((1 + 1 / 2 ^ p) ^ 199 * halfBinPower p (rootOfTen p) (2 * b.1 + 200)) := by gcongr
        _ = _ := by ring

/-! ## The search for the mean -/

theorem one_le_log_ten : 1 ≤ Real.log 10 := by
  rw [Real.le_log_iff_exp_le (by norm_num)]
  linarith [Real.exp_one_lt_d9]

/-- A ratio between a bound and its inverse has a small logarithm. -/
theorem abs_logb_le {x g : ℝ} (pos : 0 < x) (hg : 0 ≤ g) (above : x ≤ (1 + g) ^ 398) (below : 1 ≤ (1 + g) ^ 398 * x) :
    |100 * Real.logb 10 x| ≤ 39800 * g := by
  have growth : Real.log ((1 + g) ^ 398) ≤ 398 * g := by
    rw [Real.log_pow]
    have := Real.log_le_sub_one_of_pos (show 0 < 1 + g by linarith)
    push_cast
    linarith
  have upper : Real.log x ≤ 398 * g := (Real.log_le_log pos above).trans growth
  have lower : -(398 * g) ≤ Real.log x := by
    have h := Real.log_le_log one_pos below
    rw [Real.log_one, Real.log_mul (by positivity) pos.ne'] at h
    linarith
  have ten := one_le_log_ten
  have small : |Real.log x / Real.log 10| ≤ 398 * g := by
    rw [abs_div, abs_of_pos (show 0 < Real.log 10 by linarith)]
    refine (div_le_self (abs_nonneg _) ten).trans ?_
    exact abs_le.2 ⟨lower, upper⟩
  rw [abs_mul, abs_of_pos (by norm_num : (0 : ℝ) < 100), Real.logb]
  linarith

/-- Two scaled numbers compared by bounds of both, each bound within a factor of the other. -/
theorem compare_bounds {n q g a b x s u y : ℝ} (hn : 0 < n) (hq : 0 < q) (hg : 0 < g) (below : a ≤ q * x) (above : q * x ≤ b)
    (near : b ≤ g * a) (lower : s ≤ q * y) (upper : q * y ≤ u) (close : u ≤ g * s) :
    (n * b ≤ s → n * x ≤ y) ∧ (u < n * a → y < n * x) ∧
    (s < n * b → n * a ≤ u → y ≤ g * g * (n * x) ∧ n * x ≤ g * g * y) := by
  refine ⟨fun reached => le_of_mul_le_mul_left ?_ hq, fun missed => lt_of_mul_lt_mul_left ?_ hq.le, fun high low =>
    ⟨le_of_mul_le_mul_left ?_ hq, le_of_mul_le_mul_left ?_ hq⟩⟩
  · calc q * (n * x) = n * (q * x) := by ring
      _ ≤ n * b := by gcongr
      _ ≤ q * y := reached.trans lower
  · calc q * y < n * a := upper.trans_lt missed
      _ ≤ n * (q * x) := by gcongr
      _ = q * (n * x) := by ring
  · calc q * y ≤ g * s := upper.trans close
      _ ≤ g * (n * b) := by gcongr
      _ ≤ g * (n * (g * a)) := by gcongr
      _ ≤ g * (n * (g * (q * x))) := by gcongr
      _ = q * (g * g * (n * x)) := by ring
  · calc q * (n * x) = n * (q * x) := by ring
      _ ≤ n * (g * a) := mul_le_mul_of_nonneg_left (above.trans near) hn.le
      _ = g * (n * a) := by ring
      _ ≤ g * (g * s) := mul_le_mul_of_nonneg_left (low.trans close) hg.le
      _ ≤ g * (g * (q * y)) := by gcongr
      _ = q * (g * g * y) := by ring

/-- What the comparison at one precision says of the mean. -/
theorem rung_decides {l : List (Nat × Nat)} (some : 0 < countOf l) {t : ℤ} (low : -799 ≤ t) (p : ℕ) :
    let e := (2 * t + 1599).toNat
    let r := rootOfTen p
    (countOf l * halfBinPower p (r + 1) e ≤ binSum p r l → (t : ℝ) ≤ binTenths l) ∧
    (binSum p (r + 1) l < countOf l * halfBinPower p r e → ¬ (t : ℝ) ≤ binTenths l) ∧
    (¬ countOf l * halfBinPower p (r + 1) e ≤ binSum p r l → ¬ binSum p (r + 1) l < countOf l * halfBinPower p r e →
      |binTenths l - t| ≤ 39800 / 2 ^ p) := by
  intro e r
  have number : (0 : ℝ) < countOf l := by exact_mod_cast some
  have total := binTotal_pos some
  have power : 0 < halfBin ^ e := pow_pos halfBin_pos e
  obtain ⟨below, above, near⟩ := halfBinPower_bounds p e
  obtain ⟨lower, upper, close⟩ := binSum_bounds p l
  have cast (a b c : ℕ) : (a * b ≤ c) ↔ (a : ℝ) * b ≤ c := by exact_mod_cast Iff.rfl
  have castLt (a b c : ℕ) : (c < a * b) ↔ (c : ℝ) < a * b := by exact_mod_cast Iff.rfl
  obtain ⟨reached, missed, open_⟩ := compare_bounds number (by positivity) (by positivity) below above near lower upper close
  rw [le_binTenths_iff some low, cast, castLt]
  refine ⟨reached, fun h => not_le.2 (missed h), fun h k => ?_⟩
  obtain ⟨high, deep⟩ := open_ (not_le.1 h) (not_lt.1 k)
  rw [← pow_add] at high deep
  rw [binTenths_sub some low, show (39800 : ℝ) / 2 ^ p = 39800 * (1 / 2 ^ p) by ring]
  refine abs_logb_le (div_pos total (mul_pos number power)) (by positivity) ?_ ?_
  · rw [div_le_iff₀ (mul_pos number power)]
    exact high
  · rw [mul_div_assoc', one_le_div (mul_pos number power)]
    exact deep

/-- The comparisons at the precisions decide what they answer, but for a mean too near a rounding limit. -/
theorem meanReaches_iff {l : List (Nat × Nat)} (some : 0 < countOf l) {t : ℤ} (low : -799 ≤ t) {p : ℕ} (rungs before : List ℕ)
    (clear : 39800 / 2 ^ p < |binTenths l - t|) :
    meanReaches l (countOf l) t (before ++ p :: rungs) = true ↔ t ≤ ⌊binTenths l⌋ := by
  rw [Int.le_floor]
  induction before with
  | nil =>
    obtain ⟨reached, missed, undecided⟩ := rung_decides some low p
    rw [List.nil_append, meanReaches]
    split_ifs with h k
    · exact iff_of_true rfl (reached h)
    · exact iff_of_false nofun (missed k)
    · exact absurd (undecided h k) (not_le.2 clear)
  | cons q before ih =>
    obtain ⟨reached, missed, -⟩ := rung_decides some low q
    rw [List.cons_append, meanReaches]
    split_ifs with h k
    · exact iff_of_true rfl (reached h)
    · exact iff_of_false nofun (missed k)
    · exact ih

end Sys2Proof.Machine
end

section
/-!
PROOF. The integrated loudness by its five steps, and the figures (R122, O55).
-/

namespace Sys2Proof.Machine

variable {l : List (Nat × Nat)}

/-! ## The range of a mean -/

theorem binTenths_le (some : 0 < countOf l) {c : ℝ} (h : ∀ b ∈ l, 0 < b.2 → (b.1 : ℝ) - 700 ≤ c) :
    binTenths l ≤ c + 1 / 2 := by
  have number : (0 : ℝ) < countOf l := by exact_mod_cast some
  have total := binTotal_pos some
  have energy : binEnergy l ≤ (10 : ℝ) ^ (c / 100) := by
    unfold binEnergy
    rw [div_le_iff₀ number]
    clear number total some
    unfold countOf
    induction l with
    | nil => simp
    | cons b l ih =>
      have later := ih fun a there => h a (List.mem_cons_of_mem _ there)
      simp only [List.map_cons, List.sum_cons, Nat.cast_add, mul_add]
      refine add_le_add ?_ later
      rcases Nat.eq_zero_or_pos b.2 with none | pos
      · rw [none]
        simp
      · rw [mul_comm]
        have := h b (List.mem_cons_self ..) pos
        gcongr
        norm_num
  have positive : 0 < binEnergy l := by
    rw [binTotal_eq] at total
    exact div_pos (pos_of_mul_pos_right total (by positivity)) number
  have log : Real.logb 10 (binEnergy l) ≤ c / 100 := by
    rw [Real.logb_le_iff_le_rpow (by norm_num) positive]
    exact energy
  unfold binTenths
  linarith

theorem le_binTenths (some : 0 < countOf l) : -699.5 ≤ binTenths l := by
  have number : (0 : ℝ) < countOf l := by exact_mod_cast some
  have energy : (10 : ℝ) ^ (-7 : ℝ) ≤ binEnergy l := by
    unfold binEnergy
    rw [le_div_iff₀ number]
    clear number some
    unfold countOf
    induction l with
    | nil => simp
    | cons b l ih =>
      simp only [List.map_cons, List.sum_cons, Nat.cast_add, mul_add]
      refine add_le_add ?_ ih
      rw [mul_comm]
      have : (-7 : ℝ) ≤ ((b.1 : ℝ) - 700) / 100 := by
        have : (0 : ℝ) ≤ b.1 := Nat.cast_nonneg _
        linarith
      gcongr
      norm_num
  have log : -7 ≤ Real.logb 10 (binEnergy l) := by
    rw [Real.le_logb_iff_rpow_le (by norm_num) (lt_of_lt_of_le (by positivity) energy)]
    exact energy
  unfold binTenths
  linarith

/-! ## The mean in tenths -/

/-- A mean that is not too near a rounding limit (log 31). -/
def meanClear (l : List (Nat × Nat)) : Prop := ∀ t : ℤ, (2 : ℝ) ^ (-30000 : ℤ) ≤ |binTenths l - t|

theorem last_rung_fine : (39800 : ℝ) / 2 ^ 32768 < (2 : ℝ) ^ (-30000 : ℤ) := by
  have split : (2 : ℝ) ^ (-30000 : ℤ) = (2 : ℝ) ^ (2768 : ℕ) / 2 ^ (32768 : ℕ) := by
    rw [← zpow_natCast, ← zpow_natCast, ← zpow_sub₀ (by norm_num)]
    congr 1
  have large : (39800 : ℝ) < 2 ^ (2768 : ℕ) :=
    lt_of_lt_of_le (by norm_num) (pow_le_pow_right₀ (by norm_num : (1 : ℝ) ≤ 2) (show 16 ≤ 2768 by norm_num))
  rw [split]
  exact div_lt_div_of_pos_right large (pow_pos (by norm_num) _)

theorem binMean_eq (some : 0 < countOf l) (keys : ∀ b ∈ l, b.1 ≤ 799) (clear : meanClear l) :
    binMean l = ⌊binTenths l⌋ := by
  have reaches (t : ℤ) (low : -700 ≤ t) : meanReaches l (countOf l) t loudnessRungs = true ↔ t ≤ ⌊binTenths l⌋ :=
    meanReaches_iff some (by omega) [] [64, 1024] (lt_of_lt_of_le last_rung_fine (clear t))
  have high : ⌊binTenths l⌋ ≤ 99 := by
    have bound := binTenths_le some (c := 99) fun b there _ => by
      have : (b.1 : ℝ) ≤ 799 := by exact_mod_cast keys b there
      linarith
    rw [← Int.lt_add_one_iff, Int.floor_lt]
    push_cast
    linarith
  have deep : -700 ≤ ⌊binTenths l⌋ := by
    rw [Int.le_floor]
    push_cast
    linarith [le_binTenths some]
  unfold binMean
  dsimp only
  rw [show (l.map (·.2)).sum = countOf l from rfl, greatest_eq 10 reaches, clampInt_eq (by norm_num)]
  norm_num
  omega

/-! ## Bins that count nothing -/

theorem sum_counted {β : Type} [AddMonoid β] (f : Nat × Nat → β) (zero : ∀ b, b.2 = 0 → f b = 0) (l : List (Nat × Nat)) :
    ((l.filter fun b => 0 < b.2).map f).sum = (l.map f).sum := by
  induction l with
  | nil => rfl
  | cons b l ih =>
    rw [List.filter_cons]
    rcases Nat.eq_zero_or_pos b.2 with none | pos
    · rw [if_neg (by simp [none]), ih, List.map_cons, List.sum_cons, zero b none, zero_add]
    · rw [if_pos (by simp [pos]), List.map_cons, List.sum_cons, ih, List.map_cons, List.sum_cons]

theorem countOf_counted (l : List (Nat × Nat)) : countOf (l.filter fun b => 0 < b.2) = countOf l :=
  sum_counted Prod.snd (fun _ none => none) l

theorem binTenths_counted (l : List (Nat × Nat)) : binTenths (l.filter fun b => 0 < b.2) = binTenths l := by
  unfold binTenths binEnergy
  rw [countOf_counted, sum_counted _ (fun b none => by rw [none, Nat.cast_zero, zero_mul])]

theorem counted_eq_nil_iff (l : List (Nat × Nat)) : (l.filter fun b => 0 < b.2) = [] ↔ countOf l = 0 := by
  unfold countOf
  rw [List.sum_eq_zero_iff, List.filter_eq_nil_iff]
  simp only [decide_eq_true_eq, not_lt, Nat.le_zero, List.forall_mem_map]

/-! ## The gate -/

/-- The bins at or above the gate of a histogram. -/
noncomputable def gated (l : List (Nat × Nat)) : List (Nat × Nat) :=
  l.filter fun b => ⌊binTenths l⌋ - 100 ≤ (b.1 : Int) - 700

/-- The gate lies below the mean, so a bin passes it. -/
theorem countOf_gated (some : 0 < countOf l) : 0 < countOf (gated l) := by
  by_contra none
  have empty : countOf (gated l) = 0 := by omega
  have bound := binTenths_le some (c := ⌊binTenths l⌋ - 100) fun b there pos => by
    by_contra high
    rw [not_le] at high
    have passes : ⌊binTenths l⌋ - 100 ≤ (b.1 : Int) - 700 := by
      have : (⌊binTenths l⌋ - 100 : ℝ) < ((b.1 : Int) - 700 : ℤ) := by
        push_cast
        exact high
      exact_mod_cast this.le
    have kept : b ∈ gated l := List.mem_filter.2 ⟨there, decide_eq_true passes⟩
    have counts := List.sum_eq_zero_iff.1 empty b.2 (List.mem_map_of_mem kept)
    omega
  have := Int.floor_le (binTenths l)
  linarith

theorem integratedOf_eq (some : 0 < countOf l) (keys : ∀ b ∈ l, b.1 ≤ 799) (clear : meanClear l) (cleared : meanClear (gated l)) :
    integratedOf l = Option.some ⌊binTenths (gated l)⌋ := by
  have counted : 0 < countOf (l.filter fun b => 0 < b.2) := by rw [countOf_counted]; exact some
  have mean : binMean (l.filter fun b => 0 < b.2) = ⌊binTenths l⌋ := by
    rw [binMean_eq counted (fun b there => keys b (List.mem_filter.1 there).1), binTenths_counted]
    intro t
    rw [binTenths_counted]
    exact clear t
  have kept : ((l.filter fun b => 0 < b.2).filter fun b => (⌊binTenths l⌋ - 100 + 700).toNat ≤ b.1) =
      (gated l).filter fun b => 0 < b.2 := by
    unfold gated
    rw [List.filter_filter, List.filter_filter]
    refine List.filter_congr fun b _ => ?_
    generalize ⌊binTenths l⌋ = mean
    rw [Bool.and_comm]
    exact congrArg (fun test => decide (0 < b.2) && test) (decide_eq_decide.2 (by omega))
  unfold integratedOf
  dsimp only
  rw [if_neg ((counted_eq_nil_iff l).not.2 some.ne'), mean, kept, binMean_eq, binTenths_counted]
  · rw [countOf_counted]
    exact countOf_gated some
  · exact fun b there => keys b (List.mem_filter.1 (List.mem_filter.1 there).1).1
  · intro t
    rw [binTenths_counted]
    exact cleared t

/-- Settles O55: each figure is a rounded logarithm or power, found by its search. -/
theorem figuresAreExactLogarithms : Obligations.FiguresAreExactLogarithms := by
  unfold Obligations.FiguresAreExactLogarithms
  refine ⟨fun peak some inside => levelOf_eq some inside, levelOf_zero, fun e pos => loudnessOf_eq pos, loudnessOf_zero,
    fun level low => amplitudeOf_eq low, fun total low => gainFactor_eq low, fun bins _ keys => ?_⟩
  intro count energy tenths clear gate kept
  exact ⟨fun none => if_pos ((counted_eq_nil_iff bins).2 none), fun some mean means => integratedOf_eq some keys mean means⟩

end Sys2Proof.Machine
end

section
/-!
SUPPORT. The receive assembler stands apart: what the part does at once does not depend on it, and leaves it.
-/

namespace Sys2Proof.Machine

/-- The part with its receive assembler in another state. -/
def Device.assembling (d : Device) (a : Assembler) : Device := d.modLink fun l => { l with assembler := a }

/-- An answer of an operation on the part, with the receive assembler in another state. -/
def besides {α : Type} (r : Device × α) (a : Assembler) : Device × α := (r.1.assembling a, r.2)

variable {d e f : Device} {a : Assembler}

@[simp] theorem if_assembling (c : Prop) [Decidable c] (e f : Device) :
    (if c then e else f).assembling a = if c then e.assembling a else f.assembling a := apply_ite (fun x : Device => x.assembling a) _ _ _

theorem ite_assembling {c : Prop} [Decidable c] {e' f' : Device} (h : c → e' = e.assembling a) (k : ¬ c → f' = f.assembling a) :
    (if c then e' else f') = (if c then e else f).assembling a := by
  split_ifs with x
  · exact h x
  · exact k x

@[simp] theorem if_besides {α : Type} (c : Prop) [Decidable c] (x y : Device × α) :
    besides (if c then x else y) a = if c then besides x a else besides y a := apply_ite (besides · a) _ _ _

@[simp] theorem besides_mk {α : Type} (e : Device) (x : α) : besides (e, x) a = (e.assembling a, x) := rfl
@[simp] theorem besides_fst {α : Type} (r : Device × α) : (besides r a).1 = r.1.assembling a := rfl
@[simp] theorem besides_snd {α : Type} (r : Device × α) : (besides r a).2 = r.2 := rfl

theorem foldl_assembling {α : Type} {g : Device → α → Device} (h : ∀ e x, g (e.assembling a) x = (g e x).assembling a)
    (l : List α) (d : Device) : l.foldl g (d.assembling a) = (l.foldl g d).assembling a := by
  induction l generalizing d with
  | nil => rfl
  | cons x l ih =>
    rw [List.foldl_cons, List.foldl_cons, h]
    exact ih _

namespace Device

variable (d) (n m p : Ix8) (i : Ix2)

/-! ## What does not show the assembler -/

@[simp] theorem assembling_time : (d.assembling a).time = d.time := rfl
@[simp] theorem assembling_pool : (d.assembling a).pool = d.pool := rfl
@[simp] theorem assembling_alarms : (d.assembling a).alarms = d.alarms := rfl
@[simp] theorem assembling_prog : (d.assembling a).prog n = d.prog n := rfl
@[simp] theorem assembling_port : (d.assembling a).port p = d.port p := rfl
@[simp] theorem assembling_line : (d.assembling a).line n m = d.line n m := rfl
@[simp] theorem assembling_active : (d.assembling a).active n = d.active n := rfl
@[simp] theorem assembling_inState (s : ProgState) : (d.assembling a).inState n s = d.inState n s := rfl
@[simp] theorem assembling_hasEntry : (d.assembling a).hasEntry n = d.hasEntry n := rfl
@[simp] theorem assembling_changing : (d.assembling a).changing n = d.changing n := rfl
@[simp] theorem assembling_anyClamped : (d.assembling a).anyClamped n = d.anyClamped n := rfl
@[simp] theorem assembling_largestFreeze : (d.assembling a).largestFreeze n = d.largestFreeze n := rfl
@[simp] theorem assembling_shortfall (needs : List Nat) : (d.assembling a).shortfall n needs = d.shortfall n needs := rfl
@[simp] theorem assembling_heldBy : (d.assembling a).heldBy n = d.heldBy n := rfl
@[simp] theorem assembling_latencyOf (z : Member) : (d.assembling a).latencyOf n z = d.latencyOf n z := rfl
@[simp] theorem assembling_needsUnder (target : Line → Nat) : (d.assembling a).needsUnder n target = d.needsUnder n target := rfl

/-! ## Changes of one part of the state -/

@[simp] theorem modProg_assembling (g : Programme → Programme) : (d.assembling a).modProg n g = (d.modProg n g).assembling a := rfl
@[simp] theorem modRecord_assembling (g : Record → Record) : (d.assembling a).modRecord n g = (d.modRecord n g).assembling a := rfl
@[simp] theorem modCtx_assembling (g : Context → Context) : (d.assembling a).modCtx n g = (d.modCtx n g).assembling a := rfl
@[simp] theorem modDelay_assembling (g : Delay → Delay) : (d.assembling a).modDelay n g = (d.modDelay n g).assembling a := rfl
@[simp] theorem modLine_assembling (g : Line → Line) : (d.assembling a).modLine n m g = (d.modLine n m g).assembling a := rfl
@[simp] theorem modMeter_assembling (g : Meter → Meter) : (d.assembling a).modMeter n g = (d.modMeter n g).assembling a := rfl
@[simp] theorem modGain_assembling (g : Gain → Gain) : (d.assembling a).modGain n g = (d.modGain n g).assembling a := rfl
@[simp] theorem modStage_assembling (g : Stage → Stage) : (d.assembling a).modStage n g = (d.modStage n g).assembling a := rfl
@[simp] theorem modGen_assembling (g : Generator → Generator) : (d.assembling a).modGen n g = (d.modGen n g).assembling a := rfl
@[simp] theorem modPool_assembling (g : Pool → Pool) : (d.assembling a).modPool g = (d.modPool g).assembling a := rfl
@[simp] theorem modAlarms_assembling (g : AlarmUnit → AlarmUnit) : (d.assembling a).modAlarms g = (d.modAlarms g).assembling a := rfl
@[simp] theorem modConv_assembling (g : Converter → Converter) : (d.assembling a).modConv p g = (d.modConv p g).assembling a := rfl
@[simp] theorem modLane_assembling (g : Lane → Lane) : (d.assembling a).modLane p g = (d.modLane p g).assembling a := rfl
@[simp] theorem modPort_assembling (g : Port → Port) : (d.assembling a).modPort p g = (d.modPort p g).assembling a := rfl
@[simp] theorem modChecker_assembling (g : Checker → Checker) : (d.assembling a).modChecker i g = (d.modChecker i g).assembling a := rfl
@[simp] theorem activate_assembling (x : Alarm) : (d.assembling a).activate x = (d.activate x).assembling a := rfl
@[simp] theorem deactivate_assembling (x : Alarm) : (d.assembling a).deactivate x = (d.deactivate x).assembling a := rfl
@[simp] theorem force_assembling (x : Alarm) : (d.assembling a).force x = (d.force x).assembling a := rfl

/-! ## The pool (R78 to R85) -/

@[simp] theorem grantHead_assembling (own : Option Ix8) (x : PoolEntry) :
    (d.assembling a).grantHead own x = (d.grantHead own x).assembling a := rfl

theorem grantLoop_assembling (own : Option Ix8) (fuel : Nat) :
    Device.grantLoop own fuel (d.assembling a) = (Device.grantLoop own fuel d).assembling a := by
  induction fuel generalizing d with
  | zero => rfl
  | succ fuel ih =>
    unfold Device.grantLoop
    rw [assembling_pool]
    cases d.pool.queue with
    | nil => rfl
    | cons x rest => simp [ih]

@[simp] theorem grantTest_assembling (own : Option Ix8) : (d.assembling a).grantTest own = (d.grantTest own).assembling a :=
  d.grantLoop_assembling own _

@[simp] theorem handBack_assembling (blocks : List Nat) :
    (d.assembling a).handBack blocks = (d.handBack blocks).assembling a := by simp [Device.handBack]

@[simp] theorem withdraw_assembling : (d.assembling a).withdraw n = (d.withdraw n).assembling a := by simp [Device.withdraw]

@[simp] theorem requestBlocks_assembling (needs : List Nat) :
    (d.assembling a).requestBlocks n needs = besides (d.requestBlocks n needs) a := by simp [Device.requestBlocks]

/-! ## The delay engine (R90 to R105) -/

@[simp] theorem requireWhere_assembling (test : Member → Bool) :
    (d.assembling a).requireWhere n test = (d.requireWhere n test).assembling a := by
  unfold Device.requireWhere
  exact foldl_assembling (by simp) _ d

@[simp] theorem requireAll_assembling : (d.assembling a).requireAll n = (d.requireAll n).assembling a :=
  d.requireWhere_assembling n _

@[simp] theorem mapLines_assembling (g : Line → Line) : (d.assembling a).mapLines n g = (d.mapLines n g).assembling a :=
  foldl_assembling (fun _ _ => rfl) _ d

@[simp] theorem returnExcess_assembling : (d.assembling a).returnExcess n = (d.returnExcess n).assembling a := by
  unfold Device.returnExcess
  exact foldl_assembling (by simp) _ d

@[simp] theorem settleBlocks_assembling (target : Line → Nat) :
    (d.assembling a).settleBlocks n target = (d.settleBlocks n target).assembling a := by
  unfold Device.settleBlocks
  exact ite_assembling (fun _ => by simp) fun _ => by simp

@[simp] theorem reportShort_assembling : (d.assembling a).reportShort n = (d.reportShort n).assembling a := by
  unfold Device.reportShort
  exact ite_assembling (fun _ => rfl) fun _ => rfl

@[simp] theorem judgeShort_assembling : (d.assembling a).judgeShort n = (d.judgeShort n).assembling a := by
  unfold Device.judgeShort
  exact ite_assembling (fun _ => rfl) fun _ => rfl

@[simp] theorem startFade_assembling : (d.assembling a).startFade n = (d.startFade n).assembling a := by
  simp [Device.startFade]

@[simp] theorem startChange_assembling (host : Bool) :
    (d.assembling a).startChange n host = (d.startChange n host).assembling a := by
  unfold Device.startChange
  exact ite_assembling (fun _ => ite_assembling (fun _ => by simp) fun _ => by simp) fun _ => by simp

@[simp] theorem recalculate_assembling (mode : RecalcMode) (host : Bool) :
    (d.assembling a).recalculate n mode host = (d.recalculate n mode host).assembling a := by simp [Device.recalculate]

@[simp] theorem gapMember_assembling : (d.assembling a).gapMember n m = (d.gapMember n m).assembling a := by
  simp [Device.gapMember]

@[simp] theorem enterFadeIn_assembling : (d.assembling a).enterFadeIn n = (d.enterFadeIn n).assembling a := rfl

@[simp] theorem enterGap_assembling : (d.assembling a).enterGap n = (d.enterGap n).assembling a := by
  unfold Device.enterGap
  rw [foldl_assembling (by simp)]
  simp

@[simp] theorem initialFill_assembling : (d.assembling a).initialFill n = (d.initialFill n).assembling a := by
  simp [Device.initialFill]

@[simp] theorem fold_assembling (mode : RecalcMode) (host : Bool) :
    (d.assembling a).fold n mode host = (d.fold n mode host).assembling a := by simp [Device.fold]

@[simp] theorem trigger_assembling (mode : RecalcMode) (host : Bool) :
    (d.assembling a).trigger n mode host = (d.trigger n mode host).assembling a := by simp [Device.trigger]

@[simp] theorem targetTrigger_assembling : (d.assembling a).targetTrigger n = (d.targetTrigger n).assembling a := by
  simp [Device.targetTrigger]

@[simp] theorem latencyProgramme_assembling :
    (d.assembling a).latencyProgramme p n = (d.latencyProgramme p n).assembling a := by simp [Device.latencyProgramme]

@[simp] theorem takeNotice_assembling : (d.assembling a).takeNotice = d.takeNotice.assembling a := by
  unfold Device.takeNotice
  rw [assembling_pool]
  cases d.pool.notices with
  | nil => rfl
  | cons g rest => simp

theorem takeNotices_assembling (fuel : Nat) :
    Device.takeNotices fuel (d.assembling a) = (Device.takeNotices fuel d).assembling a := by
  induction fuel generalizing d with
  | zero => rfl
  | succ fuel ih => simp [Device.takeNotices, ih]

@[simp] theorem told_assembling : (d.assembling a).told = d.told.assembling a := d.takeNotices_assembling 64

@[simp] theorem latencyUpdate_assembling : (d.assembling a).latencyUpdate p = (d.latencyUpdate p).assembling a := by
  unfold Device.latencyUpdate
  exact foldl_assembling (by simp) eight d

end Device
end Sys2Proof.Machine
end

section
/-!
PROOF. What the part does at once does not show its receive assembler, and a frame's bytes are the frame (O4).
-/

namespace Sys2Proof.Machine

variable {d e f : Device} {a : Assembler}

theorem ite_besides {α : Type} {c : Prop} [Decidable c] {x y x' y' : Device × α} (h : c → x' = besides x a)
    (k : ¬ c → y' = besides y a) : (if c then x' else y') = besides (if c then x else y) a := by
  split_ifs with z
  · exact h z
  · exact k z

namespace Device

variable (d) (n m p : Ix8) (i : Ix2)

/-! ## What earlier commands left to be done (R70, R84, R148, R170, R171) -/

@[simp] theorem checkerSync_assembling : (d.assembling a).checkerSync i = (d.checkerSync i).assembling a := by
  unfold Device.checkerSync
  exact ite_assembling (fun _ => rfl) fun _ => rfl

@[simp] theorem checkerLoss_assembling : (d.assembling a).checkerLoss i = (d.checkerLoss i).assembling a := by
  unfold Device.checkerLoss
  exact ite_assembling (fun _ => rfl) fun _ => rfl

@[simp] theorem settleCheckers_assembling : (d.assembling a).settleCheckers = d.settleCheckers.assembling a := by
  unfold Device.settleCheckers
  exact foldl_assembling (by simp) two d

@[simp] theorem autoTest_assembling : (d.assembling a).autoTest n = (d.autoTest n).assembling a := by
  unfold Device.autoTest
  exact ite_assembling (fun _ => rfl) fun _ => rfl

@[simp] theorem activationTests_assembling (k : Qualified) (i : Ix8) :
    (d.assembling a).activationTests k i = (d.activationTests k i).assembling a := by
  unfold Device.activationTests
  cases k with
  | unlock => exact foldl_assembling (by simp) eight d
  | silence => exact d.autoTest_assembling i
  | loudHigh => rfl
  | loudLow => rfl

@[simp] theorem reviseReports_assembling : (d.assembling a).reviseReports = d.reviseReports.assembling a := rfl

@[simp] theorem setTimerExpiry_assembling (k : Qualified) (i : Ix8) :
    (d.assembling a).setTimerExpiry k i = (d.setTimerExpiry k i).assembling a := by
  unfold Device.setTimerExpiry
  exact ite_assembling (fun _ => by simp) fun _ => rfl

@[simp] theorem clearTimerExpiry_assembling (k : Qualified) (i : Ix8) :
    (d.assembling a).clearTimerExpiry k i = (d.clearTimerExpiry k i).assembling a := by
  unfold Device.clearTimerExpiry
  exact ite_assembling (fun _ => rfl) fun _ => rfl

@[simp] theorem finishTimers_assembling : (d.assembling a).finishTimers = d.finishTimers.assembling a := by
  unfold Device.finishTimers
  refine foldl_assembling ?_ allQualified d
  intro e k
  exact foldl_assembling (by simp) eight e

@[simp] theorem returnExpiry_assembling : (d.assembling a).returnExpiry n = (d.returnExpiry n).assembling a := by
  unfold Device.returnExpiry
  exact ite_assembling (fun _ => ite_assembling (fun _ => rfl) fun _ => rfl) fun _ => rfl

@[simp] theorem finish_assembling : (d.assembling a).finish = d.finish.assembling a := by
  have returned (e : Device) : forEight (e.assembling a) Device.returnExpiry = (forEight e Device.returnExpiry).assembling a :=
    foldl_assembling (by simp) eight e
  simp [Device.finish, returned]

/-! ## Requests (R181) -/

@[simp] theorem rehunt_assembling : (d.assembling a).rehunt i = (d.rehunt i).assembling a := by
  unfold Device.rehunt
  rw [show (d.assembling a).checkers = d.checkers from rfl]
  cases (d.checkers.get i).state <;> rfl

@[simp] theorem putMap_assembling (q : Ix8) (s : Ix4) (x : MapEntry) :
    (d.assembling a).putMap q s x = (d.putMap q s x).assembling a := by
  unfold Device.putMap
  refine ite_assembling (fun _ => rfl) fun _ => ?_
  refine foldl_assembling ?_ two { d with map := d.map.set q ((d.map.get q).set s x) }
  intro e i
  exact ite_assembling (fun _ => e.rehunt_assembling i) fun _ => rfl

@[simp] theorem silenceWhere_assembling (test : MapEntry → Bool) :
    (d.assembling a).silenceWhere test = (d.silenceWhere test).assembling a := by
  unfold Device.silenceWhere
  refine foldl_assembling ?_ eight d
  intro e q
  refine foldl_assembling ?_ four e
  intro e s
  exact ite_assembling (fun _ => e.putMap_assembling q s .silence) fun _ => rfl

@[simp] theorem setPort_assembling (enable : Bool) (source : LaneSource) :
    (d.assembling a).setPort p enable source = (d.setPort p enable source).assembling a := by
  unfold Device.setPort
  exact ite_assembling (fun _ => ite_assembling (fun _ => rfl) fun _ => rfl) fun _ => ite_assembling (fun _ => rfl) fun _ => rfl

@[simp] theorem define_assembling (l : List Member) : (d.assembling a).define n l = (d.define n l).assembling a := by
  simp [Device.define]

@[simp] theorem applySetup_assembling (f : BitVec 24) : (d.assembling a).applySetup n f = (d.applySetup n f).assembling a := by
  unfold Device.applySetup
  extract_lets s' x' y' s x y
  have gain : x' = x.assembling a := ite_assembling (fun _ => rfl) fun _ => rfl
  have stage : y' = y.assembling a := ite_assembling (fun _ => by rw [gain]; rfl) fun _ => gain
  rw [stage]
  exact ite_assembling (fun _ => y.targetTrigger_assembling n) fun _ => rfl

@[simp] theorem setup_assembling (f : BitVec 24) (b : SettingsBlock) (loud : LoudMode) (change : ChangeMode) :
    (d.assembling a).setup n f b loud change = (d.setup n f b loud change).assembling a := by
  unfold Device.setup
  extract_lets x' y' x y
  have threshold : y' = y.assembling a := ite_assembling (fun _ => rfl) fun _ => rfl
  rw [threshold]
  exact ite_assembling (fun _ => y.applySetup_assembling n f) fun _ => rfl

@[simp] theorem runProgramme_assembling : (d.assembling a).runProgramme n = (d.runProgramme n).assembling a := by
  simp [Device.runProgramme]

@[simp] theorem stopProgramme_assembling : (d.assembling a).stopProgramme n = (d.stopProgramme n).assembling a := by
  have forced (e : Device) : (conditionsOf n).foldl Device.force (e.assembling a) = ((conditionsOf n).foldl Device.force e).assembling a :=
    foldl_assembling (by simp) _ e
  simp [Device.stopProgramme, Device.stopDelay, forced]

@[simp] theorem deleteProgramme_assembling : (d.assembling a).deleteProgramme n = (d.deleteProgramme n).assembling a := by
  simp [Device.deleteProgramme]

@[simp] theorem raiseRefLoss_assembling : (d.assembling a).raiseRefLoss = d.raiseRefLoss.assembling a := by
  unfold Device.raiseRefLoss
  exact ite_assembling (fun _ => rfl) fun _ => rfl

theorem answer_besides {e' : Device} {g : Device → Answer} (h : e' = e.assembling a) (blind : ∀ e, g (e.assembling a) = g e) :
    (e', g e') = besides (e, g e) a := by
  rw [h, besides, blind]

theorem requestStart_assembling (x y : Byte) : (d.assembling a).requestStart x y = besides (d.requestStart x y) a := by
  unfold Device.requestStart
  cases poolSizeOf x with
  | none => rfl
  | some size =>
    cases refMode? y with
    | none => rfl
    | some m =>
      exact answer_besides (g := fun e => .ok e.startFields)
        (raiseRefLoss_assembling { d with
          pool := Pool.formed size, time := d.time.choose m, link := { d.link with part := .run } }) fun _ => rfl

theorem requestPort_assembling (x y z w : Byte) : (d.assembling a).requestPort x y z w = besides (d.requestPort x y z w) a := by
  unfold Device.requestPort
  cases ix8? x.toNat with
  | none => rfl
  | some p =>
    cases laneSource? z w with
    | none => rfl
    | some s => exact answer_besides (g := fun e => .ok (e.portFields p)) (d.setPort_assembling p _ s) (fun _ => rfl)

theorem requestPortq_assembling (x : Byte) : (d.assembling a).requestPortq x = besides (d.requestPortq x) a := by
  unfold Device.requestPortq
  refine ite_besides (fun _ => rfl) fun _ => ?_
  cases ix8? x.toNat <;> rfl

theorem requestDefine_assembling (x y : Byte) (l : List MemberField) :
    (d.assembling a).requestDefine x y l = besides (d.requestDefine x y l) a := by
  unfold Device.requestDefine
  cases ix8? x.toNat with
  | none => rfl
  | some n =>
    cases flag? y with
    | none => rfl
    | some append =>
      cases members? l with
      | none => rfl
      | some given =>
        exact ite_besides (fun _ => rfl) fun _ => ite_besides (fun _ => rfl) fun _ => ite_besides
          (fun _ => answer_besides (g := fun e => .ok (e.defineFields n)) (d.define_assembling n _) fun _ => rfl) fun _ => rfl

theorem requestSetup_assembling (x : Byte) (f : BitVec 24) (b : SettingsBlock) :
    (d.assembling a).requestSetup x f b = besides (d.requestSetup x f b) a := by
  unfold Device.requestSetup
  cases ix8? x.toNat with
  | none => rfl
  | some n =>
    dsimp only
    cases (if present f 1 = true then loudMode? b.loudnessMode else some .off) with
    | none => rfl
    | some l =>
      cases (if present f 8 = true then changeMode? b.changeoverMode else some .manual) with
      | none => rfl
      | some c =>
        exact ite_besides (fun _ => rfl) fun _ =>
          answer_besides (g := fun e => .clampedIf (setupClamped f b) (e.setupFields n)) (d.setup_assembling n f b l c) (fun _ => rfl)

theorem requestRun_assembling (x : Byte) : (d.assembling a).requestRun x = besides (d.requestRun x) a := by
  unfold Device.requestRun
  cases ix8? x.toNat with
  | none => rfl
  | some n =>
    dsimp only
    rw [assembling_prog]
    cases (d.prog n).record.state with
    | free => rfl
    | stopping => rfl
    | active => rfl
    | standby =>
      exact ite_besides (fun _ => rfl) fun _ =>
        answer_besides (g := fun e => .ok (e.stateFields n)) (d.runProgramme_assembling n) (fun _ => rfl)

theorem requestStop_assembling (x : Byte) : (d.assembling a).requestStop x = besides (d.requestStop x) a := by
  unfold Device.requestStop
  cases ix8? x.toNat with
  | none => rfl
  | some n =>
    dsimp only
    rw [assembling_prog]
    cases (d.prog n).record.state with
    | free => rfl
    | stopping => rfl
    | standby => rfl
    | active => exact answer_besides (g := fun e => .ok (e.stateFields n)) (d.stopProgramme_assembling n) (fun _ => rfl)

theorem requestDelete_assembling (x : Byte) : (d.assembling a).requestDelete x = besides (d.requestDelete x) a := by
  unfold Device.requestDelete
  cases ix8? x.toNat with
  | none => rfl
  | some n =>
    exact ite_besides (fun _ => answer_besides (g := fun e => .ok (e.stateFields n)) (d.deleteProgramme_assembling n) fun _ => rfl)
      fun _ => rfl

theorem requestProgq_assembling (x : Byte) : (d.assembling a).requestProgq x = besides (d.requestProgq x) a := by
  unfold Device.requestProgq
  refine ite_besides (fun _ => rfl) fun _ => ?_
  cases ix8? x.toNat <;> rfl

theorem requestSwitch_assembling (x y : Byte) : (d.assembling a).requestSwitch x y = besides (d.requestSwitch x y) a := by
  unfold Device.requestSwitch
  cases ix8? x.toNat with
  | none => rfl
  | some n =>
    cases selection? y with
    | none => rfl
    | some t => exact ite_besides (fun _ => ite_besides (fun _ => rfl) fun _ => rfl) fun _ => rfl

theorem requestLreset_assembling (x : Byte) : (d.assembling a).requestLreset x = besides (d.requestLreset x) a := by
  unfold Device.requestLreset
  cases ix8? x.toNat with
  | none => rfl
  | some n => exact ite_besides (fun _ => rfl) fun _ => rfl

theorem requestRoute_assembling (x y z v w : Byte) :
    (d.assembling a).requestRoute x y z v w = besides (d.requestRoute x y z v w) a := by
  unfold Device.requestRoute
  cases ix8? x.toNat with
  | none => rfl
  | some q =>
    cases ix4? y.toNat with
    | none => rfl
    | some s =>
      cases mapEntry? z v w with
      | none => rfl
      | some x =>
        have entry : (d.assembling a).entryExists x = d.entryExists x := by cases x <;> rfl
        dsimp only
        rw [entry]
        exact ite_besides (fun _ => answer_besides (g := fun e => .ok (e.routeFields q s)) (d.putMap_assembling q s x) fun _ => rfl)
          fun _ => rfl

theorem requestAmask_assembling (x y z : Byte) : (d.assembling a).requestAmask x y z = besides (d.requestAmask x y z) a := by
  unfold Device.requestAmask
  cases kinds? x with
  | none => rfl
  | some ks => cases flag? y <;> cases flag? z <;> rfl

theorem requestAquery_assembling (x y : Byte) : (d.assembling a).requestAquery x y = besides (d.requestAquery x y) a := by
  unfold Device.requestAquery
  cases selectAlarms x y <;> rfl

theorem requestAclear_assembling (x y : Byte) : (d.assembling a).requestAclear x y = besides (d.requestAclear x y) a := by
  unfold Device.requestAclear
  cases selectAlarms x y <;> rfl

theorem requestMeter_assembling (x y z : Byte) : (d.assembling a).requestMeter x y z = besides (d.requestMeter x y z) a := by
  unfold Device.requestMeter
  exact ite_besides (fun _ => rfl) fun _ => rfl

theorem requestTgen_assembling (x y : Byte) (v : BitVec 16) :
    (d.assembling a).requestTgen x y v = besides (d.requestTgen x y v) a := by
  unfold Device.requestTgen
  cases ix8? x.toNat <;> cases flag? y <;> rfl

theorem requestTcheck_assembling (x y z w : Byte) :
    (d.assembling a).requestTcheck x y z w = besides (d.requestTcheck x y z w) a := by
  unfold Device.requestTcheck
  cases ix2? x.toNat with
  | none => rfl
  | some i =>
    cases flag? y with
    | none => rfl
    | some on =>
      cases on with
      | false => rfl
      | true => cases ix8? z.toNat <;> cases ix4? w.toNat <;> rfl

theorem requestTcheckq_assembling (x : Byte) : (d.assembling a).requestTcheckq x = besides (d.requestTcheckq x) a := by
  unfold Device.requestTcheckq
  refine ite_besides (fun _ => rfl) fun _ => ?_
  cases ix2? x.toNat <;> rfl

theorem carryOut_assembling (r : Request) : (d.assembling a).carryOut r = besides (d.carryOut r) a := by
  cases r with
  | ident => rfl
  | start x y => exact d.requestStart_assembling x y
  | restart => rfl
  | status => rfl
  | port x y z w => exact d.requestPort_assembling x y z w
  | portq x => exact d.requestPortq_assembling x
  | define x y l => exact d.requestDefine_assembling x y l
  | setup x f b => exact d.requestSetup_assembling x f b
  | run x => exact d.requestRun_assembling x
  | stop x => exact d.requestStop_assembling x
  | delete x => exact d.requestDelete_assembling x
  | progq x => exact d.requestProgq_assembling x
  | switch x y => exact d.requestSwitch_assembling x y
  | lreset x => exact d.requestLreset_assembling x
  | route x y z v w => exact d.requestRoute_assembling x y z v w
  | routeq => rfl
  | poolq => rfl
  | amask x y z => exact d.requestAmask_assembling x y z
  | aquery x y => exact d.requestAquery_assembling x y
  | aclear x y => exact d.requestAclear_assembling x y
  | counts => rfl
  | meter x y z => exact d.requestMeter_assembling x y z
  | mstop x => rfl
  | tgen x y v => exact d.requestTgen_assembling x y v
  | tcheck x y z w => exact d.requestTcheck_assembling x y z w
  | tcheckq x => exact d.requestTcheckq_assembling x

theorem performBody_assembling (body : List Byte) : (d.assembling a).performBody body = besides (d.performBody body) a := by
  unfold Device.performBody
  cases readBody body with
  | error x => rfl
  | ok r =>
    dsimp only
    unfold Device.perform
    rw [show (d.assembling a).link.part = d.link.part from rfl]
    cases stateRefusal d.link.part (requestType r) with
    | some x => rfl
    | none => exact d.carryOut_assembling r

/-! ## The link (R181, R184) -/

theorem arbitrate_assembling : (d.assembling a).arbitrate = d.arbitrate.assembling a := by
  unfold Device.arbitrate
  refine ite_assembling (fun _ => rfl) fun _ => ?_
  rw [show (d.assembling a).link.replies = d.link.replies from rfl, assembling_alarms,
    show (d.assembling a).link.firstReport = d.link.firstReport from rfl]
  cases d.link.replies with
  | cons r rest => rfl
  | nil =>
    cases d.alarms.queue with
    | cons q rest => rfl
    | nil => cases d.link.firstReport <;> rfl

theorem execute_assembling : (d.assembling a).execute = d.execute.assembling a := by
  unfold Device.execute
  rw [show (d.assembling a).link.queue = d.link.queue from rfl]
  cases d.link.queue with
  | nil => rfl
  | cons body rest =>
    refine ite_assembling (fun _ => ?_) fun _ => rfl
    have performed := (d.modLink fun l => { l with queue := rest }).performBody_assembling (a := a) body
    exact congrArg (fun r : Device × Answer => r.1.modLink fun l => { l with replies := l.replies ++ [replyTo body r.2] }) performed

theorem catchUp_assembling : (d.assembling a).catchUp = d.catchUp.assembling a := by
  rw [Device.catchUp, Device.settleLink, finish_assembling, arbitrate_assembling, execute_assembling]
  rfl

theorem offer_assembling (l : Link) (body : List Byte) :
    ({ l with assembler := a } : Link).offer body = { l.offer body with assembler := a } := by
  have busy : ({ l with assembler := a } : Link).busyCount = l.busyCount := rfl
  unfold Link.offer
  rw [busy]
  split_ifs <;> rfl

/-- A complete frame does not find the state that the receive assembler was in. -/
theorem completeFrame_assembling (body : List Byte) : (d.assembling a).completeFrame body = d.completeFrame body := by
  unfold Device.completeFrame
  rw [catchUp_assembling]
  generalize d.catchUp = e
  refine congrArg Device.execute ?_
  unfold Device.assembling Device.modLink
  dsimp only
  rw [offer_assembling]

end Device

/-! ## The bytes of a frame (R177, R178) -/

theorem step_receivedByte (b : Byte) (rest : List Instr) (d : Device) :
    step { pending := Instr.receivedByte b false :: rest, dev := d } = .next { pending := rest, dev := d.assemble b } := rfl

theorem run_receivedByte (k : Nat) (b : Byte) (rest : List Instr) (d : Device) :
    Host.Core.run core (k + 1) ({ pending := Instr.receivedByte b false :: rest, dev := d } : State) =
      Host.Core.run core k ({ pending := rest, dev := d.assemble b } : State) := rfl

theorem assemble_start (d : Device) : (d.assembling .awaitStart).assemble 0xA5 = d.assembling .awaitLength := rfl

theorem assemble_length (d : Device) {b : Byte} (fits : 2 ≤ b.toNat ∧ b.toNat ≤ 250) :
    (d.assembling .awaitLength).assemble b = d.assembling (.inBody b.toNat []) := if_pos fits

theorem assemble_more (d : Device) {n : Nat} {kept : List Byte} (b : Byte) (more : kept.length + 1 < n) :
    (d.assembling (.inBody n kept)).assemble b = d.assembling (.inBody n (kept ++ [b])) :=
  if_neg (by rw [List.length_append]; exact not_le.2 more)

theorem assemble_last (d : Device) {n : Nat} {kept : List Byte} (b : Byte) (last : n ≤ kept.length + 1) :
    (d.assembling (.inBody n kept)).assemble b = d.assembling (.awaitCheck (kept ++ [b]) none) :=
  if_pos (by rw [List.length_append]; exact last)

theorem assemble_high (d : Device) (body : List Byte) (b : Byte) :
    (d.assembling (.awaitCheck body none)).assemble b = d.assembling (.awaitCheck body (some b)) := rfl

theorem assemble_low (d : Device) (body : List Byte) (high low : Byte) (fits : bodyFits body = true)
    (good : be16 high low = frameCrc body) :
    (d.assembling (.awaitCheck body (some high))).assemble low = d.completeFrame body := by
  have judged : (d.assembling (.awaitCheck body (some high))).assemble low =
      (d.assembling (.awaitCheck body (some high))).frameReceived body (be16 high low) := rfl
  rw [judged, good, Device.frameReceived_good fits, Device.completeFrame_assembling]

/-- The bytes of a body, one after another. -/
theorem run_body (l : List Byte) (some : l ≠ []) (n k : Nat) (kept : List Byte) (long : kept.length + l.length = n)
    (rest : List Instr) (d : Device) :
    Host.Core.run core (l.length + k) ({
        pending := l.map (fun b => Instr.receivedByte b false) ++ rest, dev := d.assembling (.inBody n kept) } : State) =
      Host.Core.run core k ({ pending := rest, dev := d.assembling (.awaitCheck (kept ++ l) none) } : State) := by
  induction l generalizing kept with
  | nil => exact absurd rfl some
  | cons b l ih =>
    rw [List.length_cons] at long
    rw [List.length_cons, show l.length + 1 + k = l.length + k + 1 by omega, List.map_cons, List.cons_append, run_receivedByte]
    cases l with
    | nil =>
      rw [assemble_last d b (by rw [List.length_nil] at long; omega)]
      exact congrArg (fun j => Host.Core.run core j _) (Nat.zero_add k)
    | cons c l =>
      rw [assemble_more d b (by rw [List.length_cons] at long; omega), ih nofun (kept ++ [b])
        (by rw [List.length_append, List.length_singleton]; omega), List.append_assoc]
      rfl

/-- Settles O4: the CRC bit by bit, and the assembler byte by byte. -/
theorem frameBytesAreTheFrame : Obligations.FrameBytesAreTheFrame := by
  unfold Obligations.FrameBytesAreTheFrame
  intro bits taken
  refine ⟨fun body => ⟨?_, rfl⟩, by decide +kernel, fun body rest d fits start => ?_, fun b s start other => ?_⟩
  · have byte (r : BitVec 16) (x : Byte) : crcByte r x = ([7, 6, 5, 4, 3, 2, 1, 0].map fun i => x.getLsbD i).foldl taken r := rfl
    have bytes (l : List Byte) (r : BitVec 16) : l.foldl crcByte r = (bits l).foldl taken r := by
      induction l generalizing r with
      | nil => rfl
      | cons x l ih =>
        rw [List.foldl_cons, ih, byte]
        exact (List.foldl_append ..).symm
    exact bytes _ _
  · have idle : d = d.assembling .awaitStart := by
      unfold Device.assembling Device.modLink
      rw [← start]
    have inside : 2 ≤ body.length ∧ body.length ≤ 250 := by
      simpa [fitsFrame] using fits
    have number : (byteOf body.length).toNat = body.length := by
      change (BitVec.ofNat 8 body.length).toNat = body.length
      rw [BitVec.toNat_ofNat]
      exact Nat.mod_eq_of_lt (by omega)
    have whole : (frameOf body).map (fun b => Instr.receivedByte b false) ++ rest =
        Instr.receivedByte 0xA5 false :: Instr.receivedByte (byteOf body.length) false ::
          (body.map (fun b => Instr.receivedByte b false) ++
            (Instr.receivedByte ((frameCrc body).extractLsb' 8 8) false ::
              Instr.receivedByte ((frameCrc body).extractLsb' 0 8) false :: rest)) := by
      rw [frameOf, put16, List.map_append, List.map_append, List.append_assoc, List.append_assoc]
      rfl
    have run := run_body body (List.ne_nil_of_length_pos (by omega)) body.length 2 [] (Nat.zero_add _)
      (Instr.receivedByte ((frameCrc body).extractLsb' 8 8) false ::
        Instr.receivedByte ((frameCrc body).extractLsb' 0 8) false :: rest) d
    rw [List.nil_append] at run
    rw [exec_frameReceived, Device.frameReceived_good (bodyFits_of_fitsFrame fits), whole]
    rw [idle, Device.completeFrame_assembling, show body.length + 4 = body.length + 2 + 1 + 1 from rfl, run_receivedByte,
      assemble_start, run_receivedByte, assemble_length d (by rw [number]; exact inside), number, run, run_receivedByte,
      assemble_high, run_receivedByte, assemble_low d _ _ _ (bodyFits_of_fitsFrame fits) (be16_parts _)]
    rfl
  · rw [exec_receivedByte, Device.assemble]
    simp only [start, if_neg other]

end Sys2Proof.Machine
end

section
/-!
SUPPORT. What the checkers, the timers and the returns leave alone when they are done with, and how a request that one of
them makes stands from then on (R69, R70, R148, R170, R171, R187, logs 24 and 42).
-/

namespace Sys2Proof.Machine

variable {d e f : Device} {n m : Ix8} {a : Alarm}

/-! ## What is left alone -/

/-- The context of a programme is one that waits in PENDING with no return due, and the reports of the sub-block end
that H stands on show it. -/
structure Device.Shows (d : Device) (n : Ix8) (c : Context) : Prop where
  ctx : (d.prog n).ctx = c
  pending : c.state = .pending
  mark : c.returnDue = false
  reports : ∀ r, d.link.slots.get n = some r → d.time.boundary = .taken → r.h = d.time.h → r.ctx = .pending

/-- A report is as it was, but for the context state that it shows. -/
def Reread (old new : Option Report) : Prop :=
  (old = none → new = none) ∧ ∀ r, old = some r → ∃ q, new = some q ∧ q = { r with ctx := q.ctx }

theorem Reread.refl (o : Option Report) : Reread o o := ⟨id, fun r h => ⟨r, h, rfl⟩⟩

theorem Reread.trans {x y z : Option Report} (h : Reread x y) (k : Reread y z) : Reread x z := by
  refine ⟨fun none => k.1 (h.1 none), fun r there => ?_⟩
  obtain ⟨q, second, same⟩ := h.2 r there
  obtain ⟨p, third, again⟩ := k.2 q second
  exact ⟨p, third, by rw [again, same]⟩

/-- Nothing but checkers, alarm records and their notices, contexts, and the context states in reports differs; and a
request that stands in PENDING stays. -/
structure Device.Finishing (d e : Device) : Prop where
  time : e.time = d.time
  ports : e.ports = d.ports
  pool : e.pool = d.pool
  mem : e.mem = d.mem
  map : e.map = d.map
  formed : e.formed = d.formed
  emitted : e.emitted = d.emitted
  masks : e.alarms.masks = d.alarms.masks
  prog : ∀ n, e.prog n = { d.prog n with ctx := (e.prog n).ctx }
  link : e.link = { d.link with slots := e.link.slots }
  slots : ∀ n, Reread (d.link.slots.get n) (e.link.slots.get n)
  stays : ∀ n c, d.Shows n c → e.Shows n c

namespace Device.Finishing

theorem refl (d : Device) : d.Finishing d :=
  ⟨rfl, rfl, rfl, rfl, rfl, rfl, rfl, rfl, fun _ => rfl, rfl, fun _ => .refl _, fun _ _ => id⟩

theorem trans (h : d.Finishing e) (k : e.Finishing f) : d.Finishing f where
  time := k.time.trans h.time
  ports := k.ports.trans h.ports
  pool := k.pool.trans h.pool
  mem := k.mem.trans h.mem
  map := k.map.trans h.map
  formed := k.formed.trans h.formed
  emitted := k.emitted.trans h.emitted
  masks := k.masks.trans h.masks
  prog n := by rw [k.prog, h.prog]
  link := by rw [k.link, h.link]
  slots n := (h.slots n).trans (k.slots n)
  stays n c shows := k.stays n c (h.stays n c shows)

theorem foldl {α : Type} {g : Device → α → Device} (h : ∀ (d : Device) a, d.Finishing (g d a)) (l : List α)
    (d : Device) : d.Finishing (l.foldl g d) := by
  induction l generalizing d with
  | nil => exact .refl d
  | cons a l ih => exact (h d a).trans (ih _)

theorem forEight {g : Device → Ix8 → Device} (h : ∀ n, ∀ d : Device, d.Finishing (g d n)) (d : Device) :
    d.Finishing (forEight d g) := foldl (fun d n => h n d) eight d

theorem record (h : d.Finishing e) (n : Ix8) : (e.prog n).record = (d.prog n).record := by rw [h.prog]

theorem delay (h : d.Finishing e) (n : Ix8) : (e.prog n).delay = (d.prog n).delay := by rw [h.prog]

end Device.Finishing

theorem Device.modAlarms_finishing (g : AlarmUnit → AlarmUnit) (masks : (g d.alarms).masks = d.alarms.masks) :
    d.Finishing (d.modAlarms g) where
  time := rfl
  ports := rfl
  pool := rfl
  mem := rfl
  map := rfl
  formed := rfl
  emitted := rfl
  masks := masks
  prog _ := rfl
  link := rfl
  slots _ := .refl _
  stays _ _ shows := ⟨shows.ctx, shows.pending, shows.mark, shows.reports⟩

theorem Device.modChecker_finishing (d : Device) (i : Ix2) (g : Checker → Checker) : d.Finishing (d.modChecker i g) where
  time := rfl
  ports := rfl
  pool := rfl
  mem := rfl
  map := rfl
  formed := rfl
  emitted := rfl
  masks := rfl
  prog _ := rfl
  link := rfl
  slots _ := .refl _
  stays _ _ shows := ⟨shows.ctx, shows.pending, shows.mark, shows.reports⟩

theorem Device.activate_finishing (d : Device) (a : Alarm) : d.Finishing (d.activate a) :=
  Device.modAlarms_finishing _ (AlarmUnit.activate_masks _ _ _)

theorem Device.deactivate_finishing (d : Device) (a : Alarm) : d.Finishing (d.deactivate a) :=
  Device.modAlarms_finishing _ (AlarmUnit.deactivate_masks _ _ _)

theorem Device.modCtx_prog (d : Device) (n k : Ix8) (g : Context → Context) :
    (d.modCtx n g).prog k = if n = k then { d.prog n with ctx := g (d.prog n).ctx } else d.prog k :=
  d.prog_modProg n k _

/-- A context that does not stand in PENDING, or whose return is due, is changed. -/
theorem Device.modCtx_finishing (other : (d.prog n).ctx.state = .pending → (d.prog n).ctx.returnDue = true)
    (g : Context → Context) : d.Finishing (d.modCtx n g) where
  time := rfl
  ports := rfl
  pool := rfl
  mem := rfl
  map := rfl
  formed := rfl
  emitted := rfl
  masks := rfl
  prog k := (d.modCtx_ctxOnly n g).prog k
  link := rfl
  slots _ := .refl _
  stays k c shows := by
    refine ⟨?_, shows.pending, shows.mark, shows.reports⟩
    rw [d.modCtx_prog]
    split_ifs with own
    · subst own
      have due := other (by rw [shows.ctx]; exact shows.pending)
      rw [shows.ctx, shows.mark] at due
      nomatch due
    · exact shows.ctx

theorem Device.autoTest_finishing (d : Device) (n : Ix8) : d.Finishing (d.autoTest n) := by
  unfold Device.autoTest
  extract_lets x
  split_ifs with h
  · obtain ⟨-, -, -, idle, -⟩ := h
    exact Device.modCtx_finishing (fun pending => by rw [idle] at pending; nomatch pending) _
  · exact .refl d

theorem Device.activationTests_finishing (d : Device) (k : Qualified) (i : Ix8) :
    d.Finishing (d.activationTests k i) := by
  cases k with
  | unlock =>
    refine .forEight (fun n e => ?_) d
    split_ifs
    · exact e.autoTest_finishing n
    · exact .refl e
  | silence => exact d.autoTest_finishing i
  | loudHigh => exact .refl d
  | loudLow => exact .refl d

/-! ## The reports of a sub-block end, revised (R187, log 24) -/

theorem Device.reviseReports_slot (d : Device) (n : Ix8) : d.reviseReports.link.slots.get n =
    (d.link.slots.get n).map fun r =>
      if d.time.boundary = .taken ∧ r.h = d.time.h then { r with ctx := (d.prog n).ctx.state } else r :=
  Oct.get_ofFn _ _

/-- Once revised the reports show the contexts that wait in PENDING. -/
theorem Device.reviseReports_shows (d : Device) (n : Ix8) (pending : (d.prog n).ctx.state = .pending)
    (mark : (d.prog n).ctx.returnDue = false) : d.reviseReports.Shows n (d.prog n).ctx := by
  refine ⟨rfl, pending, mark, fun r slot taken now => ?_⟩
  rw [d.reviseReports_slot, Option.map_eq_some_iff] at slot
  obtain ⟨q, -, same⟩ := slot
  change d.time.boundary = .taken at taken
  change r.h = d.time.h at now
  rw [← same] at now ⊢
  split_ifs at now ⊢ with fresh
  · exact pending
  · exact absurd ⟨taken, now⟩ fresh

theorem Device.reviseReports_finishing (d : Device) : d.Finishing d.reviseReports where
  time := rfl
  ports := rfl
  pool := rfl
  mem := rfl
  map := rfl
  formed := rfl
  emitted := rfl
  masks := rfl
  prog _ := rfl
  link := rfl
  slots n := by
    rw [d.reviseReports_slot]
    refine ⟨fun none => by rw [none]; rfl, fun r there => ⟨_, by rw [there]; rfl, ?_⟩⟩
    dsimp only
    split_ifs <;> rfl
  stays n c shows := by
    have revised := d.reviseReports_shows n (by rw [shows.ctx]; exact shows.pending) (by rw [shows.ctx]; exact shows.mark)
    rw [shows.ctx] at revised
    exact revised

/-! ## The events themselves -/

theorem Device.checkerSync_finishing (d : Device) (i : Ix2) : d.Finishing (d.checkerSync i) := by
  unfold Device.checkerSync
  dsimp only
  split_ifs
  · exact (d.modChecker_finishing i _).trans (Device.deactivate_finishing _ _)
  · exact .refl d

theorem Device.checkerLoss_finishing (d : Device) (i : Ix2) : d.Finishing (d.checkerLoss i) := by
  unfold Device.checkerLoss
  dsimp only
  split_ifs
  · exact (d.modChecker_finishing i _).trans (Device.activate_finishing _ _)
  · exact .refl d

theorem Device.settleCheckers_finishing (d : Device) : d.Finishing d.settleCheckers :=
  .foldl (fun e i => (e.checkerSync_finishing i).trans (Device.checkerLoss_finishing _ i)) two d

theorem Device.setTimerExpiry_finishing (d : Device) (k : Qualified) (i : Ix8) : d.Finishing (d.setTimerExpiry k i) := by
  unfold Device.setTimerExpiry
  dsimp only
  split_ifs
  · exact ((d.activate_finishing _).trans (Device.activationTests_finishing _ k i)).trans
      (Device.reviseReports_finishing _)
  · exact .refl d

theorem Device.clearTimerExpiry_finishing (d : Device) (k : Qualified) (i : Ix8) :
    d.Finishing (d.clearTimerExpiry k i) := by
  unfold Device.clearTimerExpiry
  dsimp only
  split_ifs
  · exact d.deactivate_finishing _
  · exact .refl d

theorem Device.returnExpiry_finishing (d : Device) (n : Ix8) : d.Finishing (d.returnExpiry n) := by
  unfold Device.returnExpiry
  dsimp only
  split_ifs with due
  · exact (Device.modCtx_finishing (fun _ => due) _).trans (Device.reviseReports_finishing _)
  · exact Device.modCtx_finishing (fun _ => due) _
  · exact .refl d

end Sys2Proof.Machine
end

section
/-!
PROOF. What the expiries of a sub-block end make of the qualified conditions and of the contexts (R69, R146, R148,
R187, logs 24 and 46).
-/

namespace Sys2Proof.Machine

variable {d e f : Device} {n m : Ix8} {x y : Qualified × Ix8}

/-! ## A pass over a list, seen at one of its items -/

/-- A pass reaches what one of its items brings about, where every other item leaves that item's case standing and no
item undoes it. -/
theorem foldl_reaches {α β : Type} {g : β → α → β} {waits done : β → Prop} {x : α}
    (fire : ∀ e, waits e → done (g e x)) (wait : ∀ e a, a ≠ x → waits e → waits (g e a) ∨ done (g e a))
    (stays : ∀ e a, done e → done (g e a)) (l : List α) (there : x ∈ l) (e : β) (start : waits e ∨ done e) :
    done (l.foldl g e) := by
  have kept (l : List α) (e : β) (h : done e) : done (l.foldl g e) := by
    induction l generalizing e with
    | nil => exact h
    | cons a l ih => exact ih _ (stays e a h)
  induction l generalizing e with
  | nil => nomatch there
  | cons a l ih =>
    rcases start with start | start
    · by_cases own : a = x
      · subst own
        exact kept l _ (fire e start)
      · exact ih ((List.mem_cons.1 there).resolve_left (Ne.symm own)) _ (wait e a own start)
    · exact kept l _ (stays e a start)

theorem foldl_holds {α β : Type} {g : β → α → β} {P : β → Prop} (keep : ∀ e a, P e → P (g e a)) (l : List α) (e : β)
    (start : P e) : P (l.foldl g e) := by
  induction l generalizing e with
  | nil => exact start
  | cons a l ih => exact ih _ (keep e a start)

/-! ## One expiry -/

/-- The timer of one qualified condition, with its limit. -/
def Device.expire (d : Device) (x : Qualified × Ix8) : Device := (d.setTimerExpiry x.1 x.2).clearTimerExpiry x.1 x.2

/-- The qualified conditions in the order of their expiries. -/
def qualifiedList : List (Qualified × Ix8) := allQualified.flatMap fun k => eight.map fun i => (k, i)

theorem mem_qualifiedList (x : Qualified × Ix8) : x ∈ qualifiedList := by
  obtain ⟨k, i⟩ := x
  have named : k ∈ allQualified := by cases k <;> decide
  exact List.mem_flatMap.2 ⟨k, named, List.mem_map.2 ⟨i, mem_eight i, rfl⟩⟩

theorem Device.finishTimers_eq (d : Device) : d.finishTimers = qualifiedList.foldl Device.expire d := by
  rw [qualifiedList, List.foldl_flatMap]
  simp only [List.foldl_map]
  rfl

/-- The condition of an expiry. -/
def alarmOf (x : Qualified × Ix8) : Alarm := qualifiedAlarm x.1 x.2

theorem alarmOf_injective : Function.Injective alarmOf := by
  rintro ⟨k, i⟩ ⟨l, j⟩ same
  cases k <;> cases l <;> simp_all [alarmOf, qualifiedAlarm]

theorem Device.expire_finishing (d : Device) (x : Qualified × Ix8) : d.Finishing (d.expire x) :=
  (d.setTimerExpiry_finishing x.1 x.2).trans (Device.clearTimerExpiry_finishing _ x.1 x.2)

theorem Device.expire_marks (h : d.marksSound) : (d.expire x).marksSound :=
  (d.setTimerExpiry_keeps x.1 x.2).trans (Device.clearTimerExpiry_keeps _ x.1 x.2) |>.marks h

/-- A set mark stands on an inactive condition, and a clear mark on an active one. -/
theorem Device.marksSound.record (h : d.marksSound) (a : Alarm) :
    ((d.alarms.get a).expiry = .set → (d.alarms.get a).active = false) ∧
    ((d.alarms.get a).expiry = .clear → (d.alarms.get a).active = true) := by
  rcases h.1 a with none | ⟨-, set, clear⟩
  · rw [none]
    exact ⟨nofun, nofun⟩
  · exact ⟨set, clear⟩

/-- The part with a condition active, before its timers' expiry is reported. -/
def Device.alerted (d : Device) (x : Qualified × Ix8) : Device :=
  (d.activate (alarmOf x)).activationTests x.1 x.2

theorem Device.alerted_alarms (d : Device) (x : Qualified × Ix8) :
    (d.alerted x).alarms = d.alarms.activate d.time.seconds (alarmOf x) := by
  rw [Device.alerted, ((d.activate (alarmOf x)).activationTests_ctxOnly x.1 x.2).frame]
  rfl

theorem Device.expire_none (none : (d.alarms.get (alarmOf x)).expiry = .none) : d.expire x = d := by
  have set : d.setTimerExpiry x.1 x.2 = d := if_neg fun h => by
    have := h.1.symm.trans none
    nomatch this
  rw [Device.expire, set]
  exact if_neg fun h => by
    have := h.1.symm.trans none
    nomatch this

theorem Device.expire_set (marks : d.marksSound) (set : (d.alarms.get (alarmOf x)).expiry = .set) :
    d.expire x = (d.alerted x).reviseReports := by
  have off := (marks.record (alarmOf x)).1 set
  have first : d.setTimerExpiry x.1 x.2 = (d.alerted x).reviseReports := if_pos ⟨set, off⟩
  rw [Device.expire, first]
  refine if_neg fun h => ?_
  have gone : ((d.alerted x).alarms.get (alarmOf x)).expiry = .none := by
    rw [d.alerted_alarms, AlarmUnit.activate_get, if_pos ⟨rfl, off⟩]
  exact nomatch h.1.symm.trans gone

theorem Device.expire_clear (marks : d.marksSound) (clear : (d.alarms.get (alarmOf x)).expiry = .clear) :
    d.expire x = d.deactivate (alarmOf x) := by
  have on := (marks.record (alarmOf x)).2 clear
  have first : d.setTimerExpiry x.1 x.2 = d := if_neg fun h => by
    have := h.1.symm.trans clear
    nomatch this
  rw [Device.expire, first]
  exact if_pos ⟨clear, on⟩

/-! ## The records of the conditions (R146, R148) -/

/-- The record that an expiry leaves. -/
def AlarmRecord.expired (r : AlarmRecord) (now : BitVec 32) (notify : Bool) : AlarmRecord :=
  match r.expiry with
  | .none => r
  | .set =>
    { active := true, latch := true, count := addSat r.count 1, setTimer := 0, clearTimer := 0, time := now,
      noticed := r.noticed || notify, expiry := .none }
  | .clear =>
    { r with active := false, setTimer := 0, clearTimer := 0, time := now, noticed := r.noticed || notify,
             expiry := .none }

theorem AlarmRecord.expired_expiry (r : AlarmRecord) (now : BitVec 32) (notify : Bool) :
    (r.expired now notify).expiry = .none := by
  unfold AlarmRecord.expired
  split
  · assumption
  · rfl
  · rfl

/-- An expiry changes the record of its own condition alone. -/
theorem Device.expire_get (marks : d.marksSound) (a : Alarm) : (d.expire x).alarms.get a =
    if a = alarmOf x then (d.alarms.get a).expired d.time.seconds (d.alarms.masks.get a.kind).notify
    else d.alarms.get a := by
  have sound := marks.record (alarmOf x)
  cases mark : (d.alarms.get (alarmOf x)).expiry with
  | none =>
    rw [Device.expire_none mark]
    split_ifs with own
    · rw [own, AlarmRecord.expired, mark]
    · rfl
  | set =>
    rw [Device.expire_set marks mark]
    change (d.alerted x).alarms.get a = _
    rw [d.alerted_alarms, AlarmUnit.activate_get]
    split_ifs with h own own
    · rw [own, AlarmRecord.expired, mark]
    · exact absurd h.1 own
    · exact absurd ⟨own, sound.1 mark⟩ h
    · rfl
  | clear =>
    rw [Device.expire_clear marks mark]
    change (d.alarms.deactivate d.time.seconds (alarmOf x)).get a = _
    rw [AlarmUnit.deactivate_get]
    split_ifs with h own own
    · rw [own, AlarmRecord.expired, mark]
    · exact absurd h.1 own
    · exact absurd ⟨own, sound.2 mark⟩ h
    · rfl

theorem Device.finishTimers_finishing (d : Device) : d.Finishing d.finishTimers := by
  rw [d.finishTimers_eq]
  exact .foldl (fun e x => e.expire_finishing x) _ d

/-- The timers' expiries leave the other records. -/
theorem Device.finishTimers_other (marks : d.marksSound) (a : Alarm) (other : ∀ x, a ≠ alarmOf x) :
    d.finishTimers.alarms.get a = d.alarms.get a := by
  rw [d.finishTimers_eq]
  refine (foldl_holds (P := fun e : Device => e.marksSound ∧ e.alarms.get a = d.alarms.get a) (fun e x h => ?_)
    qualifiedList d ⟨marks, rfl⟩).2
  exact ⟨Device.expire_marks h.1, by rw [Device.expire_get h.1, if_neg (other x), h.2]⟩

/-- Each qualified condition's record has its expiry done with. -/
theorem Device.finishTimers_get (marks : d.marksSound) (x : Qualified × Ix8) :
    d.finishTimers.alarms.get (alarmOf x) = (d.alarms.get (alarmOf x)).expired d.time.seconds
      (d.alarms.masks.get (alarmOf x).kind).notify := by
  rw [d.finishTimers_eq]
  refine (foldl_reaches
    (waits := fun e : Device => e.marksSound ∧ e.time = d.time ∧ e.alarms.masks = d.alarms.masks ∧
      e.alarms.get (alarmOf x) = d.alarms.get (alarmOf x))
    (done := fun e : Device => e.marksSound ∧ e.alarms.get (alarmOf x) = (d.alarms.get (alarmOf x)).expired
      d.time.seconds (d.alarms.masks.get (alarmOf x).kind).notify)
    (x := x) ?_ ?_ ?_ qualifiedList (mem_qualifiedList x) d (.inl ⟨marks, rfl, rfl, rfl⟩)).2
  · rintro e ⟨sound, time, masks, same⟩
    exact ⟨Device.expire_marks sound, by rw [Device.expire_get sound, if_pos rfl, same, time, masks]⟩
  · rintro e a other ⟨sound, time, masks, same⟩
    have frame := e.expire_finishing a
    exact .inl ⟨Device.expire_marks sound, frame.time.trans time, frame.masks.trans masks, by
      rw [Device.expire_get sound, if_neg fun h => other (alarmOf_injective h).symm, same]⟩
  · rintro e a ⟨sound, there⟩
    refine ⟨Device.expire_marks sound, ?_⟩
    rw [Device.expire_get sound]
    split_ifs with own
    · rw [there, AlarmRecord.expired, AlarmRecord.expired_expiry]
    · exact there

/-! ## The automatic request for BACKUP (R69) -/

/-- A programme of which a failed primary side makes the automatic request. -/
def Device.mayAsk (d : Device) (n : Ix8) : Prop :=
  let x := d.prog n
  x.record.state = .active ∧ x.record.settings.changeoverMode ≠ .manual ∧ x.ctx.selection = .primary ∧
    x.ctx.state = .idle ∧ x.ctx.backupHealthy = true

/-- The context that waits in PENDING on the automatic request for BACKUP. -/
def Programme.asked (x : Programme) : Context := x.ctx.pend x.record.settings .backup .auto

/-- A condition tells of a failed primary side of a programme. -/
def Device.concerns (d : Device) (n : Ix8) (x : Qualified × Ix8) : Prop :=
  x = (.silence, n) ∨ ∃ z ∈ (d.prog n).record.members, x = (.unlock, z.primary.port)

theorem Device.autoTest_asks (may : d.mayAsk n) (failed : d.primaryFailed n = true) :
    d.autoTest n = d.modCtx n fun _ => (d.prog n).asked := by
  obtain ⟨active, auto, primary, idle, healthy⟩ := may
  exact if_pos ⟨active, auto, primary, idle, failed, healthy⟩

theorem Device.autoTest_still (may : ¬ d.mayAsk n) : d.autoTest n = d :=
  if_neg fun ⟨active, auto, primary, idle, _, healthy⟩ => may ⟨active, auto, primary, idle, healthy⟩

theorem Device.autoTest_other (d : Device) (h : m ≠ n) : (d.autoTest m).prog n = d.prog n := by
  unfold Device.autoTest
  dsimp only
  split_ifs
  · rw [d.modCtx_prog, if_neg h]
  · rfl

theorem Device.mayAsk_congr (prog : e.prog n = d.prog n) : e.mayAsk n ↔ d.mayAsk n := by
  unfold Device.mayAsk
  rw [prog]

theorem Device.autoTest_prog (d : Device) (n : Ix8) : (d.mayAsk n → d.primaryFailed n = true →
    ((d.autoTest n).prog n).ctx = (d.prog n).asked) ∧ (¬ d.mayAsk n → (d.autoTest n).prog n = d.prog n) := by
  refine ⟨fun may failed => ?_, fun may => by rw [Device.autoTest_still may]⟩
  rw [Device.autoTest_asks may failed, d.modCtx_prog, if_pos rfl]

theorem Record.any_primary (r : Record) (i : Ix8) :
    (r.side .primary).any (fun s => s.port == i) = true ↔ ∃ z ∈ r.members, z.primary.port = i := by
  simp [Record.side, List.any_map]

/-- The tests that an activation brings: a programme that the condition concerns makes its request, and no other does
anything. -/
theorem Device.activationTests_prog (d : Device) (x : Qualified × Ix8)
    (active : (d.alarms.get (alarmOf x)).active = true) :
    (d.concerns n x → d.mayAsk n → ((d.activationTests x.1 x.2).prog n).ctx = (d.prog n).asked) ∧
    (¬ (d.concerns n x ∧ d.mayAsk n) → (d.activationTests x.1 x.2).prog n = d.prog n) := by
  obtain ⟨k, i⟩ := x
  cases k with
  | unlock =>
    obtain ⟨b, alarms, same, there⟩ := forEight_at
      (f := fun (e : Device) n => if ((e.prog n).record.side .primary).any (fun s => s.port == i) then e.autoTest n else e)
      (P := fun e : Device => e.alarms = d.alarms) (fun n e => e.prog n)
      (fun e m same => by
        split_ifs
        · rw [(e.autoTest_ctxOnly m).frame]
          exact same
        · exact same)
      (fun e m n _ other => by
        split_ifs
        · exact e.autoTest_other other.symm
        · rfl) (a := d) rfl n
    change (_ → _ → ((d.activationTests .unlock i).prog n).ctx = _) ∧ (_ → (d.activationTests .unlock i).prog n = _)
    have run : (d.activationTests .unlock i).prog n =
        (if ((b.prog n).record.side .primary).any (fun s => s.port == i) then b.autoTest n else b).prog n := there
    rw [run]
    have concerned : d.concerns n (.unlock, i) ↔ ((b.prog n).record.side .primary).any (fun s => s.port == i) = true := by
      rw [Record.any_primary, same]
      constructor
      · rintro (other | ⟨z, member, same⟩)
        · nomatch other
        · exact ⟨z, member, (Prod.ext_iff.1 same).2.symm⟩
      · rintro ⟨z, member, rfl⟩
        exact .inr ⟨z, member, rfl⟩
    by_cases any : ((b.prog n).record.side .primary).any (fun s => s.port == i) = true
    · rw [if_pos any]
      have failed : b.primaryFailed n = true := by
        obtain ⟨z, member, port⟩ := (Record.any_primary _ i).1 any
        rw [Device.primaryFailed, Bool.or_eq_true]
        refine .inr (List.any_eq_true.2 ⟨z.primary, List.mem_map_of_mem member, ?_⟩)
        rw [port, alarms]
        exact active
      obtain ⟨asks, still⟩ := b.autoTest_prog n
      rw [same] at asks still
      refine ⟨fun _ may => asks ((Device.mayAsk_congr same).2 may) failed, fun no => still fun may => no ?_⟩
      exact ⟨concerned.2 any, (Device.mayAsk_congr same).1 may⟩
    · rw [if_neg any, same]
      exact ⟨fun concerns => absurd (concerned.1 concerns) any, fun _ => rfl⟩
  | silence =>
    change (_ → _ → ((d.autoTest i).prog n).ctx = _) ∧ (_ → (d.autoTest i).prog n = _)
    by_cases own : i = n
    · subst own
      have failed : d.primaryFailed i = true := by
        rw [Device.primaryFailed, Bool.or_eq_true]
        exact .inl active
      obtain ⟨asks, still⟩ := d.autoTest_prog i
      exact ⟨fun _ may => asks may failed, fun no => still fun may => no ⟨.inl rfl, may⟩⟩
    · refine ⟨fun concerns => ?_, fun _ => d.autoTest_other own⟩
      rcases concerns with same | ⟨z, -, same⟩
      · exact absurd (Prod.ext_iff.1 same).2 own
      · nomatch same
  | loudHigh =>
    refine ⟨fun concerns => ?_, fun _ => rfl⟩
    rcases concerns with same | ⟨z, -, same⟩ <;> nomatch same
  | loudLow =>
    refine ⟨fun concerns => ?_, fun _ => rfl⟩
    rcases concerns with same | ⟨z, -, same⟩ <;> nomatch same

end Sys2Proof.Machine
end

section
/-!
PROOF. What the checkers, the timers and the returns that an earlier command left make of the checkers, their conditions
and the contexts (R69, R70, R148, R170, R171, R187, logs 24 and 42).
-/

namespace Sys2Proof.Machine

variable {d e f : Device} {n m : Ix8} {x y : Qualified × Ix8} {i j : Ix2}

/-! ## The checkers (R170, R171) -/

/-- What being done with one checker leaves of it and of its condition. -/
structure Device.CheckerDone (d e : Device) (i : Ix2) : Prop where
  sync : (d.checkers.get i).state = .hunt → 48 ≤ (d.checkers.get i).correctRun →
    e.checkers.get i = { d.checkers.get i with state := .sync, window := List.replicate 48 false } ∧
    (e.alarms.get (.checkLoss i)).active = false ∧
    (e.alarms.get (.checkLoss i)).latch = (d.alarms.get (.checkLoss i)).latch ∧
    (e.alarms.get (.checkLoss i)).count = (d.alarms.get (.checkLoss i)).count
  loss : (d.checkers.get i).state = .sync → 8 ≤ (d.checkers.get i).window.count true →
    e.checkers.get i =
      { d.checkers.get i with state := .hunt, loadCount := 0, correctRun := 0, window := [], delay := none } ∧
    (e.alarms.get (.checkLoss i)).active = true ∧
    ((d.alarms.get (.checkLoss i)).active = false → (e.alarms.get (.checkLoss i)).latch = true ∧
      (e.alarms.get (.checkLoss i)).count = addSat (d.alarms.get (.checkLoss i)).count 1 ∧
      (e.alarms.get (.checkLoss i)).time = d.time.seconds)
  rest : ((d.checkers.get i).state = .hunt → (d.checkers.get i).correctRun < 48) →
    ((d.checkers.get i).state = .sync → (d.checkers.get i).window.count true < 8) →
    e.checkers.get i = d.checkers.get i ∧ e.alarms.get (.checkLoss i) = d.alarms.get (.checkLoss i)
  quiet : ((e.checkers.get i).state = .hunt → (e.checkers.get i).correctRun < 48) ∧
    ((e.checkers.get i).state = .sync → (e.checkers.get i).window.count true < 8)

theorem Device.CheckerDone.congr (h : d.CheckerDone e i) {d' e' : Device} (checker : d'.checkers.get i = d.checkers.get i)
    (record : d'.alarms.get (.checkLoss i) = d.alarms.get (.checkLoss i)) (time : d'.time = d.time)
    (checker' : e'.checkers.get i = e.checkers.get i)
    (record' : e'.alarms.get (.checkLoss i) = e.alarms.get (.checkLoss i)) : d'.CheckerDone e' i := by
  obtain ⟨sync, loss, rest, quiet⟩ := h
  constructor
  · rw [checker, record, checker', record']
    exact sync
  · rw [checker, record, checker', record', time]
    exact loss
  · rw [checker, record, checker', record']
    exact rest
  · rw [checker']
    exact quiet

/-- Both changes of state of one checker, where they are due. -/
def Device.settleChecker (d : Device) (i : Ix2) : Device := (d.checkerSync i).checkerLoss i

theorem Device.checkerSync_due (hunt : (d.checkers.get i).state = .hunt) (run : 48 ≤ (d.checkers.get i).correctRun) :
    d.settleChecker i =
      (d.modChecker i fun c => { c with state := .sync, window := List.replicate 48 false }).deactivate (.checkLoss i) := by
  have first : d.checkerSync i = (d.modChecker i fun c =>
      { c with state := .sync, window := List.replicate 48 false }).deactivate (.checkLoss i) := if_pos ⟨hunt, run⟩
  rw [Device.settleChecker, first]
  refine if_neg fun ⟨_, errors⟩ => ?_
  change 8 ≤ ((d.checkers.set i _).get i).windowErrors at errors
  rw [Duo.get_set_self] at errors
  change 8 ≤ (List.replicate 48 false).count true at errors
  exact absurd errors (by decide)

theorem Device.checkerLoss_due (sync : (d.checkers.get i).state = .sync)
    (errors : 8 ≤ (d.checkers.get i).window.count true) :
    d.settleChecker i = (d.modChecker i Checker.hunt).activate (.checkLoss i) := by
  have first : d.checkerSync i = d := if_neg fun h => by
    have := h.1.symm.trans sync
    nomatch this
  rw [Device.settleChecker, first]
  exact if_pos ⟨sync, errors⟩

theorem Device.settleChecker_rest (run : (d.checkers.get i).state = .hunt → (d.checkers.get i).correctRun < 48)
    (errors : (d.checkers.get i).state = .sync → (d.checkers.get i).window.count true < 8) : d.settleChecker i = d := by
  have first : d.checkerSync i = d := if_neg fun h => absurd (run h.1) (not_lt.2 h.2)
  rw [Device.settleChecker, first]
  exact if_neg fun h => absurd (errors h.1) (not_lt.2 h.2)

theorem Device.settleChecker_done (d : Device) (i : Ix2) : d.CheckerDone (d.settleChecker i) i := by
  by_cases run : (d.checkers.get i).state = .hunt ∧ 48 ≤ (d.checkers.get i).correctRun
  · obtain ⟨hunt, run⟩ := run
    have made : (d.settleChecker i).checkers.get i =
        { d.checkers.get i with state := .sync, window := List.replicate 48 false } := by
      rw [Device.checkerSync_due hunt run]
      exact Duo.get_set_self _ _ _
    have record : (d.settleChecker i).alarms = d.alarms.deactivate d.time.seconds (.checkLoss i) := by
      rw [Device.checkerSync_due hunt run]
      rfl
    refine ⟨fun _ _ => ⟨made, ?_⟩, fun sync => ?_, fun less => absurd (less hunt) (not_lt.2 run), ?_⟩
    · rw [record, AlarmUnit.deactivate_get]
      split_ifs with on
      · exact ⟨rfl, rfl, rfl⟩
      · exact ⟨eq_false_of_ne_true fun h => on ⟨rfl, h⟩, rfl, rfl⟩
    · exact nomatch hunt.symm.trans sync
    · rw [made]
      exact ⟨nofun, fun _ => show (List.replicate 48 false).count true < 8 by decide⟩
  · by_cases errors : (d.checkers.get i).state = .sync ∧ 8 ≤ (d.checkers.get i).window.count true
    · obtain ⟨sync, errors⟩ := errors
      have made : (d.settleChecker i).checkers.get i = (d.checkers.get i).hunt := by
        rw [Device.checkerLoss_due sync errors]
        exact Duo.get_set_self _ _ _
      have record : (d.settleChecker i).alarms = d.alarms.activate d.time.seconds (.checkLoss i) := by
        rw [Device.checkerLoss_due sync errors]
        rfl
      refine ⟨fun hunt many => absurd ⟨hunt, many⟩ run, fun _ _ => ⟨made, ?_⟩,
        fun _ less => absurd (less sync) (not_lt.2 errors), ?_⟩
      · rw [record, AlarmUnit.activate_get]
        split_ifs with off
        · exact ⟨rfl, fun _ => ⟨rfl, rfl, rfl⟩⟩
        · have on := eq_true_of_ne_false fun h => off ⟨rfl, h⟩
          exact ⟨on, fun no => nomatch on.symm.trans no⟩
      · rw [made]
        exact ⟨fun _ => show 0 < 48 by decide, nofun⟩
    · have less (hunt : (d.checkers.get i).state = .hunt) : (d.checkers.get i).correctRun < 48 :=
        not_le.1 fun many => run ⟨hunt, many⟩
      have few (sync : (d.checkers.get i).state = .sync) : (d.checkers.get i).window.count true < 8 :=
        not_le.1 fun many => errors ⟨sync, many⟩
      rw [Device.settleChecker_rest less few]
      exact ⟨fun hunt many => absurd ⟨hunt, many⟩ run, fun sync many => absurd ⟨sync, many⟩ errors,
        fun _ _ => ⟨rfl, rfl⟩, less, few⟩

/-- Nothing of another checker or another condition changes, and no programme does. -/
theorem Device.settleChecker_other (d : Device) (i : Ix2) :
    (∀ j, j ≠ i → (d.settleChecker i).checkers.get j = d.checkers.get j) ∧
    (∀ a, a ≠ .checkLoss i → (d.settleChecker i).alarms.get a = d.alarms.get a) ∧
    (d.settleChecker i).progs = d.progs := by
  by_cases run : (d.checkers.get i).state = .hunt ∧ 48 ≤ (d.checkers.get i).correctRun
  · rw [Device.checkerSync_due run.1 run.2]
    refine ⟨fun j other => (Duo.get_set _ _ _ _).trans (if_neg other.symm), fun a other => ?_, rfl⟩
    exact (AlarmUnit.deactivate_get _ _ _ _).trans (if_neg fun h => other h.1)
  · by_cases errors : (d.checkers.get i).state = .sync ∧ 8 ≤ (d.checkers.get i).window.count true
    · rw [Device.checkerLoss_due errors.1 errors.2]
      refine ⟨fun j other => (Duo.get_set _ _ _ _).trans (if_neg other.symm), fun a other => ?_, rfl⟩
      exact (AlarmUnit.activate_get _ _ _ _).trans (if_neg fun h => other h.1)
    · rw [Device.settleChecker_rest (fun hunt => not_le.1 fun many => run ⟨hunt, many⟩)
        fun sync => not_le.1 fun many => errors ⟨sync, many⟩]
      exact ⟨fun _ _ => rfl, fun _ _ => rfl, rfl⟩

theorem Device.settleCheckers_eq (d : Device) : d.settleCheckers = (d.settleChecker 0).settleChecker 1 := rfl

theorem Device.settleCheckers_done (d : Device) (i : Ix2) : d.CheckerDone d.settleCheckers i := by
  obtain ⟨checkers, records, -⟩ := (d.settleChecker 0).settleChecker_other 1
  obtain ⟨checkers', records', -⟩ := d.settleChecker_other 0
  rw [d.settleCheckers_eq]
  fin_cases i
  · exact (d.settleChecker_done 0).congr rfl rfl rfl (checkers 0 (by decide)) (records _ (by decide))
  · exact ((d.settleChecker 0).settleChecker_done 1).congr (checkers' 1 (by decide)).symm (records' _ (by decide)).symm
      ((d.checkerSync_finishing 0).trans (Device.checkerLoss_finishing _ 0)).time.symm rfl rfl

theorem Device.settleCheckers_other (d : Device) : (∀ a, (∀ i, a ≠ .checkLoss i) →
    d.settleCheckers.alarms.get a = d.alarms.get a) ∧ d.settleCheckers.progs = d.progs := by
  obtain ⟨-, records, progs⟩ := (d.settleChecker 0).settleChecker_other 1
  obtain ⟨-, records', progs'⟩ := d.settleChecker_other 0
  exact ⟨fun a other => (records a (other 1)).trans (records' a (other 0)), progs.trans progs'⟩

theorem alarmOf_ne_checkLoss (x : Qualified × Ix8) (i : Ix2) : alarmOf x ≠ .checkLoss i := by
  obtain ⟨k, j⟩ := x
  cases k <;> nofun

/-! ## The requests of the timers (R69) -/

/-- A programme's timers at their limits make the automatic request for BACKUP. -/
def Device.asks (d : Device) (n : Ix8) : Prop :=
  d.mayAsk n ∧ ∃ x, d.concerns n x ∧ (d.alarms.get (alarmOf x)).expiry = .set

theorem Device.expire_asks (marks : d.marksSound) (may : d.mayAsk n) (concerns : d.concerns n x)
    (set : (d.alarms.get (alarmOf x)).expiry = .set) : (d.expire x).Shows n (d.prog n).asked := by
  rw [Device.expire_set marks set]
  have off := (marks.record (alarmOf x)).1 set
  have asks := ((d.activate (alarmOf x)).activationTests_prog (n := n) x (by
    change ((d.alarms.activate _ _).get _).active = true
    rw [AlarmUnit.activate_get, if_pos ⟨rfl, off⟩])).1 concerns may
  change ((d.alerted x).prog n).ctx = (d.prog n).asked at asks
  have mark : (d.prog n).ctx.returnDue = false := eq_false_of_ne_true fun due => by
    have backup := marks.2 n due
    obtain ⟨-, -, primary, -⟩ := may
    exact nomatch primary.symm.trans backup
  rw [← asks]
  exact (d.alerted x).reviseReports_shows n (by rw [asks]; rfl) (by rw [asks]; exact mark)

theorem Device.expire_still (marks : d.marksSound)
    (no : ¬ (d.concerns n x ∧ d.mayAsk n ∧ (d.alarms.get (alarmOf x)).expiry = .set)) :
    (d.expire x).prog n = d.prog n := by
  cases mark : (d.alarms.get (alarmOf x)).expiry with
  | none => rw [Device.expire_none mark]
  | clear => rw [Device.expire_clear marks mark]; rfl
  | set =>
    rw [Device.expire_set marks mark]
    have off := (marks.record (alarmOf x)).1 mark
    exact ((d.activate (alarmOf x)).activationTests_prog (n := n) x (by
      change ((d.alarms.activate _ _).get _).active = true
      rw [AlarmUnit.activate_get, if_pos ⟨rfl, off⟩])).2 fun ⟨concerns, may⟩ => no ⟨concerns, may, mark⟩

theorem Device.concerns_congr (prog : e.prog n = d.prog n) : e.concerns n x ↔ d.concerns n x := by
  unfold Device.concerns
  rw [prog]

/-- The timers at their limits leave the request of a programme that asks. -/
theorem Device.finishTimers_asks (marks : d.marksSound) (asks : d.asks n) : d.finishTimers.Shows n (d.prog n).asked := by
  obtain ⟨may, x, concerns, set⟩ := asks
  rw [d.finishTimers_eq]
  refine foldl_reaches
    (waits := fun e : Device => e.marksSound ∧ e.prog n = d.prog n ∧ e.alarms.get (alarmOf x) = d.alarms.get (alarmOf x))
    (done := fun e : Device => e.Shows n (d.prog n).asked) (x := x) ?_ ?_ ?_ qualifiedList (mem_qualifiedList x) d
    (.inl ⟨marks, rfl, rfl⟩)
  · rintro e ⟨sound, prog, record⟩
    rw [← prog]
    exact Device.expire_asks sound ((Device.mayAsk_congr prog).2 may) ((Device.concerns_congr prog).2 concerns)
      (by rw [record]; exact set)
  · rintro e a other ⟨sound, prog, record⟩
    by_cases also : e.concerns n a ∧ e.mayAsk n ∧ (e.alarms.get (alarmOf a)).expiry = .set
    · obtain ⟨concerned, may', set'⟩ := also
      rw [← prog]
      exact .inr (Device.expire_asks sound may' concerned set')
    · exact .inl ⟨Device.expire_marks sound, (Device.expire_still sound also).trans prog, by
        rw [Device.expire_get sound, if_neg fun h => other (alarmOf_injective h).symm, record]⟩
  · exact fun e a => (e.expire_finishing a).stays n _

/-- They leave every other programme as it is. -/
theorem Device.finishTimers_still (marks : d.marksSound) (no : ¬ d.asks n) : d.finishTimers.prog n = d.prog n := by
  rw [d.finishTimers_eq]
  refine (foldl_holds (P := fun e : Device => e.marksSound ∧ e.prog n = d.prog n ∧
    ∀ x, (e.alarms.get (alarmOf x)).expiry = .set → (d.alarms.get (alarmOf x)).expiry = .set) (fun e a h => ?_)
    qualifiedList d ⟨marks, rfl, fun _ => id⟩).2.1
  obtain ⟨sound, prog, sets⟩ := h
  refine ⟨Device.expire_marks sound, (Device.expire_still sound ?_).trans prog, fun x set => ?_⟩
  · rintro ⟨concerned, may, set⟩
    exact no ⟨(Device.mayAsk_congr prog).1 may, a, (Device.concerns_congr prog).1 concerned, sets a set⟩
  · rw [Device.expire_get sound] at set
    split_ifs at set with own
    · exact nomatch (AlarmRecord.expired_expiry _ _ _).symm.trans set
    · exact sets x set

/-! ## The returns (R70) -/

/-- A programme's return is due and its context is idle. -/
def Device.returns (d : Device) (n : Ix8) : Prop :=
  (d.prog n).ctx.returnDue = true ∧ (d.prog n).record.state = .active ∧ (d.prog n).ctx.state = .idle

/-- The context that waits in PENDING on the automatic request for PRIMARY. -/
def Programme.returned (x : Programme) : Context :=
  { x.ctx.pend x.record.settings .primary .auto with returnTimer := 0, returnDue := false }

theorem Device.returnExpiry_returns (due : d.returns n) : (d.returnExpiry n).Shows n (d.prog n).returned := by
  obtain ⟨mark, active, idle⟩ := due
  have run : d.returnExpiry n = (d.modCtx n fun c =>
      { c.pend (d.prog n).record.settings .primary .auto with returnTimer := 0, returnDue := false }).reviseReports := by
    rw [Device.returnExpiry, if_pos mark, if_pos ⟨active, idle⟩]
  rw [run]
  have ctx : ((d.modCtx n fun c => { c.pend (d.prog n).record.settings .primary .auto with
      returnTimer := 0, returnDue := false }).prog n).ctx = (d.prog n).returned := by
    rw [d.modCtx_prog, if_pos rfl]
    rfl
  rw [← ctx]
  exact Device.reviseReports_shows _ n (by rw [ctx]; rfl) (by rw [ctx]; rfl)

theorem Device.returnExpiry_rest (no : ¬ d.returns n) :
    ((d.returnExpiry n).prog n).ctx = { (d.prog n).ctx with returnDue := false } := by
  unfold Device.returnExpiry
  dsimp only
  split_ifs with mark idle
  · exact absurd ⟨mark, idle⟩ no
  · rw [d.modCtx_prog, if_pos rfl]
  · rw [← eq_false_of_ne_true mark]

theorem Device.reviseReports_prog (d : Device) (n : Ix8) : d.reviseReports.prog n = d.prog n := rfl

theorem Device.returnExpiry_other (d : Device) (other : n ≠ m) : (d.returnExpiry m).prog n = d.prog n := by
  unfold Device.returnExpiry
  dsimp only
  split_ifs
  · rw [Device.reviseReports_prog, d.modCtx_prog, if_neg other.symm]
  · rw [d.modCtx_prog, if_neg other.symm]
  · rfl

/-- The returns of all programmes, where they are due. -/
def Device.finishReturns (d : Device) : Device := forEight d Device.returnExpiry

theorem Device.finishReturns_finishing (d : Device) : d.Finishing d.finishReturns :=
  .forEight (fun n e => e.returnExpiry_finishing n) d

theorem Device.returnExpiry_frame (d : Device) (n : Ix8) : (d.returnExpiry n).alarms = d.alarms ∧
    (d.returnExpiry n).checkers = d.checkers := by
  unfold Device.returnExpiry
  dsimp only
  split_ifs <;> exact ⟨rfl, rfl⟩

theorem Device.finishReturns_frame (d : Device) : d.finishReturns.alarms = d.alarms ∧
    d.finishReturns.checkers = d.checkers :=
  forEight_holds (P := fun e : Device => e.alarms = d.alarms ∧ e.checkers = d.checkers)
    (fun e n h => ⟨(e.returnExpiry_frame n).1.trans h.1, (e.returnExpiry_frame n).2.trans h.2⟩) ⟨rfl, rfl⟩

theorem Device.finishReturns_returns (due : d.returns n) : d.finishReturns.Shows n (d.prog n).returned := by
  refine foldl_reaches (waits := fun e : Device => e.prog n = d.prog n)
    (done := fun e : Device => e.Shows n (d.prog n).returned) (x := n) (fun e same => ?_)
    (fun e a other same => .inl ((e.returnExpiry_other other.symm).trans same))
    (fun e a => (e.returnExpiry_finishing a).stays n _) eight (mem_eight n) d (.inl rfl)
  rw [← same]
  exact Device.returnExpiry_returns (by unfold Device.returns; rw [same]; exact due)

theorem Device.finishReturns_rest (no : ¬ d.returns n) :
    (d.finishReturns.prog n).ctx = { (d.prog n).ctx with returnDue := false } := by
  obtain ⟨b, -, same, there⟩ := forEight_at (f := Device.returnExpiry) (P := fun _ : Device => True)
    (fun n e => e.prog n) (fun _ _ _ => trivial) (fun e m n _ other => e.returnExpiry_other other) (a := d) trivial n
  have run : d.finishReturns.prog n = (b.returnExpiry n).prog n := there
  have same : b.prog n = d.prog n := same
  rw [run, Device.returnExpiry_rest (by unfold Device.returns; rw [same]; exact no), same]

end Sys2Proof.Machine
end

section
/-!
PROOF. What the checkers, the timers and the returns leave together, before the grant notices are taken (R69, R70, R148,
R170, R171, logs 24 and 42).
-/

namespace Sys2Proof.Machine

variable {d e f : Device} {n m : Ix8} {x y : Qualified × Ix8} {i j : Ix2}

/-- The part with the checkers, the timers and the returns done with. -/
def Device.settled (d : Device) : Device := d.settleCheckers.finishTimers.finishReturns

theorem Device.finish_eq (d : Device) : d.finish = d.settled.told := rfl

theorem Device.settled_finishing (d : Device) : d.Finishing d.settled :=
  (d.settleCheckers_finishing.trans (Device.finishTimers_finishing _)).trans (Device.finishReturns_finishing _)

theorem Device.finishReturns_keeps (d : Device) : d.Keeps d.finishReturns := .forEight (fun n e => e.returnExpiry_keeps n) d

theorem Device.settled_keeps (d : Device) : d.Keeps d.settled :=
  (d.settleCheckers_keeps.trans (Device.finishTimers_keeps _)).trans (Device.finishReturns_keeps _)

/-! ## The checkers -/

theorem Device.expire_checkers (d : Device) (x : Qualified × Ix8) : (d.expire x).checkers = d.checkers := by
  have clear (e : Device) : (e.clearTimerExpiry x.1 x.2).checkers = e.checkers := by
    unfold Device.clearTimerExpiry
    dsimp only
    split_ifs <;> rfl
  rw [Device.expire, clear]
  unfold Device.setTimerExpiry
  dsimp only
  split_ifs
  · change ((d.activate _).activationTests x.1 x.2).checkers = _
    rw [((d.activate (qualifiedAlarm x.1 x.2)).activationTests_ctxOnly x.1 x.2).frame]
    rfl
  · rfl

theorem Device.finishTimers_checkers (d : Device) : d.finishTimers.checkers = d.checkers := by
  rw [d.finishTimers_eq]
  exact foldl_holds (P := fun e : Device => e.checkers = d.checkers) (fun e x h => (e.expire_checkers x).trans h) _ _ rfl

theorem Device.settled_checkers (d : Device) : d.settled.checkers = d.settleCheckers.checkers :=
  (Device.finishReturns_frame _).2.trans d.settleCheckers.finishTimers_checkers

/-! ## What the checkers leave to the timers -/

theorem Device.settleCheckers_prog (d : Device) (n : Ix8) : d.settleCheckers.prog n = d.prog n :=
  congrArg (fun o => o.get n) d.settleCheckers_other.2

theorem Device.settleCheckers_asks : d.settleCheckers.asks n ↔ d.asks n := by
  have prog := d.settleCheckers_prog n
  unfold Device.asks
  rw [Device.mayAsk_congr prog]
  simp only [Device.concerns_congr prog, d.settleCheckers_other.1 _ (alarmOf_ne_checkLoss _)]

/-! ## The alarm records -/

section
variable (marks : d.marksSound)
include marks

theorem Device.settled_alarms (a : Alarm) (other : ∀ x, a ≠ alarmOf x) :
    d.settled.alarms.get a = d.settleCheckers.alarms.get a := by
  rw [Device.settled, (Device.finishReturns_frame _).1]
  exact Device.finishTimers_other (d.settleCheckers_keeps.marks marks) a other

theorem Device.settled_done (i : Ix2) : d.CheckerDone d.settled i :=
  (d.settleCheckers_done i).congr rfl rfl rfl (by rw [d.settled_checkers])
    (Device.settled_alarms marks _ fun x h => alarmOf_ne_checkLoss x i h.symm)

/-- Nothing but the qualified conditions and CHECK_LOSS changes. -/
theorem Device.settled_other (a : Alarm) (other : ∀ x, a ≠ alarmOf x) (loss : ∀ i, a ≠ .checkLoss i) :
    d.settled.alarms.get a = d.alarms.get a :=
  (Device.settled_alarms marks a other).trans (d.settleCheckers_other.1 a loss)

theorem Device.settled_get (x : Qualified × Ix8) : d.settled.alarms.get (alarmOf x) =
    (d.alarms.get (alarmOf x)).expired d.time.seconds (d.alarms.masks.get (alarmOf x).kind).notify := by
  have frame := d.settleCheckers_finishing
  rw [Device.settled, (Device.finishReturns_frame _).1, Device.finishTimers_get (d.settleCheckers_keeps.marks marks),
    frame.time, frame.masks, d.settleCheckers_other.1 _ (alarmOf_ne_checkLoss x)]

theorem Device.settled_expiry (a : Alarm) : (d.settled.alarms.get a).expiry = .none := by
  rcases (d.settled_keeps.marks marks).1 a with none | ⟨⟨k, i, same⟩, -⟩
  · exact none
  · rw [same]
    change (d.settled.alarms.get (alarmOf (k, i))).expiry = .none
    rw [Device.settled_get marks, AlarmRecord.expired_expiry]

/-! ## The contexts and the reports -/

/-- A programme that asks for BACKUP has no return due. -/
theorem Device.asks.not_due (asks : d.asks n) : (d.prog n).ctx.returnDue = false := by
  obtain ⟨⟨-, -, primary, -⟩, -⟩ := asks
  refine eq_false_of_ne_true fun due => ?_
  exact nomatch primary.symm.trans (marks.2 n due)

theorem Device.settled_asks (asks : d.asks n) : d.settled.Shows n (d.prog n).asked := by
  have shows := Device.finishTimers_asks (d.settleCheckers_keeps.marks marks)
    (Device.settleCheckers_asks.2 asks)
  rw [d.settleCheckers_prog] at shows
  exact (Device.finishReturns_finishing _).stays n _ shows

theorem Device.finishTimers_prog (no : ¬ d.asks n) : d.settleCheckers.finishTimers.prog n = d.prog n :=
  (Device.finishTimers_still (d.settleCheckers_keeps.marks marks)
    fun h => no (Device.settleCheckers_asks.1 h)).trans (d.settleCheckers_prog n)

theorem Device.settled_returns (due : d.returns n) : d.settled.Shows n (d.prog n).returned := by
  have same := Device.finishTimers_prog marks fun asks => nomatch (asks.not_due marks).symm.trans due.1
  have shows := Device.finishReturns_returns (d := d.settleCheckers.finishTimers) (n := n)
    (by unfold Device.returns; rw [same]; exact due)
  rw [same] at shows
  exact shows

theorem Device.settled_rest (no : ¬ d.asks n) (stays : ¬ d.returns n) :
    (d.settled.prog n).ctx = { (d.prog n).ctx with returnDue := false } := by
  have same := Device.finishTimers_prog marks no
  have rest := Device.finishReturns_rest (d := d.settleCheckers.finishTimers) (n := n)
    (by unfold Device.returns; rw [same]; exact stays)
  rw [same] at rest
  exact rest

theorem Device.settled_ctx (n : Ix8) : (d.settled.prog n).ctx.returnDue = false ∧
    (d.settled.prog n).ctx.selection = (d.prog n).ctx.selection := by
  by_cases asks : d.asks n
  · have shows := Device.settled_asks marks asks
    rw [shows.ctx]
    exact ⟨shows.mark, rfl⟩
  · by_cases due : d.returns n
    · rw [(Device.settled_returns marks due).ctx]
      exact ⟨rfl, rfl⟩
    · rw [Device.settled_rest marks asks due]
      exact ⟨rfl, rfl⟩

end

end Sys2Proof.Machine
end

section
/-!
PROOF. What a grant notice becomes: an EXACT trigger of its programme (R84, R94, R95, R103, log 23).
-/

namespace Sys2Proof.Machine

variable {d e f g : Device} {n k m : Ix8} {z : Member} {mode : RecalcMode} {host : Bool} {target : Line → Nat}

/-! ## A recalculation with nothing waiting in the pool brings no notice -/

theorem Device.Asked.notices (h : d.Asked g n target) : g.pool.notices = d.pool.notices := by
  cases h with
  | enough _ same => rw [same]
  | nothing _ _ same => rw [same]; rfl
  | waiting _ _ _ same => rw [same]; rfl
  | granted _ _ _ _ same => rw [same]

theorem Device.freed_pool (queue : d.pool.queue = []) : (d.freed n).pool.queue = [] ∧
    (d.freed n).pool.notices = d.pool.notices := by
  obtain ⟨back, pool⟩ := Device.returnExcess_free (d := d.requireAll n) (n := n) (by rw [d.requireAll_pool]; exact queue)
  rw [Device.freed, pool, d.requireAll_pool]
  exact ⟨queue, rfl⟩

theorem Device.recalculate_notices (active : d.active n = true) (queue : d.pool.queue = []) :
    (d.recalculate n .exact host).pool.notices = d.pool.notices := by
  obtain ⟨idle, notices⟩ := Device.freed_pool (n := n) queue
  obtain ⟨g, asked, run⟩ := Device.settleBlocks_asked (d := d.freed n) (n := n) (target := fun l => l.targetOf .exact)
    (by rw [Device.active, (d.freed_engine n).inState]; exact active) (by rw [Device.hasEntry, idle]; rfl)
    (by rw [idle]; exact fun _ => nofun) (fun _ _ => rfl)
  change ((((d.freed n).settleBlocks n fun l => l.targetOf .exact).reportShort n).startChange n host).pool.notices = _
  rw [run, (Device.startChange_started _ n host).pool, Device.reportShort_pool, Device.reline_pool, asked.notices, notices]

theorem Device.recalculate_others (active : d.active n = true) (queue : d.pool.queue = []) (other : k ≠ n) :
    (d.recalculate n .exact host).prog k = d.prog k := by
  obtain ⟨c, settled, run⟩ := Device.recalculate_resettled active queue host
  rw [run, (Device.startChange_started _ n host).others k other, Device.reportShort_prog, settled.others k other]

/-! ## The trigger -/

section
variable (queue : d.pool.queue = []) (notices : d.pool.notices = [])
include queue notices

theorem Device.fold_oneOnly : d.OneOnly (d.fold n mode host) n := by
  rw [Device.fold_unqueued (by rw [Device.hasEntry, queue]; rfl)]
  exact Device.folding_oneOnly queue notices _

theorem Device.trigger_tidy : (d.trigger n .exact host).pool.notices = [] ∧
    ∀ k, k ≠ n → (d.trigger n .exact host).prog k = d.prog k := by
  unfold Device.trigger
  split_ifs with active moves
  · have one := Device.fold_oneOnly (n := n) (mode := .exact) (host := host) queue notices
    exact ⟨one.notices, one.others⟩
  · exact ⟨(Device.recalculate_notices active queue).trans notices, fun k => Device.recalculate_others active queue⟩
  · exact ⟨notices, fun _ _ => rfl⟩

end

/-- A trigger folded leaves the lengths and the change in progress as they are. -/
theorem Device.fold_line (queue : d.pool.queue = []) (m : Ix8) : ((d.fold n mode host).line n m).d = (d.line n m).d ∧
    ((d.fold n mode host).line n m).dNew = (d.line n m).dNew ∧
    ((d.fold n mode host).line n m).change = (d.line n m).change := by
  rw [Device.fold_unqueued (by rw [Device.hasEntry, queue]; rfl)]
  obtain ⟨p, pDef⟩ : ∃ p, p = foldPending (d.prog n).delay.pending mode host := ⟨_, rfl⟩
  rw [← pDef, Device.folding, (Device.returnExcess_blocks _ n).spares n m]
  have line : ((d.requireAll n).modDelay n fun x => { x with pending := some p }).line n m = (d.requireAll n).line n m := by
    rw [Device.line, Device.prog_modDelay_self]
    rfl
  rw [line]
  cases there : (d.prog n).record.members[m.val]? with
  | none => rw [d.requireAll_eq, d.reline_line_unlisted n _ there]; exact ⟨rfl, rfl, rfl⟩
  | some z => rw [d.requireAll_line n there]; exact ⟨rfl, rfl, rfl⟩

/-- What an EXACT trigger without the host's mark leaves during a change. -/
theorem Device.fold_exact (queue : d.pool.queue = []) : ((d.fold n .exact false).prog n).delay.pending =
      some { mode := .exact, host := (d.prog n).delay.pending.elim false PendingRecalc.host } ∧
    ((d.fold n .exact false).prog n).delay.fade = (d.prog n).delay.fade ∧
    ((d.fold n .exact false).prog n).delay.tLines = (d.prog n).delay.tLines := by
  rw [Device.fold_unqueued (by rw [Device.hasEntry, queue]; rfl), d.folding_delay, foldPending_exact]
  exact ⟨rfl, rfl, rfl⟩

/-! ## What a recalculation is judged by -/

/-- Two parts agree in what a recalculation of a programme is judged by. -/
structure Device.SameJudged (d d' : Device) (n : Ix8) : Prop where
  record : (d'.prog n).record = (d.prog n).record
  delay : (d'.prog n).delay = (d.prog n).delay
  selection : (d'.prog n).ctx.selection = (d.prog n).ctx.selection
  ports : d'.ports = d.ports
  short : d'.alarms.get (.delayShort n) = d.alarms.get (.delayShort n)

namespace Device.SameJudged

variable {d' : Device} (h : d.SameJudged d' n)
include h

theorem line (m : Ix8) : d'.line n m = d.line n m := congrArg (fun x : Delay => x.lines.get m) h.delay

theorem port (p : Ix8) : d'.port p = d.port p := congrArg (fun x => x.get p) h.ports

theorem requiredOf (z : Member) : d'.requiredOf n z = d.requiredOf n z := by
  unfold Device.requiredOf Device.required
  rw [h.record, h.selection, h.port]

theorem changing : d'.changing n = d.changing n := by
  unfold Device.changing
  simp only [h.delay, h.record, h.line]

theorem active : d'.active n = d.active n := by
  unfold Device.active Device.inState
  rw [h.record]

theorem meets (idle : d'.hasEntry n = false) (holds : d.meets n mode) : d'.meets n mode := by
  obtain ⟨-, short, needs⟩ := holds
  refine ⟨idle, by rw [h.record]; exact short, fun m z listed => ?_⟩
  rw [h.record] at listed
  rw [h.requiredOf, h.line]
  exact needs m z listed

theorem recalculated (holds : d'.recalculated e n mode host) : d.recalculated e n mode host := by
  have line := h.line
  have required := h.requiredOf
  have port := h.port
  unfold Device.recalculated at *
  simp only [h.record, h.delay, h.selection, h.short, line, required, port] at holds
  exact holds

end Device.SameJudged

/-! ## The notice taken (R84) -/

/-- The part without its grant notices. -/
def Device.unnoticed (d : Device) : Device := d.modPool fun q => { q with notices := [] }

theorem Device.told_one {y : GrantNotice} (queue : d.pool.queue = []) (one : d.pool.notices = [y]) :
    d.told = d.unnoticed.trigger y.prog .exact false := by
  have some_ : d.pool.notices ≠ [] := by rw [one]; nofun
  have taken : d.takeNotice = d.unnoticed.trigger y.prog .exact false := by
    rw [Device.takeNotice, one]
    rfl
  have tidy := (Device.trigger_tidy (d := d.unnoticed) (n := y.prog) (host := false) queue rfl).1
  rw [Device.told, Device.takeNotices, if_neg some_, taken, Device.takeNotices, if_pos tidy]

theorem Device.told_notices (few : d.pool.notices = [] ∨ (d.pool.notices.length = 1 ∧ d.pool.queue = [])) :
    d.told.pool.notices = [] := by
  rcases few with none | ⟨one, queue⟩
  · rw [Device.told_of_none none, none]
  · obtain ⟨y, one⟩ := List.length_eq_one_iff.1 one
    rw [Device.told_one queue one]
    exact (Device.trigger_tidy (d := d.unnoticed) (n := y.prog) (host := false) queue rfl).1

end Sys2Proof.Machine
end

section
/-!
PROOF. What is left undone is done with: nothing of it is left, and the link is looked at before every command that could
find the difference (R181, R184, logs 15, 23, 24 and 42).
-/

namespace Sys2Proof.Machine

variable {d e : Device} {s : State} {n m : Ix8}

/-! ## Nothing left -/

theorem Device.told_expiry (marks : d.marksSound) (none : ∀ a, (d.alarms.get a).expiry = .none) (a : Alarm) :
    (d.told.alarms.get a).expiry = .none := by
  by_cases short : ∃ n, a = .delayShort n
  · obtain ⟨n, rfl⟩ := short
    rcases (d.told_keeps.marks marks).1 (.delayShort n) with none | ⟨⟨k, i, same⟩, -⟩
    · exact none
    · cases k <;> nomatch same
  · rw [d.told_short.get a fun n same => short ⟨n, same⟩]
    exact none a

theorem Device.finish_done (marks : d.marksSound)
    (few : d.pool.notices = [] ∨ (d.pool.notices.length = 1 ∧ d.pool.queue = [])) : d.finish.finished := by
  have engine := d.settled.told_engine
  rw [d.finish_eq]
  refine ⟨fun i => ?_, Device.told_expiry (d.settled_keeps.marks marks) (Device.settled_expiry marks), fun n => ?_,
    Device.told_notices (by rw [d.settled_finishing.pool]; exact few)⟩
  · rw [engine.checkers]
    exact (Device.settled_done marks i).quiet
  · rw [engine.prog]
    exact (Device.settled_ctx marks n).1

/-! ## The link (R181, R184) -/

theorem Device.finish_link (d : Device) : d.finish.link = { d.link with slots := d.finish.link.slots } := by
  rw [d.finish_eq, d.settled.told_engine.link, d.settled_finishing.link]

theorem Device.finish_served (served : d.linkServed) : d.finish.linkServed := by
  obtain ⟨slots, link⟩ : ∃ x, d.finish.link = { d.link with slots := x } := ⟨_, d.finish_link⟩
  unfold Device.linkServed at *
  rw [link]
  exact served

/-- The arbiter leaves an idle line only where nothing waits for it. -/
theorem Device.arbitrate_calm (done : d.finished) (served : d.linkServed) : d.arbitrate.calm ∧ d.arbitrate.linkServed := by
  by_cases held : d.link.line.isSome = true ∨ d.link.restart = .due
  · rw [Device.arbitrate_held held]
    refine ⟨⟨done, held.imp_right .inl, ?_⟩, served⟩
    rcases served with queue | ⟨-, busy⟩ | due
    · exact .inl queue
    · exact .inr busy
    · refine .inr ?_
      rw [Link.ready, due]
      exact Bool.and_false _
  · obtain ⟨idle, open_⟩ := not_or.1 held
    have line : d.link.line = none := Option.not_isSome_iff_eq_none.1 idle
    have queue : d.link.queue = [] := served.resolve_right fun h => h.elim (fun busy => idle busy.1) open_
    cases replies : d.link.replies with
    | cons r rest =>
      rw [Device.arbitrate_reply line open_ replies]
      exact ⟨⟨done, .inl rfl, .inl queue⟩, .inl queue⟩
    | nil =>
      cases notices : d.alarms.queue with
      | cons q rest =>
        rw [Device.arbitrate_notice line open_ replies notices]
        exact ⟨⟨Device.finished_of_same done (d.alarms.dropNotice_expiry q.alarm) rfl rfl rfl, .inl rfl, .inl queue⟩,
          .inl queue⟩
      | nil =>
        cases first : d.link.firstReport with
        | some x =>
          obtain ⟨n, r⟩ := x
          rw [Device.arbitrate_report line open_ replies notices first]
          exact ⟨⟨done, .inl rfl, .inl queue⟩, .inl queue⟩
        | none =>
          rw [Device.arbitrate_nothing line open_ replies notices first]
          exact ⟨⟨done, .inr (.inr ⟨replies, notices, first⟩), .inl queue⟩, .inl queue⟩

theorem Device.catchUp_eq (done : d.finish.finished) (served : d.linkServed) : d.catchUp = d.finish.arbitrate := by
  rw [Device.catchUp, Device.settleLink, Device.execute_served (Device.arbitrate_calm done (Device.finish_served served)).2]

theorem Device.catchUp_isCalm (done : d.finish.finished) (served : d.linkServed) : d.catchUp.calm := by
  rw [Device.catchUp_eq done served]
  exact (Device.arbitrate_calm done (Device.finish_served served)).1

theorem State.update_congr {f : Device → Device} (same : f s.dev = f e) :
    s.update f = ({ s with dev := e } : State).update f := by
  unfold State.update
  rw [same]

/-- The command at a line that comes free begins with what is left undone (R184). -/
theorem exec_lineFree_finish (done : s.dev.finish.finished) :
    exec .transmitLineFree s = exec .transmitLineFree { s with dev := s.dev.finish } := by
  have same : s.dev.finish.transmitLineFree = s.dev.transmitLineFree := by
    rw [Device.transmitLineFree, Device.finish_finished done]
    rfl
  exact State.update_congr same.symm

/-! ## Commands on a part that has caught up (log 15) -/

section
variable (calm : s.dev.catchUp.calm)
include calm

theorem State.prompt_caughtUp (f : Device → Device) : s.prompt f = ({ s with dev := s.dev.catchUp } : State).prompt f :=
  State.update_congr (f := fun d => f d.catchUp) (congrArg f (Device.catchUp_calm calm).symm)

theorem Device.completeFrame_caughtUp (body : List Byte) :
    s.dev.catchUp.completeFrame body = s.dev.completeFrame body := by
  rw [Device.completeFrame, Device.catchUp_calm calm]
  rfl

theorem State.requestFrame_caughtUp {body : List Byte} (fits : bodyFits body = true) :
    s.update (fun d => d.requestFrame body) =
      ({ s with dev := s.dev.catchUp } : State).update fun d => d.requestFrame body := by
  have same : s.dev.catchUp.requestFrame body = s.dev.requestFrame body := by
    rw [Device.requestFrame, if_pos fits, Device.completeFrame_caughtUp calm, Device.requestFrame, if_pos fits]
  exact State.update_congr same.symm

theorem State.request_caughtUp (tag : Byte) (r : Request) (fits : bodyFits (requestBody tag r) = true) :
    s.request tag r = ({ s with dev := s.dev.catchUp } : State).request tag r :=
  State.requestFrame_caughtUp calm fits

theorem exec_frameReceived_caughtUp {body : List Byte} (fits : bodyFits body = true) {crc : BitVec 16}
    (good : crc = frameCrc body) :
    exec (.frameReceived body crc) s = exec (.frameReceived body crc) { s with dev := s.dev.catchUp } := by
  subst good
  rw [exec_frameReceived, exec_frameReceived, Device.frameReceived_good fits, Device.frameReceived_good fits,
    Device.completeFrame_caughtUp calm]

end

theorem exec_lineFree_caughtUp (done : s.dev.finish.finished) (served : s.dev.linkServed) :
    exec .transmitLineFree s = exec .transmitLineFree { s with dev := s.dev.catchUp } := by
  have calm := Device.catchUp_isCalm done served
  have again : s.dev.catchUp.arbitrate = s.dev.catchUp := by
    have settled := Device.settleLink_calm calm
    have twice := Device.arbitrate_calm calm.1 (by
      rw [Device.catchUp_eq done served]
      exact (Device.arbitrate_calm done (Device.finish_served served)).2)
    rw [Device.settleLink, Device.execute_served twice.2] at settled
    exact settled
  have same : s.dev.catchUp.transmitLineFree = s.dev.transmitLineFree := by
    rw [Device.transmitLineFree, Device.finish_finished calm.1, again, Device.transmitLineFree,
      ← Device.catchUp_eq done served]
  exact State.update_congr same.symm

/-- The operation of a command that begins with what is left undone and is neither a frame's completion nor the line's
coming free. -/
def promptedBy : Instr → Option (Device → Device)
  | .subBlockEnd => some Device.subBlockEnd
  | .secondBoundary => some Device.secondBoundary
  | .presenceWindowEnd => some Device.presenceWindowEnd
  | .frameArrival p f => some fun d => d.frameArrival p f
  | .laneDarkTimeout p => some fun d => d.laneDark p
  | .intervalEnd p => some fun d => d.intervalEnd p
  | .lockCountExpiry p => some fun d => d.lockCountExpiry p
  | .underrunWaitEnd p => some fun d => d.underrunWaitEnd p
  | .converterFadeInEnd p => some fun d => d.converterFadeInEnd p
  | .holdoverFadeOutEnd p => some fun d => d.holdoverFadeOutEnd p
  | .holdoverRefillEnd p => some fun d => d.holdoverRefillEnd p
  | .holdoverTimerExpiry p => some fun d => d.holdoverTimerExpiry p
  | .crossfadeStart n => some fun d => d.crossfadeStart n
  | .crossfadeCompletion n => some fun d => d.crossfadeCompletion n
  | .slewAction n m => some fun d => d.slewAction n m
  | .fadeOutEnd n => some fun d => d.fadeOutEnd n
  | .freezeEnd n m => some fun d => d.freezeEnd n m
  | .gapEnd n => some fun d => d.gapEnd n
  | .fadeInEnd n => some fun d => d.fadeInEnd n
  | .stopFadeEnd n => some fun d => d.stopFadeEnd n
  | .appliedGainRampEnd n m => some fun d => d.appliedGainRampEnd n m
  | .trimRampEnd n => some fun d => d.trimRampEnd n
  | _ => none

theorem exec_prompted {c : Instr} {f : Device → Device} (h : promptedBy c = some f) : exec c s = s.prompt f := by
  cases c
  case subBlockEnd | secondBoundary | presenceWindowEnd | frameArrival | laneDarkTimeout | intervalEnd |
      lockCountExpiry | underrunWaitEnd | converterFadeInEnd | holdoverFadeOutEnd | holdoverRefillEnd |
      holdoverTimerExpiry | crossfadeStart | crossfadeCompletion | slewAction | fadeOutEnd | freezeEnd | gapEnd |
      fadeInEnd | stopFadeEnd | appliedGainRampEnd | trimRampEnd =>
    cases h
    rfl
  all_goals nomatch h

/-- A command that could find the difference begins with what is left undone. -/
theorem exec_caughtUp (done : s.dev.finish.finished) (served : s.dev.linkServed) (c : Instr) (begins : c.catchesUp = true)
    (formed : c.wellFormed = true) : exec c s = exec c { s with dev := s.dev.catchUp } := by
  have calm := Device.catchUp_isCalm done served
  cases request : c.request with
  | some x =>
    obtain ⟨tag, r⟩ := x
    rw [exec_request request, exec_request request]
    exact State.requestFrame_caughtUp calm (bodyFits_request request formed)
  | none =>
    cases c
    case transmitLineFree => exact exec_lineFree_caughtUp done served
    case frameReceived body crc =>
      exact exec_frameReceived_caughtUp calm (bodyFits_of_fitsFrame formed) (beq_iff_eq.1 begins)
    case unknownType type tag fields =>
      exact State.requestFrame_caughtUp calm (bodyFits_of_fitsFrame ((Bool.and_eq_true _ _).mp formed).2)
    case subBlockEnd | secondBoundary | presenceWindowEnd | frameArrival | laneDarkTimeout | intervalEnd |
        lockCountExpiry | underrunWaitEnd | converterFadeInEnd | holdoverFadeOutEnd | holdoverRefillEnd |
        holdoverTimerExpiry | crossfadeStart | crossfadeCompletion | slewAction | fadeOutEnd | freezeEnd | gapEnd |
        fadeInEnd | stopFadeEnd | appliedGainRampEnd | trimRampEnd =>
      rw [exec_prompted rfl, exec_prompted rfl]
      exact State.prompt_caughtUp calm _
    case powerOnReset | lineReset | houseSample | returnTimerExpiry | grant | setTimerExpiry | clearTimerExpiry |
        checkerSync | checkerLoss | interByteTimeout | restartPerformed | receivedByte =>
      nomatch begins
    all_goals nomatch request

end Sys2Proof.Machine
end

section
/-!
PROOF. What an earlier command left undone, and what each part of it becomes (R70, R84, R148, R170, R171, R184, logs 15,
23, 24, 42 and 48).
-/

namespace Sys2Proof.Machine

variable {d e : Device} {s : State} {n k m : Ix8}

/-! ## Checkers, conditions and contexts once all is done -/

theorem Device.finish_checker (marks : d.marksSound) (i : Ix2) : d.CheckerDone d.finish i :=
  (Device.settled_done marks i).congr rfl rfl rfl (by rw [d.finish_eq, d.settled.told_engine.checkers])
    (by rw [d.finish_eq, d.settled.told_short.get (.checkLoss i) fun _ h => nomatch h])

theorem Device.finish_qualified (marks : d.marksSound) (q : Qualified) (i : Ix8) :
    d.finish.alarms.get (qualifiedAlarm q i) = (d.alarms.get (qualifiedAlarm q i)).expired d.time.seconds
      (d.alarms.masks.get (qualifiedAlarm q i).kind).notify := by
  have other (n : Ix8) : qualifiedAlarm q i ≠ .delayShort n := by cases q <;> nofun
  rw [d.finish_eq, d.settled.told_short.get _ other]
  exact Device.settled_get marks (q, i)

theorem Device.finish_ctx (d : Device) (n : Ix8) : (d.finish.prog n).ctx = (d.settled.prog n).ctx := by
  rw [d.finish_eq, d.settled.told_engine.prog]

theorem Device.finish_slots (d : Device) : d.finish.link.slots = d.settled.link.slots := by
  rw [d.finish_eq, d.settled.told_engine.link]

theorem Device.finish_prog (d : Device) (n : Ix8) :
    d.finish.prog n = { d.prog n with ctx := (d.finish.prog n).ctx, delay := (d.finish.prog n).delay } := by
  rw [d.finish_eq, d.settled.told_engine.prog, d.settled_finishing.prog]

theorem Device.asks_iff (d : Device) (n : Ix8) : d.asks n ↔
    ((d.prog n).record.state = .active ∧ (d.prog n).record.settings.changeoverMode ≠ .manual ∧
      (d.prog n).ctx.selection = .primary ∧ (d.prog n).ctx.state = .idle ∧ (d.prog n).ctx.backupHealthy = true ∧
      ((d.alarms.get (.silence n)).expiry = .set ∨
        ∃ z ∈ (d.prog n).record.members, (d.alarms.get (.unlock z.primary.port)).expiry = .set)) := by
  constructor
  · rintro ⟨⟨active, auto, primary, idle, healthy⟩, x, rfl | ⟨z, member, rfl⟩, set⟩
    · exact ⟨active, auto, primary, idle, healthy, .inl set⟩
    · exact ⟨active, auto, primary, idle, healthy, .inr ⟨z, member, set⟩⟩
  · rintro ⟨active, auto, primary, idle, healthy, set | ⟨z, member, set⟩⟩
    · exact ⟨⟨active, auto, primary, idle, healthy⟩, _, .inl rfl, set⟩
    · exact ⟨⟨active, auto, primary, idle, healthy⟩, _, .inr ⟨z, member, rfl⟩, set⟩

theorem Programme.asked_eq (x : Programme) : x.asked = { x.ctx with
    state := .pending, target := some (.backup, .auto), holdTimer := 0
    startDue := decide (x.ctx.quiet = 960 ∨ x.record.settings.holdLimit ≤ 0) } := Context.pend_eq ..

theorem Programme.returned_eq (x : Programme) : x.returned = { x.ctx with
    state := .pending, target := some (.primary, .auto), holdTimer := 0, returnTimer := 0, returnDue := false
    startDue := decide (x.ctx.quiet = 960 ∨ x.record.settings.holdLimit ≤ 0) } := by
  rw [Programme.returned, Context.pend_eq]

/-- The reports of a sub-block end show a request made at it. -/
theorem Device.Shows.finish {c : Context} (shows : d.settled.Shows n c) {r q : Report}
    (slot : d.finish.link.slots.get n = some q)
    (same : q = { r with ctx := q.ctx }) (taken : d.time.boundary = .taken) (now : r.h = d.time.h) : q.ctx = .pending := by
  rw [d.finish_slots] at slot
  have time := d.settled_finishing.time
  refine shows.reports q slot (by rw [time]; exact taken) ?_
  rw [same, time]
  exact now

/-! ## The notice -/

theorem Device.unnoticed_prog (d : Device) (n : Ix8) : d.unnoticed.prog n = d.prog n := rfl

theorem Device.unnoticed_pool (d : Device) : d.unnoticed.pool = { d.pool with notices := [] } := rfl

theorem Device.SameJudged.unnoticed (h : d.SameJudged e n) : d.SameJudged e.unnoticed n :=
  ⟨h.record, h.delay, h.selection, h.ports, h.short⟩

theorem Device.settled_judged (marks : d.marksSound) (n : Ix8) : d.SameJudged d.settled.unnoticed n := by
  refine Device.SameJudged.unnoticed ⟨d.settled_finishing.record n, d.settled_finishing.delay n,
    (Device.settled_ctx marks n).2, d.settled_finishing.ports,
    Device.settled_other marks _ (fun ⟨q, i⟩ => ?_) fun i h => nomatch h⟩
  cases q <;> exact fun h => nomatch h

/-- What a notice of a programme leaves. -/
structure Device.Noticed (d e : Device) (n : Ix8) : Prop where
  others : ∀ k, k ≠ n → (e.prog k).delay = (d.prog k).delay
  unheard : (d.prog n).record.state ≠ .active →
    e.pool = { d.pool with notices := [] } ∧ (e.prog n).delay = (d.prog n).delay
  required : (d.prog n).record.state = .active → ∀ (m : Ix8) (z : Member), (d.prog n).record.members[m.val]? = some z →
    (e.line n m).dReq = d.requiredOf n z
  folded : (d.prog n).record.state = .active → d.changing n = true →
    (e.prog n).delay.pending =
      some { mode := .exact, host := (d.prog n).delay.pending.elim false PendingRecalc.host } ∧
    (e.prog n).delay.fade = (d.prog n).delay.fade ∧ (e.prog n).delay.tLines = (d.prog n).delay.tLines ∧
    ∀ m, (e.line n m).d = (d.line n m).d ∧ (e.line n m).dNew = (d.line n m).dNew ∧
      (e.line n m).change = (d.line n m).change
  recalculated : (d.prog n).record.state = .active → d.changing n = false → d.meets n .exact →
    d.recalculated e n .exact false

theorem Device.finish_noticed (marks : d.marksSound) (queue : d.pool.queue = []) {g : GrantNotice}
    (one : d.pool.notices = [g]) : d.Noticed d.finish g.prog := by
  obtain ⟨n, nDef⟩ : ∃ n, n = g.prog := ⟨_, rfl⟩
  have pool := d.settled_finishing.pool
  have judged := Device.settled_judged marks n
  have told := Device.told_one (d := d.settled) (by rw [pool]; exact queue) (by rw [pool]; exact one)
  rw [← d.finish_eq, ← nDef] at told
  have delays (k : Ix8) : (d.settled.unnoticed.prog k).delay = (d.prog k).delay := by
    rw [Device.unnoticed_prog, d.settled_finishing.delay]
  have hPool : d.settled.unnoticed.pool = { d.pool with notices := [] } := by
    rw [Device.unnoticed_pool, pool]
  have hQueue : d.settled.unnoticed.pool.queue = [] := by rw [hPool]; exact queue
  have idle : d.settled.unnoticed.hasEntry n = false := by rw [Device.hasEntry, hQueue]; rfl
  rw [told, ← nDef]
  obtain ⟨h, hDef⟩ : ∃ h, h = d.settled.unnoticed := ⟨_, rfl⟩
  rw [← hDef] at judged delays hPool hQueue idle ⊢
  have hActive (active : (d.prog n).record.state = .active) : h.active n = true :=
    judged.active.trans (Device.active_iff.2 active)
  have tidy := Device.trigger_tidy (d := h) (n := n) (host := false) hQueue (by rw [hPool])
  refine ⟨fun k other => ?_, fun rests => ?_, fun active m z listed => ?_, fun active moves => ?_,
    fun active still meets => ?_⟩
  · rw [tidy.2 k other, delays]
  · have same : h.trigger n .exact false = h := if_neg fun on => rests (Device.active_iff.1 (judged.active.symm.trans on))
    rw [same]
    exact ⟨hPool, delays n⟩
  · rw [Device.trigger_required (hActive active) .exact false (by rw [judged.record]; exact listed), judged.requiredOf]
  · have same : h.trigger n .exact false = h.fold n .exact false := by
      rw [Device.trigger, if_pos (hActive active), if_pos (judged.changing.trans moves)]
    obtain ⟨pending, fade, tLines⟩ := Device.fold_exact (d := h) (n := n) hQueue
    rw [same, pending, fade, tLines, delays]
    refine ⟨rfl, rfl, rfl, fun m => ?_⟩
    rw [← judged.line]
    exact Device.fold_line hQueue m
  · have same : h.trigger n .exact false = h.recalculate n .exact false := by
      rw [Device.trigger, if_pos (hActive active), if_neg (by rw [judged.changing, still]; nofun)]
    rw [same]
    exact judged.recalculated (Device.recalculate_recalculated (judged.meets idle meets) (judged.changing.trans still) false)

/-! ## The link looked at -/

theorem Device.catchUp_of_arbitrate (queue : e.link.queue = []) (took : d.finish.arbitrate = e) : d.catchUp = e := by
  rw [Device.catchUp, Device.settleLink, took, Device.execute_empty queue]

/-- What the arbiter makes of an idle line with no frame waiting. -/
theorem Device.settleLink_idle (line : d.link.line = none) (restart : d.link.restart ≠ .due) (queue : d.link.queue = []) :
    (∀ r rest, d.link.replies = r :: rest → d.settleLink = { d with link := { d.link with
      replies := rest, line := some { frames := r.bodies.map frameOf, isRestart := r.isRestart } } }) ∧
    (∀ q rest, d.link.replies = [] → d.alarms.queue = q :: rest → d.settleLink = { d with
      alarms := d.alarms.dropNotice q.alarm
      link := { d.link with line := some { frames := [frameOf q.body], isRestart := false } } }) ∧
    (∀ (n : Ix8) (r : Report), d.link.replies = [] → d.alarms.queue = [] → d.link.slots.get n = some r →
      (∀ k : Ix8, k < n → d.link.slots.get k = none) → d.settleLink = { d with link := { d.link with
        slots := d.link.slots.set n none, line := some { frames := [frameOf r.body], isRestart := false } } }) ∧
    (d.link.replies = [] → d.alarms.queue = [] → (∀ k : Ix8, d.link.slots.get k = none) → d.settleLink = d) := by
  have next {e : Device} (took : d.arbitrate = e) (queue : e.link.queue = []) : d.settleLink = e := by
    rw [Device.settleLink, took, Device.execute_empty queue]
  exact ⟨fun r rest waits => next (Device.arbitrate_reply line restart waits) queue,
    fun q rest none waits => next (Device.arbitrate_notice line restart none waits) queue,
    fun n r none quiet slot lower =>
      next (Device.arbitrate_report line restart none quiet (Link.firstReport_eq slot lower)) queue,
    fun none quiet slots => next (Device.arbitrate_nothing line restart none quiet (Link.firstReport_none slots)) queue⟩

/-- Settles O2: each part of what was left by its own lemma, then the link. -/
theorem commandsFindNothingLeftUndone : Obligations.CommandsFindNothingLeftUndone := by
  rintro ⟨waiting, d⟩ marks few
  dsimp only at marks few ⊢
  have done : d.finish.finished := Device.finish_done marks few
  have finishing := d.settled_finishing
  have engine := d.settled.told_engine
  refine ⟨done, ?_, fun h => Device.finish_finished h, Device.catchUp_calm, fun served => ?_, fun i => ?_, fun q i => ?_,
    fun n => ?_,
    fun none => ?_, fun g one => ?_, ?_, fun queue held => ?_, fun queue line restart => ?_⟩
  · exact exec_lineFree_finish (s := ⟨waiting, d⟩) done
  · exact ⟨Device.catchUp_isCalm done served, exec_caughtUp (s := ⟨waiting, d⟩) done served⟩
  · obtain ⟨sync, loss, rest, -⟩ := Device.finish_checker marks i
    exact ⟨sync, loss, rest⟩
  · exact Device.finish_qualified marks q i
  · obtain ⟨gone, kept⟩ := finishing.slots n
    rw [← d.finish_slots] at gone kept
    refine ⟨d.finish_prog n, fun a => ?_, fun r => ?_, fun noAsk noReturn => ?_, gone, fun r there => ?_⟩
    · rw [d.finish_ctx, (Device.settled_asks marks ((d.asks_iff n).2 a)).ctx, Programme.asked_eq]
    · rw [d.finish_ctx, (Device.settled_returns marks r).ctx, Programme.returned_eq]
    · rw [d.finish_ctx, Device.settled_rest marks (fun a => noAsk ((d.asks_iff n).1 a)) noReturn]
    · obtain ⟨q, slot, same⟩ := kept r there
      refine ⟨q, slot, same, fun either taken fresh => ?_⟩
      rcases either with a | r
      · exact (Device.settled_asks marks ((d.asks_iff n).2 a)).finish slot same taken fresh
      · exact (Device.settled_returns marks r).finish slot same taken fresh
  · have still : d.settled.pool.notices = [] := by rw [finishing.pool]; exact none
    rw [d.finish_eq, Device.told_of_none still]
    exact ⟨finishing.pool, finishing.delay⟩
  · have queue : d.pool.queue = [] := by
      refine few.elim (fun none => ?_) And.right
      exact nomatch none.symm.trans one
    obtain ⟨others, unheard, required, folded, recalculated⟩ := Device.finish_noticed marks queue one
    exact ⟨others, unheard, fun active => ⟨required active, folded active, recalculated active⟩⟩
  · rw [← d.finish_eq] at engine
    exact ⟨engine.time.trans finishing.time, engine.ports.trans finishing.ports, engine.mem.trans finishing.mem,
      engine.map.trans finishing.map, engine.formed.trans finishing.formed, engine.emitted.trans finishing.emitted,
      d.finish_link⟩
  · refine Device.catchUp_of_arbitrate (by rw [d.finish_link]; exact queue) (Device.arbitrate_held ?_)
    rw [d.finish_link]
    exact held
  · have line' : d.finish.link.line = none := by rw [d.finish_link]; exact line
    have open_ : d.finish.link.restart ≠ .due := by rw [d.finish_link]; exact restart
    have queue' : d.finish.link.queue = [] := by rw [d.finish_link]; exact queue
    have replies : d.finish.link.replies = d.link.replies := by rw [d.finish_link]
    have idle := Device.settleLink_idle line' open_ queue'
    rw [replies] at idle
    exact idle

end Sys2Proof.Machine
end
